-- ==== Sys2Proof/Word.lean ====
section
/-! DEFINITION. The word types of the G1M's registers and byte strings (R4, R5). -/

namespace Sys2Proof

/-- One byte on a wire or in a store. -/
abbrev Byte := BitVec 8

/-- A byte string in the order sent or received. -/
abbrev Bytes := List Byte

/-- A 32-bit register value. -/
abbrev Word := BitVec 32

end Sys2Proof
end

