-- ==== Sys2Proof/Syntax.lean ====
section
/-! DEFINITION. The commands of the G1M as a block: one constructor of `Instr` for each row of spec/opcode_table.json,
with the operands that its step takes from outside. -/

namespace Sys2Proof

/-- The port codes of ORIGIN (R363). `none` is the G1M's own agents. -/
inductive Port where
  | none | uplink0 | uplink1 | service | seal | config | sd | plc | radio | t1s
  deriving DecidableEq, Repr

/-- The clock domains of R442, in its order. -/
inductive Dom where
  | SYS | DDR | NAND | UPL | PTP | PLC | RF | T1S | DISP | MAINS | AON | SVC
  deriving DecidableEq, Repr

/-- What an HCP request brings beside its body (R292): the arriving port, the sender's address and UDP port, REQID, CLASS,
whether the frame came protected, whether it was demoted (R208), REF and the first 4 B of the body (R381). -/
structure Req where
  port : Port
  src : Nat := 0
  sport : Nat := 0
  reqid : Nat := 0
  cls : Nat := 2
  prot : Bool := true
  outprof : Bool := false
  ref : Bytes := []
  head : Nat := 0
  deriving DecidableEq, Repr

/-- The slot fields of PROVISION and UPDATE (R296). `key` is the 64 B public key entry of stage 5. -/
structure SlotFields where
  profile : Nat
  minkv : Nat
  seed : Nat
  flags : Nat
  node : Nat
  scheme : Nat
  pmax : Nat
  key : Bytes
  deriving DecidableEq, Repr

/-- What a PTP announce message carries (R28, R43): the announce interval in ns, currentUtcOffset, its valid flag and
the leap flags. -/
structure Announce where
  interval : Nat
  utc : Nat
  utcValid : Bool
  leap61 : Bool
  leap59 : Bool
  deriving DecidableEq, Repr

/-- What the mains sense measures at a positive-going crossing of phase A (R44, R46): the frequency in units of 2^-16 Hz,
the phase error in angle units (0 to 65,535), the amplitudes in percent of full scale and the displacements of B and C. -/
structure Crossing where
  freq : Nat
  err : Nat
  ampA : Nat
  ampB : Nat
  ampC : Nat
  dispB : Nat
  dispC : Nat
  deriving DecidableEq, Repr

/-- The kinds of power-line frame that R490 and R233 tell apart. -/
inductive PlcKind where
  | data      -- a fragment of an adaptation-layer datagram
  | mac       -- MAC command, LBP or LOADng frame: consumed (R490)
  | tonemap   -- tone map response: consumed
  | toneReq   -- tone map request: answered
  | other     -- a frame that the modem cannot handle (R227)
  deriving DecidableEq, Repr

/-- The Plasin capability element of R240. -/
structure CapElem where
  version : Nat
  caps : Nat
  angle : Nat
  masks : List Nat
  deriving DecidableEq, Repr

/-- A sample of a received symbol (R234): its magnitude, and whether the converter reached full scale on it. -/
structure Sample where
  mag : Nat
  full : Bool
  deriving DecidableEq, Repr

/-- A symbol as a receive channel gets it (R234 to R237): its samples, and what the demodulator makes of them: the mean carrier magnitude, the soft value
of each carrier, the SNR in dB of each carrier group. -/
structure PlcSym where
  samples : List Sample
  level : Nat
  soft : List Int
  snr : List Int
  deriving DecidableEq, Repr

/-- A frame on a power-line receive channel (R233) at the end of its preamble: the check results, whether it is secured and marked HATCHED (R243), the
sender's short address, its LQI, the MAC header bytes of the fragment, the datagram tag, the number of fragments, the fragment's place and
its expanded bytes, the mean SNR, the preamble's level, the symbols, its element, and of a tone map response the tone map, the modulation
and the LQI that it reports. -/
structure PlcRx where
  ch : Nat
  ok : Bool
  secured : Bool
  hatched : Bool
  kind : PlcKind
  saddr : Nat
  lqi : Nat
  mac : Bytes
  tag : Nat
  frags : Nat
  part : Nat
  data : Bytes
  snr : Int
  level : Nat
  syms : List PlcSym
  elem : Option CapElem
  tmap : Nat
  mod : Nat
  lqif : Nat
  deriving DecidableEq, Repr

/-- A wireless M-Bus frame at a demodulator (R250, R255): the CRC result, the frame from the L-field on with its CRC fields
removed, the levels of paths A and B in dBm, the frequency offset in Hz, whether application firmware marks it repeated (R260), and whether
the preamble found every demodulator of its row and mode busy, or the frame was lost to blanking (R252). -/
structure RadioRx where
  dm : Nat
  crc : Bool
  frame : Bytes
  rssi : Int
  rssiB : Int
  fofs : Int
  relayed : Bool
  missed : Bool
  blanked : Bool
  deriving DecidableEq, Repr

/-- What comes in on an uplink (R211, R279): a frame from its destination address on, as MACsec delivers it, without SecTAG, ICV and FCS; a
fragment of a preempted frame (whether it is the first, whether the last, whether its count and its check sequence are right) with its piece of such a
frame; or the verify or respond frame of IEEE 802.3br. -/
inductive UpPayload where
  | frame (b : Bytes)
  | part (start last good : Bool) (b : Bytes)
  | verify
  | respond
  deriving DecidableEq, Repr

/-- A frame on an uplink: protected or not, whether MACsec validation passes under the key numbers held, its packet number, and what it
carries. Of a preempted frame the last fragment tells these. -/
structure UplinkRx where
  up : Nat
  protd : Bool
  valid : Bool
  knum : Nat
  pn : Nat
  payload : UpPayload
  deriving DecidableEq, Repr

/-- The G.9903 join request of R230, with the bootstrap PSK under which the joiner authenticates itself. -/
structure JoinRq where
  ch : Nat
  ident : Nat
  psk : Bytes
  elem : Option CapElem
  deriving DecidableEq, Repr

/-- The offline runs of R467. -/
inductive CalRun where
  | plc (phase : Nat) | radio | burin | key
  deriving DecidableEq, Repr

/-- How an offline slice ends (R467): done (with its self-test result) or stopped because work arrived. -/
inductive SliceEnd where
  | done (pass : Bool) (last : Bool) | stopped
  deriving DecidableEq, Repr

/-- What a tamper detector has before it (R327): the levels of a static input at consecutive samples (none: nothing drives the pin), the bits driven
and sensed on a mesh in consecutive bit periods, or the condition of one of the detectors 10 to 13. -/
inductive DetIn where
  | pin (n : Nat) (levels : List (Option Bool)) | mesh (m : Nat) (bits : List (Bool × Bool)) | monitor (d : Nat)
  deriving DecidableEq, Repr

/-- The live corrections of R237 and R271: what moves, and its new value. -/
inductive LiveCal where
  | plcOfs (ch : Nat) (v : Int) | plcGain (ch : Nat) (v : Int)
  | iqGain (path : Nat) (v : Int) | iqPhase (path : Nat) (v : Int)
  deriving DecidableEq, Repr

/-- What the patrol finds in the span that it reads (R340): the offset of a word with a single-bit error, and of one that cannot be corrected. -/
structure ScrubErrs where
  ce : Option Nat := none
  ue : Option Nat := none
  deriving DecidableEq, Repr

/-- A report of mode register MR4 (R341): its value, and whether it reports derating. -/
structure Mr4 where
  value : Nat
  derate : Bool
  deriving DecidableEq, Repr

/-- Further reads of a block (R350): the block, whether it stands in SLC mode, their number. -/
structure BlockReads where
  id : Nat
  slc : Bool
  reads : Nat
  deriving DecidableEq, Repr

/-- What the FTL finds at a page (R344, R349, R351): read by hard decision with a number of errors of those that it can correct, read after a
retry, or lost. -/
inductive ReadRes where
  | read (errs cap : Nat) | retry | lost
  deriving DecidableEq, Repr

/-- How the blocks of a secure discard's present state end (R356, R357): made unreadable, one of them only by programming it to zeros, or one not
at all. -/
inductive GravRes where
  | good | zeroed (id : Nat) | failed (id : Nat)
  deriving DecidableEq, Repr

/-- The firmware files of an SD card (R395): the manifest and the parts by index. -/
structure Card where
  man : Option Bytes
  parts : List (Nat × Bytes)
  deriving DecidableEq, Repr

/-- The records of a configuration image (R434). -/
inductive CfgRec where
  | write (addr value : Nat)
  | pair (addr value : Nat)
  | strobe (mask : Nat)
  | wait (kind addr mask value limit : Nat)
  | table (id : Nat) (data : Bytes)
  | fin
  deriving DecidableEq, Repr

/-- What the start sequence finds outside the part at power-good (R432, R435, R332, R383, R309): the configuration memory's
bytes and density (none when it does not answer) and whether it declares the quad read; the kinds of part whose image fails its hash
in each bank, whether the boot area is blank; the self-test results of the two derivers; whether VDD_AON stayed within tolerance. -/
structure StartEnv where
  mem : Option (Nat × Bool × Bytes)
  bankBad0 : List Nat
  bankBad1 : List Nat
  bankBlank : Bool
  kcOk : Bool
  engOk : Bool
  aonKept : Bool
  deriving DecidableEq, Repr

/-- What step 8 of R438 finds outside the part (R339, R343): the densities of the two DRAM channels in GiB, whether the NAND
array is accepted, its raw capacity in GiB, dies, whether it is blank, a bit for each Burin engine that passes its self-test, and the kinds of part whose check of R383 fails (channels,
receiver and demodulators, engines, display tables). -/
structure FullEnv where
  dram0 : Nat
  dram1 : Nat
  nandOk : Bool
  rawGiB : Nat
  qlc : Bool
  dies : Nat
  blank : Bool
  engines : Nat
  partsBad : List Nat
  deriving DecidableEq, Repr

/-- The commands: one constructor per row of spec/opcode_table.json, in its order. A selector or command register's write
carries the requesting port and the value; an HCP command its request and decoded body; an event what it observes. -/
inductive Instr where
  | registerWrite (p : Port) (addr : Nat) (v : Word)
  | unmappedAccess (p : Port) (addr : Nat) (write : Bool)
  | pairTimeout (p : Port)
  | spiPairHoldExpire (p : Port)
  | tripleVote
  | sysStrobe (p : Port) (v : Word)
  | crossingComplete (d : Dom)
  | sysLock (p : Port) (v : Word)
  | servoMeasurement (dom : Fin 2) (ofs : Int)
  | announceReceive (dom : Fin 2) (a : Announce)
  | announceTimeout (dom : Fin 2)
  | acquisitionWaitExpire
  | slewComplete
  | leapApply
  | aonSecondsCopy
  | mainsCrossing (c : Crossing)
  | mainsCrossingTimeout
  | timeplateArm (p : Port) (n : Nat) (v : Word)
  | timeplateFire (n : Nat)
  | timeSnap (p : Port) (v : Word)
  | mainsSnap (p : Port) (v : Word)
  | mainsXcycRead (p : Port)
  | t1sFrameReceive (seg : Fin 8) (frame : Bytes) (fcs : Bool)
  | plcFrameReceive (f : PlcRx)
  | radioFrameReceive (f : RadioRx)
  | uplinkFrameReceive (f : UplinkRx)
  | spillDrain (cls : Nat)
  | ingressAndClassSorting (cls : Nat)
  | duplicateSuppression (seq : Nat)
  | meterSlotLookup (seq : Nat)
  | keyDerivationAndDecryption (seq : Nat)
  | deferralReplay
  | signatureVerification (seq : Nat)
  | batchClose (cls : Nat)
  | batchVerifyComplete (id : Nat)
  | parsing (seq : Nat)
  | validation (seq : Nat)
  | commit (seq : Nat)
  | acknowledgement (seq : Nat)
  | quarantineExpire
  | pipeCntclr (p : Port) (v : Word)
  | provision (r : Req) (ident : Nat) (f : SlotFields)
  | deprovision (r : Req) (slot : Nat)
  | commission (r : Req) (slot : Nat)
  | suspend (r : Req) (slot : Nat)
  | popResume (r : Req) (slot : Nat)
  | quarantine (r : Req) (slot : Nat)
  | recommission (r : Req) (slot : Nat)
  | retire (r : Req) (slot : Nat)
  | replace (r : Req) (old spare : Nat)
  | release (r : Req) (slot : Nat)
  | update (r : Req) (slot mask : Nat) (f : SlotFields)
  | readslot (r : Req) (slot : Nat)
  | find (r : Req) (ident : Nat)
  | listen (r : Req) (slot lwper lwofs lwlen tol : Nat)
  | checkpointPage
  | recordRebuild (slot : Nat)
  | meterFind (p : Port) (v : Word)
  | meterPeek (p : Port) (v : Word)
  | legalQueueEntry
  | settle
  | boundaryPrecommit (t : Nat)
  | boundaryCommit (t : Nat)
  | checkTimer
  | recompute (p : Port) (v : Word)
  | legalFault (cause : Nat)
  | legalRebuildComplete
  | legalCheckpoint
  | hwmWrite
  | repeatModeEnd
  | sessionExpire
  | calload (r : Req) (handle : Nat)
  | tariffBpeek (p : Port) (v : Word)
  | balanceReading
  | balanceInstant (t : Nat)
  | provisionalResult (node t : Nat)
  | intervalFinal (node t : Nat)
  | localisation (node : Nat)
  | define (r : Req) (node parent ref a0 b0 s0 flags : Nat)
  | redefine (r : Req) (node parent ref a0 b0 s0 flags : Nat)
  | remove (r : Req) (node : Nat)
  | readnode (r : Req) (node : Nat)
  | resultExpire
  | balNsel (p : Port) (v : Word)
  | curtail (r : Req) (limit group : Nat) (slots : List Nat)
  | resumePosts (r : Req) (group : Nat) (slots : List Nat)
  | resumeRelease
  | curtailAck
  | curtAckTimeout (slot : Nat)
  | curtRefresh (slot : Nat)
  | postMirrorWrite (slot : Nat)
  | group (r : Req) (g op : Nat) (slots : List Nat)
  | pushcal (r : Req) (scheme which group handle : Nat)
  | pushRetry (slot : Nat)
  | targetReport
  | campdef (r : Req) (tag size block group handle version : Nat) (sha : Bytes) (ta : Nat)
  | campstart (r : Req) (camp : Nat)
  | campRound (camp : Nat)
  | campArm (camp : Nat)
  | campConfirmTimeout (slot : Nat)
  | camptime (r : Req) (camp ta : Nat)
  | campabort (r : Req) (camp : Nat)
  | campread (r : Req) (camp : Nat)
  | distCsel (p : Port) (v : Word)
  | relaydn (r : Req) (slot : Nat) (frame : Bytes)
  | relayup (r : Req) (packet : Bytes)
  | uplinkTransmit (up : Nat)
  | plcaOpportunity (seg : Nat)
  | plcTransmit (phase : Nat)
  | radioTransmit
  | lbtWindowEnd (level : Int)
  | lbtBackoffEnd
  | dwellMinute
  | preemptVerify (up : Nat) (ok : Bool)
  | c0faultEnd
  | egressSpillDrain (port cls : Nat)
  | qosCntclr (p : Port) (v : Word)
  | qosQsel (p : Port) (v : Word)
  | plcJoin (j : JoinRq)
  | reassemblyTimeout (ch tag : Nat)
  | driverFault (phase : Nat)
  | driverFaultClear (phase : Nat)
  | maskPublish (phase band : Nat)
  | liveCalibration (c : LiveCal)
  | plcCal (p : Port) (v : Word)
  | calSlice (run : CalRun) (e : SliceEnd)
  | calAbandon (run : CalRun)
  | plcCntclr (p : Port) (v : Word)
  | neighbourPeriod (ch saddr : Nat)
  | routeFound (ch dest : Nat) (route : Option (Nat × Nat × Nat))
  | norouteTimeout (ch dest : Nat)
  | sleeperWindow (slot : Nat)
  | sleeperAttemptLapse (slot : Nat)
  | sleeperReplyTimeout (slot : Nat)
  | reffreqApply (idle : Bool)
  | radioCal (p : Port) (v : Word)
  | radioCntclr (p : Port) (v : Word)
  | info (r : Req)
  | regread (r : Req) (addr count : Nat)
  | subscribe (r : Req) (mask kinds : Nat)
  | hcpSet (r : Req) (s ns : Nat)
  | adopt (r : Req) (dom : Nat)
  | manifest (r : Req) (handle : Nat)
  | fwread (r : Req)
  | importseed (r : Req) (h : Nat) (w : Bytes)
  | importflat (r : Req) (w : Bytes)
  | attest (r : Req) (kref : Nat)
  | keyroll (r : Req) (up knum s ns : Nat)
  | keyrollFire (up : Nat)
  | keyrollOverlapEnd (up : Nat)
  | evread (r : Req) (area count first : Nat)
  | evfreeze (r : Req) (secs : Nat)
  | qread (r : Req) (cursor ofs : Nat)
  | results (r : Req) (node start count : Nat)
  | sessread (r : Req) (slot start count : Nat)
  | hashlist (r : Req) (hashes : List Bytes)
  | tamperclr (r : Req)
  | xopen (r : Req) (kind target size : Nat) (sha : Bytes)
  | xblock (r : Req) (handle ofs : Nat) (data : Bytes)
  | xquery (r : Req) (handle first : Nat)
  | xclose (r : Req) (handle : Nat)
  | xabort (r : Req) (handle : Nat)
  | transferTimeout (handle : Nat)
  | responseCacheExpire
  | notificationAck (up code seq : Nat)
  | notificationTimeout (up code seq : Nat)
  | spiRead (p : Port) (addr : Nat)
  | spiWrite (p : Port) (addr : Nat) (v : Word)
  | spiStatus (p : Port)
  | hcpin (p : Port) (frame : Bytes)
  | hcpout (p : Port)
  | sdInsert (c : Card)
  | sdRemove (err : Bool)
  | linkChange (up : Nat) (isUp : Bool)
  | detectorDecide (x : DetIn)
  | katPeriodic (pass : Bool)
  | keyCert (p : Port) (v : Word)
  | dramScrub (len : Nat) (found : ScrubErrs)
  | fold
  | superblockClose (id : Nat) (pages : List (Nat × ReadRes))
  | readRefresh (b : BlockReads)
  | nandScrub (id : Nat) (found : ReadRes)
  | blockFail (id : Nat) (erase : Bool)
  | durabilityDeadline
  | graverRequest (vol : Nat)
  | graverStateAdvance (req : Nat) (res : GravRes)
  | graverOverdue (req : Nat)
  | ftlGsel (p : Port) (v : Word)
  | wearReport
  | eventLog (code : Nat) (fields : List (Nat × Nat)) (agent : Nat)
  | tokenGain (code : Nat)
  | eventWindowEnd (code key : Nat)
  | freezeEnd
  | evSecs (p : Port) (v : Word)
  | evThaw (p : Port) (v : Word)
  | longRollExpire
  | evrecSel (p : Port) (v : Word)
  | evrecWinAdvance (p : Port)
  | activationPrepare
  | activation
  | activationRestart
  | activationCandidate
  | revert (kind cause : Nat)
  | fwuPsel (p : Port) (v : Word)
  | plateCommit (img : Bytes) (first last : Nat)
  | redraw (p : Port) (v : Word)
  | biasSettleEnd
  | rowComplete
  | coldRetry (temp : Int)
  | vhvLow
  | keyPress (key : Fin 4)
  | screenKey
  | screenIdle
  | dispPlate (p : Port) (v : Word)
  | powerGood (env : StartEnv)
  | fullPipelineReady (env : FullEnv)
  | fullreadyTimeout
  | cfgWrite (addr : Nat) (v : Word)
  | cfgWritePair (addr : Nat) (v : Word)
  | cfgStrobe (mask : Nat)
  | cfgWait (kind addr : Nat) (mask value : Word) (limit : Nat)
  | cfgTable (id : Nat) (data : Bytes)
  | waitEnd
  | cfgEnd
  | domainWake (d : Dom)
  | domainStop (d : Dom)
  | wakeFail (d : Dom)
  | pllUnlock (d : Dom)
  | ppsInEdge
  | ppsInMissing
  | supplyWarning (pin : Bool) (rails : Nat)
  | supplyRecover
  | warningHoldTimeout
  | sequencerRelease
  | por
  | bor (rail : Nat)
  | pinReset
  | wdogExpire
  | injection (p : Port) (v : Word)
  | occurrenceEnd
  | faultStop (p : Port) (v : Word)
  | faultStBurin (p : Port) (v : Word)
  | faultStKey (p : Port) (v : Word)
  | faultCtrl (p : Port) (v : Word)
  | pllRelock (d : Dom)
  | supplyWarningReleased
  | vhvReturn
  | refreshDerating (m : Mr4)
  | t1sPhyFault (seg : Nat) (fault : Bool)
  | demodulatorWaitExpire
  deriving DecidableEq, Repr

end Sys2Proof
end

