-- ==== Sys2Proof/WellFormed.lean ====
section
/-! DEFINITION. Which commands are well formed: every operand within the width that the manual gives it. A term that is not
well formed is no command that a port or an agent of the part can make; the meanings stay total on it all the same. -/

namespace Sys2Proof

/-- A register address: 32 bits, a multiple of 4 (R18). -/
def wordAddr (a : Nat) : Bool := decide (a < 4294967296) && a % 4 == 0

/-- A request's fields (R292): the class, REQID, and a REF of 0 to 32 B. -/
def reqOk (r : Req) : Bool :=
  decide (r.cls < 4) && decide (r.reqid < 4294967296) && decide (r.ref.length ≤ 32) && decide (r.head < 4294967296)

/-- The slot fields of PROVISION and UPDATE in their widths (R296). -/
def slotFieldsOk (f : SlotFields) : Bool :=
  decide (f.profile < 256) && decide (f.minkv < 256) && decide (f.seed < 256) && decide (f.flags < 65536) &&
  decide (f.node < 65536) && decide (f.scheme < 65536) && decide (f.pmax < 4294967296)

/-- A crossing's phase error is an angle (R44); the displacements too. -/
def crossingOk (c : Crossing) : Bool :=
  decide (c.err < 65536) && decide (c.dispB < 65536) && decide (c.dispC < 65536)

/-- A power-line frame's places (R233), and what its tone map names: at most 24 carrier groups, one of 8 modulations (R227). -/
def plcOk (f : PlcRx) : Bool :=
  decide (f.ch < 6) && decide (f.saddr < 65536) && decide (f.lqi < 256) && decide (f.part < max 1 f.frags) && decide (f.tmap < 2 ^ 24) &&
  decide (f.mod < 8) && decide (f.lqif < 256)

/-- A demodulator of R250. -/
def radioOk (f : RadioRx) : Bool := decide (f.dm < 32)

/-- An uplink frame's port. -/
def uplinkOk (f : UplinkRx) : Bool := decide (f.up < 2)

/-- Every operand of a command within its width. -/
def wellFormed : Instr → Bool
  | .registerWrite _ addr _ => wordAddr addr
  | .unmappedAccess _ addr _ => wordAddr addr
  | .pairTimeout _ => true
  | .spiPairHoldExpire _ => true
  | .tripleVote => true
  | .sysStrobe _ _ => true
  | .crossingComplete _ => true
  | .sysLock _ _ => true
  | .servoMeasurement _ _ => true
  | .announceReceive _ _ => true
  | .announceTimeout _ => true
  | .acquisitionWaitExpire => true
  | .slewComplete => true
  | .leapApply => true
  | .aonSecondsCopy => true
  | .mainsCrossing c => crossingOk c
  | .mainsCrossingTimeout => true
  | .timeplateArm _ n _ => decide (n < 256)
  | .timeplateFire n => decide (n < 256)
  | .timeSnap _ _ => true
  | .mainsSnap _ _ => true
  | .mainsXcycRead _ => true
  | .t1sFrameReceive _ _ _ => true
  | .plcFrameReceive f => plcOk f
  | .radioFrameReceive f => radioOk f
  | .uplinkFrameReceive f => uplinkOk f
  | .spillDrain cls => decide (cls < 4)
  | .ingressAndClassSorting cls => decide (cls < 4)
  | .duplicateSuppression _ => true
  | .meterSlotLookup _ => true
  | .keyDerivationAndDecryption _ => true
  | .deferralReplay => true
  | .signatureVerification _ => true
  | .batchClose cls => decide (cls < 4)
  | .batchVerifyComplete _ => true
  | .parsing _ => true
  | .validation _ => true
  | .commit _ => true
  | .acknowledgement _ => true
  | .quarantineExpire => true
  | .pipeCntclr _ _ => true
  | .provision r _ f => reqOk r && slotFieldsOk f
  | .deprovision r slot => reqOk r && decide (slot < 1048576)
  | .commission r slot => reqOk r && decide (slot < 1048576)
  | .suspend r slot => reqOk r && decide (slot < 1048576)
  | .popResume r slot => reqOk r && decide (slot < 1048576)
  | .quarantine r slot => reqOk r && decide (slot < 1048576)
  | .recommission r slot => reqOk r && decide (slot < 1048576)
  | .retire r slot => reqOk r && decide (slot < 1048576)
  | .replace r old spare => reqOk r && decide (old < 1048576) && decide (spare < 1048576)
  | .release r slot => reqOk r && decide (slot < 1048576)
  | .update r slot _ f => reqOk r && decide (slot < 1048576) && slotFieldsOk f
  | .readslot r slot => reqOk r && decide (slot < 1048576)
  | .find r _ => reqOk r
  | .listen r slot _ _ _ _ => reqOk r && decide (slot < 1048576)
  | .checkpointPage => true
  | .recordRebuild slot => decide (slot < 1048576)
  | .meterFind _ _ => true
  | .meterPeek _ _ => true
  | .legalQueueEntry => true
  | .settle => true
  | .boundaryPrecommit _ => true
  | .boundaryCommit _ => true
  | .checkTimer => true
  | .recompute _ _ => true
  | .legalFault _ => true
  | .legalRebuildComplete => true
  | .legalCheckpoint => true
  | .hwmWrite => true
  | .repeatModeEnd => true
  | .sessionExpire => true
  | .calload r _ => reqOk r
  | .tariffBpeek _ _ => true
  | .balanceReading => true
  | .balanceInstant _ => true
  | .provisionalResult node _ => decide (node < 65536)
  | .intervalFinal node _ => decide (node < 65536)
  | .localisation node => decide (node < 65536)
  | .define r node parent _ _ _ _ _ => reqOk r && decide (node < 65536) && decide (parent < 65536)
  | .redefine r node parent _ _ _ _ _ => reqOk r && decide (node < 65536) && decide (parent < 65536)
  | .remove r node => reqOk r && decide (node < 65536)
  | .readnode r node => reqOk r && decide (node < 65536)
  | .resultExpire => true
  | .balNsel _ _ => true
  | .curtail r _ _ slots => reqOk r && slots.all (fun x => decide (x < 1048576))
  | .resumePosts r _ slots => reqOk r && slots.all (fun x => decide (x < 1048576))
  | .resumeRelease => true
  | .curtailAck => true
  | .curtAckTimeout slot => decide (slot < 1048576)
  | .curtRefresh slot => decide (slot < 1048576)
  | .postMirrorWrite slot => decide (slot < 1048576)
  | .group r _ _ slots => reqOk r && slots.all (fun x => decide (x < 1048576))
  | .pushcal r _ _ _ _ => reqOk r
  | .pushRetry slot => decide (slot < 1048576)
  | .targetReport => true
  | .campdef r _ _ _ _ _ _ sha _ => reqOk r && decide (sha.length = 32)
  | .campstart r _ => reqOk r
  | .campRound _ => true
  | .campArm _ => true
  | .campConfirmTimeout slot => decide (slot < 1048576)
  | .camptime r _ _ => reqOk r
  | .campabort r _ => reqOk r
  | .campread r _ => reqOk r
  | .distCsel _ _ => true
  | .relaydn r slot _ => reqOk r && decide (slot < 1048576)
  | .relayup r _ => reqOk r
  | .uplinkTransmit up => decide (up < 2)
  | .plcaOpportunity seg => decide (seg < 8)
  | .plcTransmit phase => decide (phase < 3)
  | .radioTransmit => true
  | .lbtWindowEnd _ => true
  | .lbtBackoffEnd => true
  | .dwellMinute => true
  | .preemptVerify up _ => decide (up < 2)
  | .c0faultEnd => true
  | .egressSpillDrain _ cls => decide (cls < 4)
  | .qosCntclr _ _ => true
  | .qosQsel _ _ => true
  | .plcJoin _ => true
  | .reassemblyTimeout ch _ => decide (ch < 6)
  | .driverFault phase => decide (phase < 3)
  | .driverFaultClear phase => decide (phase < 3)
  | .maskPublish phase band => decide (phase < 3) && decide (band < 2)
  | .liveCalibration _ => true
  | .plcCal _ _ => true
  | .calSlice _ _ => true
  | .calAbandon _ => true
  | .plcCntclr _ _ => true
  | .neighbourPeriod ch _ => decide (ch < 6)
  | .routeFound ch _ _ => decide (ch < 6)
  | .norouteTimeout ch _ => decide (ch < 6)
  | .sleeperWindow slot => decide (slot < 1048576)
  | .sleeperAttemptLapse slot => decide (slot < 1048576)
  | .sleeperReplyTimeout slot => decide (slot < 1048576)
  | .reffreqApply _ => true
  | .radioCal _ _ => true
  | .radioCntclr _ _ => true
  | .info r => reqOk r
  | .regread r addr _ => reqOk r && wordAddr addr
  | .subscribe r _ _ => reqOk r
  | .hcpSet r _ ns => reqOk r && decide (ns < 1000000000)
  | .adopt r _ => reqOk r
  | .manifest r _ => reqOk r
  | .fwread r => reqOk r
  | .importseed r _ _ => reqOk r
  | .importflat r _ => reqOk r
  | .attest r _ => reqOk r
  | .keyroll r up _ _ ns => reqOk r && decide (up < 2) && decide (ns < 1000000000)
  | .keyrollFire up => decide (up < 2)
  | .keyrollOverlapEnd up => decide (up < 2)
  | .evread r _ _ _ => reqOk r
  | .evfreeze r _ => reqOk r
  | .qread r _ _ => reqOk r
  | .results r node _ _ => reqOk r && decide (node < 65536)
  | .sessread r slot _ _ => reqOk r && decide (slot < 1048576)
  | .hashlist r hashes => reqOk r && hashes.all (fun h => decide (h.length = 32))
  | .tamperclr r => reqOk r
  | .xopen r _ _ _ sha => reqOk r && decide (sha.length = 32)
  | .xblock r _ _ _ => reqOk r
  | .xquery r _ _ => reqOk r
  | .xclose r _ => reqOk r
  | .xabort r _ => reqOk r
  | .transferTimeout _ => true
  | .responseCacheExpire => true
  | .notificationAck up code _ => decide (up < 2) && decide (code < 65536)
  | .notificationTimeout up code _ => decide (up < 2) && decide (code < 65536)
  | .spiRead _ addr => wordAddr addr
  | .spiWrite _ addr _ => wordAddr addr
  | .spiStatus _ => true
  | .hcpin _ _ => true
  | .hcpout _ => true
  | .sdInsert _ => true
  | .sdRemove _ => true
  | .linkChange up _ => decide (up < 2)
  | .detectorDecide _ => true
  | .katPeriodic _ => true
  | .keyCert _ _ => true
  | .dramScrub _ _ => true
  | .fold => true
  | .superblockClose _ _ => true
  | .readRefresh _ => true
  | .nandScrub _ _ => true
  | .blockFail _ _ => true
  | .durabilityDeadline => true
  | .graverRequest _ => true
  | .graverStateAdvance _ _ => true
  | .graverOverdue _ => true
  | .ftlGsel _ _ => true
  | .wearReport => true
  | .eventLog code fields _ => decide (code < 65536) &&
      fields.all (fun x => (x.1 == 1 || x.1 == 2 || x.1 == 4 || x.1 == 8) && decide (x.2 < 256 ^ x.1))
  | .tokenGain code => decide (code < 65536)
  | .eventWindowEnd code _ => decide (code < 65536)
  | .freezeEnd => true
  | .evSecs _ _ => true
  | .evThaw _ _ => true
  | .longRollExpire => true
  | .evrecSel _ _ => true
  | .evrecWinAdvance _ => true
  | .activationPrepare => true
  | .activation => true
  | .activationRestart => true
  | .activationCandidate => true
  | .revert _ _ => true
  | .fwuPsel _ _ => true
  | .plateCommit img _ _ => decide (img.length ≤ 15552)
  | .redraw _ _ => true
  | .biasSettleEnd => true
  | .rowComplete => true
  | .coldRetry _ => true
  | .vhvLow => true
  | .keyPress _ => true
  | .screenKey => true
  | .screenIdle => true
  | .dispPlate _ _ => true
  | .powerGood _ => true
  | .fullPipelineReady _ => true
  | .fullreadyTimeout => true
  | .cfgWrite addr _ => wordAddr addr
  | .cfgWritePair addr _ => wordAddr addr
  | .cfgStrobe _ => true
  | .cfgWait _ addr _ _ _ => wordAddr addr
  | .cfgTable _ _ => true
  | .waitEnd => true
  | .cfgEnd => true
  | .domainWake _ => true
  | .domainStop _ => true
  | .wakeFail _ => true
  | .pllUnlock _ => true
  | .ppsInEdge => true
  | .ppsInMissing => true
  | .supplyWarning _ _ => true
  | .supplyRecover => true
  | .warningHoldTimeout => true
  | .sequencerRelease => true
  | .por => true
  | .bor rail => decide (rail < 7)
  | .pinReset => true
  | .wdogExpire => true
  | .injection _ _ => true
  | .occurrenceEnd => true
  | .faultStop _ _ => true
  | .faultStBurin _ _ => true
  | .faultStKey _ _ => true
  | .faultCtrl _ _ => true
  | .pllRelock _ => true
  | .supplyWarningReleased => true
  | .vhvReturn => true
  | .refreshDerating _ => true
  | .t1sPhyFault seg _ => decide (seg < 8)
  | .demodulatorWaitExpire => true

end Sys2Proof
end

