-- ==== Sys2Proof/Machine/Binary64.lean ====
section
/-! DEFINITION. IEEE 754 binary64 arithmetic as the loss model holds its values (R168): a value is a rational number that binary64
represents, and each operation rounds the exact result to the nearest one, ties to even. -/

namespace Sys2Proof.Machine

/-- The integer square root by Newton's method from above. -/
def isqrtStep : Nat → Nat → Nat → Nat
  | 0, _, x => x
  | k + 1, n, x => let y := (x + n / x) / 2; if y < x then isqrtStep k n y else x

/-- The integer square root. -/
def isqrt (n : Nat) : Nat := if n = 0 then 0 else isqrtStep 300 n (2 ^ (Nat.log2 n / 2 + 1))

/-- A positive quotient rounded to 53 significant bits, ties to even: the significand and the power of two that it is over. -/
def rndNat (p q : Nat) : Rat :=
  let sh : Int := 53 - ((Nat.log2 p : Int) - Nat.log2 q)
  let num := fun (k : Int) => if 0 ≤ k then p * 2 ^ k.toNat else p
  let den := fun (k : Int) => if 0 ≤ k then q else q * 2 ^ (-k).toNat
  let k := if 2 ^ 53 * den sh ≤ num sh then sh - 1 else sh
  let f := num k / den k
  let r := num k % den k
  let m := if 2 * r > den k ∨ (2 * r = den k ∧ f % 2 = 1) then f + 1 else f
  if 0 ≤ k then mkRat m (2 ^ k.toNat) else mkRat (m * 2 ^ (-k).toNat) 1

/-- The binary64 value nearest to a rational number. -/
def rnd (x : Rat) : Rat :=
  if x = 0 then 0
  else if x < 0 then -(rndNat x.num.natAbs x.den) else rndNat x.num.natAbs x.den

/-- The binary64 square root of a number that is not negative. -/
def sqrtR (x : Rat) : Rat :=
  if x ≤ 0 then 0
  else
    let p := x.num.natAbs
    let q := x.den
    -- 4^k x has at least 120 bits
    let k := (120 + Nat.log2 q - Nat.log2 p) / 2 + 1
    let n := p * 4 ^ k / q
    let r := isqrt n
    let sticky := if r * r = n ∧ n * q = p * 4 ^ k then 0 else 1
    rndNat (2 * r + sticky) (2 ^ (k + 1))

/-- A number rounded to the nearest integer, halves away from zero. -/
def toInt (x : Rat) : Int :=
  if 0 ≤ x then ((2 * x.num.natAbs + x.den) / (2 * x.den) : Nat) else -(((2 * x.num.natAbs + x.den) / (2 * x.den) : Nat) : Int)

end Sys2Proof.Machine
end

