-- ==== Sys2Proof/Config.lean ====
section
/-! DEFINITION. What the manual leaves open: free values and functions of outside standards. None has a body, so that no
statement can rest on a value. Each is named in the assumption log. -/

namespace Sys2Proof.Config

/-- The n-th free value drawn (the random source of the part, and values the manual does not state). -/
opaque freeVal : Nat → Nat

/-- The n-th free integer drawn: an innovation's new prediction, a servo's rate. -/
opaque freeInt : Nat → Int

/-- The n-th free byte string drawn, of a length. -/
opaque freeBytes : Nat → Nat → Bytes

/-- The event code under which an access outside every block is logged (R19 names none). -/
opaque unmappedCode : Nat

/-- Whether the n-th event finds the intake queue full, where at 2 µs a record as many as it holds may still wait (R366: a record is
written within 2 µs). -/
opaque intakeFull : Nat → Bool

/-- The number of records that wait for the UART line before records are dropped (R290 gives none). -/
opaque uartDepth : Nat

/-- The number of request frames that wait at the seal port before HCPIN is refused (R287 gives none). -/
opaque sealDepth : Nat

/-- The fuse root (R313): 32 B that Halsel programs at manufacture and no port can read. -/
opaque fuseRoot : Bytes

/-- The average magnitude of a slot's interval energy in Wh after an interval: the average before and the interval's magnitude
(R163 does not state how the average is formed). -/
opaque eavg : Nat → Nat → Nat

/-- The channel of a DRAM offset (R340, R360: the interleaving is not stated). -/
opaque dramChannel : Nat → Nat

/-- The bytes of a number of entries in a volume whose encoding on the NAND the manual does not give: INTERVAL (0: series,
checkpoints, snapshots) and GENERAL (4: journal, checkpoints, results) of R345. -/
opaque storedBytes : Nat → Nat → Nat

/-- The DRAM traffic in MB/s of the whole second that ended at an elapsed second (R360): no rule gives the traffic. -/
opaque dramTraffic : Nat → Nat

/-- The airtime in µs, preamble included, of a frame in a mode (0 S, 1 T, 2 C) and transmit format with a number of bytes after its
L-field: preambles, coding and CRC fields are those of EN 13757-4 (R253, R263). -/
opaque airtime : Nat → Nat → Nat → Nat

/-- The combined signal level in dBm of two paths under maximal-ratio combining (R250, R255: how it is rounded is not stated). -/
opaque mrcLevel : Int → Int → Int

/-- Between the two middle values of an even number of frequency offsets: their median (R271). -/
opaque between : Int → Int → Int

/-- The reference correction in ppb for a median frequency offset in Hz at a window centre in kHz (R271: its sign and rounding are not stated). -/
opaque refPpb : Int → Nat → Int

/-- The duration of a power-line preamble in ns, by band (0 CENELEC-A, 1 FCC): that of G.9903 (R225, R227). -/
opaque plcPreamble : Nat → Nat

/-- The symbols of a frame control header, by band: those of G.9903 (R243). -/
opaque plcFch : Nat → Nat

/-- The G.9903 link cost (R245) from the weights KQ, KM and KC of PLC_ROUTE, the modulation, the active carriers and all, and the LQI. -/
opaque plcCost : Nat → Nat → Nat → Nat → Nat → Nat → Nat → Nat

/-- The device identifier in the fuses (R313). -/
opaque devId : Nat

/-- The OUI of the capability element, set at manufacture (R240, R249). -/
opaque extOui : Nat

/-- The base MAC address (R308). -/
opaque baseMac : Nat

/-- The tamper detectors whose condition holds at an elapsed time (R327): bit d is what the outside shows detector d. -/
opaque detectors : Nat → Nat

/-- What the part measures of the outside at an elapsed time: quantity 0 the CLK10M_IN offset in ppb (R446), 1 to 7 the voltage of rail
0 to 6 in mV, 8 to 14 its lowest since start (R456). -/
opaque measured : Nat → Nat → Nat

/-- The base image of a part in the ROM (R384), by kind. -/
opaque romImage : Nat → Bytes

/-- The version of a base image (R384), by kind. -/
opaque romVersion : Nat → Nat

/-- Whether the boot area reads back as written (R393, R397) at the n-th use of a free value. -/
opaque bankBack : Nat → Bool

/-- Halsel's firmware signing key (R387): x and y, 48 B each. -/
opaque vendorKey : Bytes

/-- The compensation table of part D (R406): VDRV in 0.1 V and ROWT in µs of point 0 to 13, from the part's image. -/
opaque compPoint : Bytes → Nat → Nat × Nat

/-- The screen that the legal core pair composes (R420): the glyphs and layout are the firmware's; from the screen's content as
bytes, 2,400 B of pixels. -/
opaque screenImage : Nat → Bytes → Bytes

/-- The glyphs of a banner (R419), the 25 B of a common. -/
opaque bannerRow : Nat → Nat → Bytes

end Sys2Proof.Config
end

