-- ==== Sys2Proof/Machine/RegMap.lean ====
section
/-! DEFINITION. The register map of the G1M: every register and every field of the 27 blocks of R18, as the register
tables of the blocks' chapters give them (R8, R9, R55, R56, R97, R98, R116, R156, R157, R179, R201, R222, R249, R274,
R305 to R308, R336, R337, R360, R361, R382, R402, R422, R423, R440, R441, R455, R456, R469). -/

namespace Sys2Proof.Machine

/-- The field types of R8. -/
inductive FTy where
  | RW | RO | WO | W1C | RWS | RWP | RWT
  deriving DecidableEq, Repr

/-- The register protections of *Registers and the start-up image*. -/
inductive Prot where
  | plain | pair | triple
  deriving DecidableEq, Repr

/-- One register field: the address of its register's instance 0, the stride and number of instances, the place and
width of its bits, its type, its reset value, the range of R489 (`lo` to `hi`, and 0 as well where `zero` holds), its
strobe group (16 for none) and its clock domain. -/
structure Fld where
  addr : Nat
  stride : Nat
  cnt : Nat
  bit : Nat
  w : Nat
  ty : FTy
  reset : Nat
  lo : Nat
  hi : Nat
  zero : Bool
  sg : Nat
  dom : Dom
  deriving DecidableEq, Repr

/-- One register: the address of instance 0, stride, instances, protection and fields. -/
structure RegDef where
  addr : Nat
  stride : Nat
  cnt : Nat
  prot : Prot
  flds : List Fld
  deriving DecidableEq, Repr

namespace F

def TIME_CTRL_DOM0_EN : Fld := ⟨0x40040000, 0x0, 1, 0, 1, .RWS, 0, 0, 1, false, 1, .PTP⟩
def TIME_CTRL_DOM1_EN : Fld := ⟨0x40040000, 0x0, 1, 1, 1, .RWS, 0, 0, 1, false, 1, .PTP⟩
def TIME_CTRL_BC_EN : Fld := ⟨0x40040000, 0x0, 1, 2, 1, .RWS, 0, 0, 1, false, 1, .PTP⟩
def TIME_STATUS_STATE : Fld := ⟨0x40040004, 0x0, 1, 0, 3, .RO, 0, 0, 7, false, 16, .PTP⟩
def TIME_STATUS_ACTIVE : Fld := ⟨0x40040004, 0x0, 1, 3, 1, .RO, 0, 0, 1, false, 16, .PTP⟩
def TIME_STATUS_TRUSTED : Fld := ⟨0x40040004, 0x0, 1, 4, 1, .RO, 0, 0, 1, false, 16, .PTP⟩
def TIME_STATUS_SLEWING : Fld := ⟨0x40040004, 0x0, 1, 5, 1, .RO, 0, 0, 1, false, 16, .PTP⟩
def TIME_STATUS_SEEDED_AON : Fld := ⟨0x40040004, 0x0, 1, 6, 1, .RO, 0, 0, 1, false, 16, .PTP⟩
def TIME_JGTHR_THR : Fld := ⟨0x40040008, 0x0, 1, 0, 30, .RWT, 50000, 100, 1000000000, false, 16, .PTP⟩
def TIME_SLEWMAX_PPM : Fld := ⟨0x4004000C, 0x0, 1, 0, 10, .RWS, 200, 1, 500, false, 1, .PTP⟩
def TIME_SNAP_TAKE : Fld := ⟨0x40040010, 0x0, 1, 0, 1, .WO, 0, 0, 1, false, 16, .PTP⟩
def TIME_SNAPSL : Fld := ⟨0x40040014, 0x0, 1, 0, 32, .RO, 0, 0, 4294967295, false, 16, .PTP⟩
def TIME_SNAPSH : Fld := ⟨0x40040018, 0x0, 1, 0, 32, .RO, 0, 0, 4294967295, false, 16, .PTP⟩
def TIME_SNAPNS : Fld := ⟨0x4004001C, 0x0, 1, 0, 32, .RO, 0, 0, 4294967295, false, 16, .PTP⟩
def TIME_UTCOFS_CFG : Fld := ⟨0x40040024, 0x0, 1, 0, 8, .RWS, 37, 0, 255, false, 1, .PTP⟩
def TIME_UTCOFS_CUR : Fld := ⟨0x40040024, 0x0, 1, 8, 8, .RO, 37, 0, 255, false, 1, .PTP⟩
def TIME_UTCOFS_FROMPTP : Fld := ⟨0x40040024, 0x0, 1, 16, 1, .RO, 0, 0, 1, false, 1, .PTP⟩
def TIME_UTCOFS_LEAP61 : Fld := ⟨0x40040024, 0x0, 1, 17, 1, .RO, 0, 0, 1, false, 1, .PTP⟩
def TIME_UTCOFS_LEAP59 : Fld := ⟨0x40040024, 0x0, 1, 18, 1, .RO, 0, 0, 1, false, 1, .PTP⟩
def TIME_DOMCFG_NUM : Fld := ⟨0x40040100, 0x20, 2, 0, 8, .RWS, 0, 0, 255, false, 1, .PTP⟩
def TIME_DOMCFG_PORT : Fld := ⟨0x40040100, 0x20, 2, 8, 1, .RWS, 0, 0, 1, false, 1, .PTP⟩
def TIME_DOMCFG_DELAY : Fld := ⟨0x40040100, 0x20, 2, 9, 1, .RWS, 0, 0, 1, false, 1, .PTP⟩
def TIME_DOMCFG_TRANSPORT : Fld := ⟨0x40040100, 0x20, 2, 10, 1, .RWS, 0, 0, 1, false, 1, .PTP⟩
def TIME_DOMCFG_TWOSTEP : Fld := ⟨0x40040100, 0x20, 2, 11, 1, .RWS, 0, 0, 1, false, 1, .PTP⟩
def TIME_DOMSTAT_LOCKED : Fld := ⟨0x40040104, 0x20, 2, 0, 1, .RO, 0, 0, 1, false, 16, .PTP⟩
def TIME_DOMSTAT_SUSPECT : Fld := ⟨0x40040104, 0x20, 2, 1, 1, .RO, 0, 0, 1, false, 16, .PTP⟩
def TIME_DOMSTAT_ANNOUNCE_OK : Fld := ⟨0x40040104, 0x20, 2, 2, 1, .RO, 0, 0, 1, false, 16, .PTP⟩
def TIME_DOMSTAT_REFUSALS : Fld := ⟨0x40040104, 0x20, 2, 8, 5, .RO, 0, 0, 31, false, 16, .PTP⟩
def TIME_DOMSTAT_CLEANRUN : Fld := ⟨0x40040104, 0x20, 2, 16, 7, .RO, 0, 0, 127, false, 16, .PTP⟩
def TIME_DOMOFS_OFS : Fld := ⟨0x40040108, 0x20, 2, 0, 32, .RO, 0, 0, 4294967295, false, 16, .PTP⟩
def TIME_TPCFG_KIND : Fld := ⟨0x40041000, 0x20, 256, 0, 2, .RW, 0, 0, 3, false, 16, .PTP⟩
def TIME_TPCFG_PHASE : Fld := ⟨0x40041000, 0x20, 256, 2, 2, .RW, 0, 0, 2, false, 16, .PTP⟩
def TIME_TPCFG_SEG : Fld := ⟨0x40041000, 0x20, 256, 4, 4, .RW, 0, 0, 15, false, 16, .PTP⟩
def TIME_TPCFG_ACTION : Fld := ⟨0x40041000, 0x20, 256, 8, 2, .RW, 0, 0, 2, false, 16, .PTP⟩
def TIME_TPCFG_GROUP : Fld := ⟨0x40041000, 0x20, 256, 10, 4, .RW, 0, 0, 15, false, 16, .PTP⟩
def TIME_TPCFG_EVSRC : Fld := ⟨0x40041000, 0x20, 256, 14, 7, .RW, 0, 0, 95, false, 16, .PTP⟩
def TIME_TPCFG_LATE : Fld := ⟨0x40041000, 0x20, 256, 28, 1, .W1C, 0, 0, 1, false, 16, .PTP⟩
def TIME_TPCFG_HOLD : Fld := ⟨0x40041000, 0x20, 256, 29, 1, .W1C, 0, 0, 1, false, 16, .PTP⟩
def TIME_TPCFG_OWNER : Fld := ⟨0x40041000, 0x20, 256, 30, 1, .RO, 0, 0, 1, false, 16, .PTP⟩
def TIME_TPCFG_ARMED : Fld := ⟨0x40041000, 0x20, 256, 31, 1, .RO, 0, 0, 1, false, 16, .PTP⟩
def TIME_TPW0 : Fld := ⟨0x40041004, 0x20, 256, 0, 32, .RW, 0, 0, 4294967295, false, 16, .PTP⟩
def TIME_TPW1 : Fld := ⟨0x40041008, 0x20, 256, 0, 32, .RW, 0, 0, 4294967295, false, 16, .PTP⟩
def TIME_TPW2 : Fld := ⟨0x4004100C, 0x20, 256, 0, 32, .RW, 0, 0, 4294967295, false, 16, .PTP⟩
def TIME_TPPER : Fld := ⟨0x40041010, 0x20, 256, 0, 32, .RW, 0, 0, 4294967295, false, 16, .PTP⟩
def MAINS_CTRL_EN : Fld := ⟨0x40050000, 0x0, 1, 0, 1, .RWS, 0, 0, 1, false, 2, .SYS⟩
def MAINS_CTRL_NOMINAL : Fld := ⟨0x40050000, 0x0, 1, 1, 1, .RWS, 0, 0, 1, false, 2, .SYS⟩
def MAINS_CTRL_ABSTHR : Fld := ⟨0x40050000, 0x0, 1, 4, 8, .RWS, 20, 0, 255, false, 2, .SYS⟩
def MAINS_STATUS_STATE : Fld := ⟨0x40050004, 0x0, 1, 0, 2, .RO, 0, 0, 3, false, 16, .SYS⟩
def MAINS_STATUS_OUTRANGE : Fld := ⟨0x40050004, 0x0, 1, 2, 1, .RO, 0, 0, 1, false, 16, .SYS⟩
def MAINS_STATUS_STEPPED : Fld := ⟨0x40050004, 0x0, 1, 3, 1, .W1C, 0, 0, 1, false, 16, .SYS⟩
def MAINS_FREQ_FREQ : Fld := ⟨0x40050008, 0x0, 1, 0, 23, .RO, 0, 0, 8388607, false, 16, .SYS⟩
def MAINS_SNAP_TAKE : Fld := ⟨0x4005000C, 0x0, 1, 0, 1, .WO, 0, 0, 1, false, 16, .SYS⟩
def MAINS_SNAPLO : Fld := ⟨0x40050010, 0x0, 1, 0, 32, .RO, 0, 0, 4294967295, false, 16, .SYS⟩
def MAINS_SNAPHI_CYCHI : Fld := ⟨0x40050014, 0x0, 1, 0, 16, .RO, 0, 0, 65535, false, 16, .SYS⟩
def MAINS_SNAPHI_ANGLE : Fld := ⟨0x40050014, 0x0, 1, 16, 16, .RO, 0, 0, 65535, false, 16, .SYS⟩
def MAINS_PHASE_DISP : Fld := ⟨0x40050020, 0x4, 3, 0, 16, .RO, 0, 0, 65535, false, 16, .SYS⟩
def MAINS_PHASE_AMPL : Fld := ⟨0x40050020, 0x4, 3, 16, 8, .RO, 0, 0, 255, false, 16, .SYS⟩
def MAINS_PHASE_PRESENT : Fld := ⟨0x40050020, 0x4, 3, 24, 1, .RO, 0, 0, 1, false, 16, .SYS⟩
def MAINS_XSL : Fld := ⟨0x40050030, 0x0, 1, 0, 32, .RO, 0, 0, 4294967295, false, 16, .SYS⟩
def MAINS_XSH : Fld := ⟨0x40050034, 0x0, 1, 0, 32, .RO, 0, 0, 4294967295, false, 16, .SYS⟩
def MAINS_XNS : Fld := ⟨0x40050038, 0x0, 1, 0, 32, .RO, 0, 0, 4294967295, false, 16, .SYS⟩
def MAINS_XCYC : Fld := ⟨0x4005003C, 0x0, 1, 0, 32, .RO, 0, 0, 4294967295, false, 16, .SYS⟩
def PIPE_CTRL_EN : Fld := ⟨0x40060000, 0x0, 1, 0, 1, .RWS, 0, 0, 1, false, 3, .SYS⟩
def PIPE_CTRL_ACK_EN : Fld := ⟨0x40060000, 0x0, 1, 1, 1, .RWS, 1, 0, 1, false, 3, .SYS⟩
def PIPE_CTRL_SIGREQ_LEGAL : Fld := ⟨0x40060000, 0x0, 1, 2, 1, .RWS, 1, 0, 1, false, 3, .SYS⟩
def PIPE_CTRL_QUAR_DUP : Fld := ⟨0x40060000, 0x0, 1, 3, 1, .RWS, 0, 0, 1, false, 3, .SYS⟩
def PIPE_STATUS_READY : Fld := ⟨0x40060004, 0x0, 1, 0, 1, .RO, 0, 0, 1, false, 16, .SYS⟩
def PIPE_STATUS_SPILL3 : Fld := ⟨0x40060004, 0x0, 1, 1, 1, .RO, 0, 0, 1, false, 16, .SYS⟩
def PIPE_STATUS_SPILL2 : Fld := ⟨0x40060004, 0x0, 1, 2, 1, .RO, 0, 0, 1, false, 16, .SYS⟩
def PIPE_STATUS_DEFER : Fld := ⟨0x40060004, 0x0, 1, 3, 1, .RO, 0, 0, 1, false, 16, .SYS⟩
def PIPE_STATUS_RINGFULL : Fld := ⟨0x40060004, 0x0, 1, 4, 1, .RO, 0, 0, 1, false, 16, .SYS⟩
def PIPE_GUCOR_UDPPORT : Fld := ⟨0x40060008, 0x0, 1, 0, 16, .RWS, 7258, 1, 65535, false, 3, .SYS⟩
def PIPE_CNTCLR_CLR : Fld := ⟨0x4006000C, 0x0, 1, 0, 1, .WO, 0, 0, 1, false, 16, .SYS⟩
def PIPE_VAL_RATEM : Fld := ⟨0x40060010, 0x0, 1, 0, 8, .RWT, 10, 0, 100, false, 3, .SYS⟩
def PIPE_VAL_TSKEW : Fld := ⟨0x40060010, 0x0, 1, 8, 16, .RWT, 300, 1, 65535, false, 3, .SYS⟩
def PIPE_QCFG_DAYS : Fld := ⟨0x40060014, 0x0, 1, 0, 9, .RWS, 30, 1, 365, false, 3, .SYS⟩
def PIPE_IQWM_WM3 : Fld := ⟨0x40060018, 0x0, 1, 0, 12, .RWS, 2560, 256, 3072, false, 3, .SYS⟩
def PIPE_IQOCC : Fld := ⟨0x40060020, 0x0, 1, 0, 32, .RO, 0, 0, 4294967295, false, 16, .SYS⟩
def PIPE_RING3 : Fld := ⟨0x40060024, 0x0, 1, 0, 32, .RO, 0, 0, 4294967295, false, 16, .SYS⟩
def PIPE_RING2 : Fld := ⟨0x40060028, 0x0, 1, 0, 32, .RO, 0, 0, 4294967295, false, 16, .SYS⟩
def PIPE_SEQL : Fld := ⟨0x40060030, 0x0, 1, 0, 32, .RO, 0, 0, 4294967295, false, 16, .SYS⟩
def PIPE_SEQH : Fld := ⟨0x40060034, 0x0, 1, 0, 32, .RO, 0, 0, 4294967295, false, 16, .SYS⟩
def PIPE_RATE : Fld := ⟨0x40060038, 0x0, 1, 0, 32, .RO, 0, 0, 4294967295, false, 16, .SYS⟩
def PIPE_OCNT_COUNT : Fld := ⟨0x40061000, 0x4, 256, 0, 32, .RO, 0, 0, 4294967295, false, 16, .SYS⟩
def BURIN_CTRL_EN : Fld := ⟨0x40070000, 0x0, 1, 0, 1, .RWS, 0, 0, 1, false, 3, .SYS⟩
def BURIN_CTRL_BMAX : Fld := ⟨0x40070000, 0x0, 1, 8, 7, .RWS, 64, 1, 64, false, 3, .SYS⟩
def BURIN_BWAIT_US : Fld := ⟨0x40070004, 0x0, 1, 0, 10, .RWS, 200, 10, 1000, false, 3, .SYS⟩
def BURIN_ENG_DIS : Fld := ⟨0x40070008, 0x0, 1, 0, 24, .RWS, 0, 0, 16777215, false, 3, .SYS⟩
def BURIN_ENGOK_OK : Fld := ⟨0x4007000C, 0x0, 1, 0, 24, .RO, 0, 0, 16777215, false, 16, .SYS⟩
def BURIN_VCNT_COUNT : Fld := ⟨0x40070010, 0x4, 3, 0, 32, .RO, 0, 0, 4294967295, false, 16, .SYS⟩
def BURIN_FCNT : Fld := ⟨0x40070020, 0x4, 3, 0, 32, .RO, 0, 0, 4294967295, false, 16, .SYS⟩
def BURIN_BATCH : Fld := ⟨0x40070030, 0x0, 1, 0, 32, .RO, 0, 0, 4294967295, false, 16, .SYS⟩
def BURIN_BFAIL : Fld := ⟨0x40070034, 0x0, 1, 0, 32, .RO, 0, 0, 4294967295, false, 16, .SYS⟩
def BURIN_BPART : Fld := ⟨0x40070038, 0x0, 1, 0, 32, .RO, 0, 0, 4294967295, false, 16, .SYS⟩
def BURIN_PEND : Fld := ⟨0x4007003C, 0x0, 1, 0, 32, .RO, 0, 0, 4294967295, false, 16, .SYS⟩
def METER_CTRL_NONE_OK : Fld := ⟨0x40080000, 0x0, 1, 0, 1, .RWS, 0, 0, 1, false, 4, .SYS⟩
def METER_STATUS_LOADED : Fld := ⟨0x40080004, 0x0, 1, 0, 1, .RO, 0, 0, 1, false, 16, .SYS⟩
def METER_STATUS_REBUILDING : Fld := ⟨0x40080004, 0x0, 1, 1, 1, .RO, 0, 0, 1, false, 16, .SYS⟩
def METER_STATUS_DIRHIGH : Fld := ⟨0x40080004, 0x0, 1, 2, 1, .RO, 0, 0, 1, false, 16, .SYS⟩
def METER_QCFG_STRIKES : Fld := ⟨0x40080008, 0x0, 1, 0, 8, .RWT, 8, 0, 255, false, 4, .SYS⟩
def METER_RETAIN_DAYS : Fld := ⟨0x4008000C, 0x0, 1, 0, 10, .RWT, 400, 30, 1023, false, 4, .SYS⟩
def METER_CKPT_HOURS : Fld := ⟨0x40080010, 0x0, 1, 0, 8, .RWS, 24, 6, 168, false, 4, .SYS⟩
def METER_CKPTPOS : Fld := ⟨0x40080014, 0x0, 1, 0, 32, .RO, 0, 0, 4294967295, false, 16, .SYS⟩
def METER_CKPTNUM : Fld := ⟨0x40080018, 0x0, 1, 0, 32, .RO, 0, 0, 4294967295, false, 16, .SYS⟩
def METER_DIRCNT : Fld := ⟨0x4008001C, 0x0, 1, 0, 32, .RO, 0, 0, 4294967295, false, 16, .SYS⟩
def METER_COUNT_SLOTS : Fld := ⟨0x40080020, 0x4, 7, 0, 21, .RO, 0, 0, 2097151, false, 16, .SYS⟩
def METER_FINDL_ID : Fld := ⟨0x40080040, 0x0, 1, 0, 32, .RW, 0, 0, 4294967295, false, 16, .SYS⟩
def METER_FINDH : Fld := ⟨0x40080044, 0x0, 1, 0, 32, .RW, 0, 0, 4294967295, false, 16, .SYS⟩
def METER_FIND_GO : Fld := ⟨0x40080048, 0x0, 1, 0, 1, .WO, 0, 0, 1, false, 16, .SYS⟩
def METER_FOUND_SLOT : Fld := ⟨0x4008004C, 0x0, 1, 0, 20, .RO, 0, 0, 1048575, false, 16, .SYS⟩
def METER_FOUND_VALID : Fld := ⟨0x4008004C, 0x0, 1, 20, 1, .RO, 0, 0, 1, false, 16, .SYS⟩
def METER_FOUND_VIADIR : Fld := ⟨0x4008004C, 0x0, 1, 21, 1, .RO, 0, 0, 1, false, 16, .SYS⟩
def METER_FOUND_DONE : Fld := ⟨0x4008004C, 0x0, 1, 22, 1, .RO, 0, 0, 1, false, 16, .SYS⟩
def METER_PEEK_SLOT : Fld := ⟨0x40080050, 0x0, 1, 0, 20, .RW, 0, 0, 1048575, false, 16, .SYS⟩
def METER_PEEKD_WORD : Fld := ⟨0x40080100, 0x4, 128, 0, 32, .RO, 0, 0, 4294967295, false, 16, .SYS⟩
def BILL_CTRL_MAINSCUT : Fld := ⟨0x40090000, 0x0, 1, 0, 1, .RWP, 1, 0, 1, false, 16, .SYS⟩
def BILL_LEGCLK_MS : Fld := ⟨0x40090008, 0x0, 1, 0, 17, .RWP, 2000, 100, 60000, false, 16, .SYS⟩
def BILL_DEMAND_LEN : Fld := ⟨0x40090010, 0x0, 1, 0, 4, .RWP, 8, 0, 11, false, 16, .SYS⟩
def BILL_DEMAND_NSUB : Fld := ⟨0x40090010, 0x0, 1, 4, 4, .RWP, 1, 1, 15, false, 16, .SYS⟩
def BILL_DEMAND_LEN_NOW : Fld := ⟨0x40090010, 0x0, 1, 8, 4, .RO, 8, 0, 15, false, 16, .SYS⟩
def BILL_DEMAND_NSUB_NOW : Fld := ⟨0x40090010, 0x0, 1, 12, 4, .RO, 1, 0, 15, false, 16, .SYS⟩
def BILL_SETTLE_S : Fld := ⟨0x40090018, 0x0, 1, 0, 12, .RWP, 900, 0, 3600, false, 16, .SYS⟩
def BILL_PERIOD_DAY : Fld := ⟨0x40090020, 0x0, 1, 0, 5, .RWP, 1, 1, 28, false, 16, .SYS⟩
def BILL_PERIOD_HOUR : Fld := ⟨0x40090020, 0x0, 1, 8, 5, .RWP, 0, 0, 23, false, 16, .SYS⟩
def BILL_SESSDAYS_DAYS : Fld := ⟨0x40090028, 0x0, 1, 0, 13, .RWP, 1100, 90, 8191, false, 16, .SYS⟩
def BILL_STATUS_RUN : Fld := ⟨0x40090040, 0x0, 1, 0, 1, .RO, 0, 0, 1, false, 16, .SYS⟩
def BILL_STATUS_HALTED : Fld := ⟨0x40090040, 0x0, 1, 1, 1, .RO, 0, 0, 1, false, 16, .SYS⟩
def BILL_STATUS_REBUILDING : Fld := ⟨0x40090040, 0x0, 1, 2, 1, .RO, 0, 0, 1, false, 16, .SYS⟩
def BILL_STATUS_REPEAT : Fld := ⟨0x40090040, 0x0, 1, 3, 1, .RO, 0, 0, 1, false, 16, .SYS⟩
def BILL_STATUS_PENDING : Fld := ⟨0x40090040, 0x0, 1, 4, 1, .RO, 0, 0, 1, false, 16, .SYS⟩
def BILL_STATUS_CHKOK : Fld := ⟨0x40090040, 0x0, 1, 5, 1, .RO, 0, 0, 1, false, 16, .SYS⟩
def BILL_HWML : Fld := ⟨0x40090044, 0x0, 1, 0, 32, .RO, 0, 0, 4294967295, false, 16, .SYS⟩
def BILL_HWMH : Fld := ⟨0x40090048, 0x0, 1, 0, 32, .RO, 0, 0, 4294967295, false, 16, .SYS⟩
def BILL_BSEQ : Fld := ⟨0x4009004C, 0x0, 1, 0, 32, .RO, 0, 0, 4294967295, false, 16, .SYS⟩
def BILL_LQOCC : Fld := ⟨0x40090050, 0x0, 1, 0, 32, .RO, 0, 0, 4294967295, false, 16, .SYS⟩
def BILL_FAULTS : Fld := ⟨0x40090054, 0x0, 1, 0, 32, .RO, 0, 0, 4294967295, false, 16, .SYS⟩
def BILL_CHKV_WORD : Fld := ⟨0x40090080, 0x4, 8, 0, 32, .RO, 0, 0, 4294967295, false, 16, .SYS⟩
def BILL_CHKCMD_RECOMPUTE : Fld := ⟨0x400900A0, 0x0, 1, 0, 1, .WO, 0, 0, 1, false, 16, .SYS⟩
def TARIFF_LCTRL_MINLEAD : Fld := ⟨0x400A0000, 0x0, 1, 0, 10, .RWP, 24, 0, 720, false, 16, .SYS⟩
def TARIFF_LCTRL_CALLOCK : Fld := ⟨0x400A0000, 0x0, 1, 16, 1, .RWP, 0, 0, 1, false, 16, .SYS⟩
def TARIFF_STATUS_ACTIVE : Fld := ⟨0x400A0010, 0x0, 1, 0, 11, .RO, 0, 0, 2047, false, 16, .SYS⟩
def TARIFF_STATUS_PASSIVE : Fld := ⟨0x400A0010, 0x0, 1, 16, 11, .RO, 0, 0, 2047, false, 16, .SYS⟩
def TARIFF_SEL_SCHEME : Fld := ⟨0x400A0020, 0x0, 1, 0, 10, .RW, 0, 0, 1023, false, 16, .SYS⟩
def TARIFF_INFO_NOW : Fld := ⟨0x400A0024, 0x0, 1, 0, 4, .RO, 0, 0, 15, false, 16, .SYS⟩
def TARIFF_INFO_HASACT : Fld := ⟨0x400A0024, 0x0, 1, 4, 1, .RO, 0, 0, 1, false, 16, .SYS⟩
def TARIFF_INFO_HASPAS : Fld := ⟨0x400A0024, 0x0, 1, 5, 1, .RO, 0, 0, 1, false, 16, .SYS⟩
def TARIFF_INFO_LEN : Fld := ⟨0x400A0024, 0x0, 1, 6, 4, .RO, 8, 0, 15, false, 16, .SYS⟩
def TARIFF_ACTID : Fld := ⟨0x400A0028, 0x0, 1, 0, 32, .RO, 0, 0, 4294967295, false, 16, .SYS⟩
def TARIFF_PASID : Fld := ⟨0x400A002C, 0x0, 1, 0, 32, .RO, 0, 0, 4294967295, false, 16, .SYS⟩
def TARIFF_PASTL : Fld := ⟨0x400A0030, 0x0, 1, 0, 32, .RO, 0, 0, 4294967295, false, 16, .SYS⟩
def TARIFF_PASTH : Fld := ⟨0x400A0034, 0x0, 1, 0, 32, .RO, 0, 0, 4294967295, false, 16, .SYS⟩
def TARIFF_BPEEK_SLOT : Fld := ⟨0x400A0040, 0x0, 1, 0, 20, .RW, 0, 0, 1048575, false, 16, .SYS⟩
def TARIFF_BPEEKD_WORD : Fld := ⟨0x400A0100, 0x4, 64, 0, 32, .RO, 0, 0, 4294967295, false, 16, .SYS⟩
def BAL_CTRL_EN : Fld := ⟨0x400B0000, 0x0, 1, 0, 1, .RWS, 0, 0, 1, false, 5, .SYS⟩
def BAL_CTRL_LOC_EN : Fld := ⟨0x400B0000, 0x0, 1, 1, 1, .RWS, 1, 0, 1, false, 5, .SYS⟩
def BAL_CTRL_TSIG_EN : Fld := ⟨0x400B0000, 0x0, 1, 2, 1, .RWS, 1, 0, 1, false, 5, .SYS⟩
def BAL_STATUS_RUN : Fld := ⟨0x400B0004, 0x0, 1, 0, 1, .RO, 0, 0, 1, false, 16, .SYS⟩
def BAL_STATUS_REBUILDING : Fld := ⟨0x400B0004, 0x0, 1, 1, 1, .RO, 0, 0, 1, false, 16, .SYS⟩
def BAL_STATUS_OVERRUN : Fld := ⟨0x400B0004, 0x0, 1, 2, 1, .W1C, 0, 0, 1, false, 16, .SYS⟩
def BAL_STATUS_LOCBUSY : Fld := ⟨0x400B0004, 0x0, 1, 3, 1, .RO, 0, 0, 1, false, 16, .SYS⟩
def BAL_COVER_PERMIL : Fld := ⟨0x400B0008, 0x0, 1, 0, 10, .RWT, 980, 500, 1000, false, 5, .SYS⟩
def BAL_WIN_REBAL : Fld := ⟨0x400B000C, 0x0, 1, 0, 9, .RWS, 120, 0, 360, false, 5, .SYS⟩
def BAL_GAP_FULL : Fld := ⟨0x400B0010, 0x0, 1, 0, 10, .RWS, 30, 1, 720, false, 5, .SYS⟩
def BAL_GAP_MAX : Fld := ⟨0x400B0010, 0x0, 1, 16, 10, .RWS, 360, 1, 720, false, 5, .SYS⟩
def BAL_RLS_LAMBDA : Fld := ⟨0x400B0014, 0x0, 1, 0, 14, .RWT, 9950, 9000, 10000, false, 5, .SYS⟩
def BAL_RLS_DELAY : Fld := ⟨0x400B0014, 0x0, 1, 16, 7, .RWT, 16, 0, 64, false, 5, .SYS⟩
def BAL_CUSUM_K : Fld := ⟨0x400B0018, 0x0, 1, 0, 8, .RWT, 50, 0, 255, false, 5, .SYS⟩
def BAL_CUSUM_H : Fld := ⟨0x400B0018, 0x0, 1, 8, 8, .RWT, 50, 10, 255, false, 5, .SYS⟩
def BAL_CUSUM_LOWN : Fld := ⟨0x400B0018, 0x0, 1, 16, 4, .RWT, 4, 1, 15, false, 5, .SYS⟩
def BAL_LOC_RHO : Fld := ⟨0x400B001C, 0x0, 1, 0, 7, .RWS, 60, 10, 100, false, 5, .SYS⟩
def BAL_LOC_PRE : Fld := ⟨0x400B001C, 0x0, 1, 8, 6, .RWS, 8, 4, 32, false, 5, .SYS⟩
def BAL_LOC_MINPOST : Fld := ⟨0x400B001C, 0x0, 1, 16, 4, .RWS, 2, 1, 15, false, 5, .SYS⟩
def BAL_LOC_WIN : Fld := ⟨0x400B001C, 0x0, 1, 24, 8, .RWS, 96, 16, 192, false, 5, .SYS⟩
def BAL_TSIG_REVMIN : Fld := ⟨0x400B0020, 0x0, 1, 0, 10, .RWS, 10, 1, 1000, false, 5, .SYS⟩
def BAL_TSIG_IMIN : Fld := ⟨0x400B0020, 0x0, 1, 16, 10, .RWS, 50, 1, 1000, false, 5, .SYS⟩
def BAL_TSIG_ZMIN : Fld := ⟨0x400B0020, 0x0, 1, 26, 6, .RWS, 15, 1, 63, false, 5, .SYS⟩
def BAL_RETAIN_DAYS : Fld := ⟨0x400B0024, 0x0, 1, 0, 10, .RWS, 400, 30, 1023, false, 5, .SYS⟩
def BAL_FINL : Fld := ⟨0x400B0030, 0x0, 1, 0, 32, .RO, 0, 0, 4294967295, false, 16, .SYS⟩
def BAL_FINH : Fld := ⟨0x400B0034, 0x0, 1, 0, 32, .RO, 0, 0, 4294967295, false, 16, .SYS⟩
def BAL_PROVL : Fld := ⟨0x400B0038, 0x0, 1, 0, 32, .RO, 0, 0, 4294967295, false, 16, .SYS⟩
def BAL_PROVH : Fld := ⟨0x400B003C, 0x0, 1, 0, 32, .RO, 0, 0, 4294967295, false, 16, .SYS⟩
def BAL_NODES : Fld := ⟨0x400B0040, 0x0, 1, 0, 32, .RO, 0, 0, 4294967295, false, 16, .SYS⟩
def BAL_RAISED : Fld := ⟨0x400B0044, 0x0, 1, 0, 32, .RO, 0, 0, 4294967295, false, 16, .SYS⟩
def BAL_LATE : Fld := ⟨0x400B0048, 0x0, 1, 0, 32, .RO, 0, 0, 4294967295, false, 16, .SYS⟩
def BAL_LOCQ : Fld := ⟨0x400B004C, 0x0, 1, 0, 32, .RO, 0, 0, 4294967295, false, 16, .SYS⟩
def BAL_NSEL_NODE : Fld := ⟨0x400B0080, 0x0, 1, 0, 16, .RW, 0, 0, 65535, false, 16, .SYS⟩
def BAL_NINFO_LEVEL : Fld := ⟨0x400B0084, 0x0, 1, 0, 3, .RO, 0, 0, 7, false, 16, .SYS⟩
def BAL_NINFO_DEFINED : Fld := ⟨0x400B0084, 0x0, 1, 3, 1, .RO, 0, 0, 1, false, 16, .SYS⟩
def BAL_NINFO_ENABLED : Fld := ⟨0x400B0084, 0x0, 1, 4, 1, .RO, 0, 0, 1, false, 16, .SYS⟩
def BAL_NINFO_RAISEDP : Fld := ⟨0x400B0084, 0x0, 1, 5, 1, .RO, 0, 0, 1, false, 16, .SYS⟩
def BAL_NINFO_RAISEDM : Fld := ⟨0x400B0084, 0x0, 1, 6, 1, .RO, 0, 0, 1, false, 16, .SYS⟩
def BAL_NINFO_LOWCOV : Fld := ⟨0x400B0084, 0x0, 1, 7, 1, .RO, 0, 0, 1, false, 16, .SYS⟩
def BAL_NINFO_REFMISS : Fld := ⟨0x400B0084, 0x0, 1, 8, 1, .RO, 0, 0, 1, false, 16, .SYS⟩
def BAL_NINFO_LOADP : Fld := ⟨0x400B0084, 0x0, 1, 9, 1, .RO, 0, 0, 1, false, 16, .SYS⟩
def BAL_NINFO_BUFFERED : Fld := ⟨0x400B0084, 0x0, 1, 16, 7, .RO, 0, 0, 127, false, 16, .SYS⟩
def BAL_NREF_SLOT : Fld := ⟨0x400B0088, 0x0, 1, 0, 20, .RO, 0, 0, 1048575, false, 16, .SYS⟩
def BAL_NREF_NOREF : Fld := ⟨0x400B0088, 0x0, 1, 20, 1, .RO, 0, 0, 1, false, 16, .SYS⟩
def BAL_NPAR_PARENT : Fld := ⟨0x400B008C, 0x0, 1, 0, 16, .RO, 0, 0, 65535, false, 16, .SYS⟩
def BAL_NKIDS : Fld := ⟨0x400B0090, 0x0, 1, 0, 32, .RO, 0, 0, 4294967295, false, 16, .SYS⟩
def BAL_NA : Fld := ⟨0x400B0094, 0x0, 1, 0, 32, .RO, 0, 0, 4294967295, false, 16, .SYS⟩
def BAL_NB : Fld := ⟨0x400B0098, 0x0, 1, 0, 32, .RO, 0, 0, 4294967295, false, 16, .SYS⟩
def BAL_NS : Fld := ⟨0x400B009C, 0x0, 1, 0, 32, .RO, 0, 0, 4294967295, false, 16, .SYS⟩
def BAL_NG_GP : Fld := ⟨0x400B00A0, 0x0, 1, 0, 16, .RO, 0, 0, 65535, false, 16, .SYS⟩
def BAL_NG_GM : Fld := ⟨0x400B00A0, 0x0, 1, 16, 16, .RO, 0, 0, 65535, false, 16, .SYS⟩
def BAL_SUSPA_SLOT : Fld := ⟨0x400B0100, 0x8, 8, 0, 20, .RO, 0, 0, 1048575, false, 16, .SYS⟩
def BAL_SUSPA_REASON : Fld := ⟨0x400B0100, 0x8, 8, 20, 4, .RO, 0, 0, 15, false, 16, .SYS⟩
def BAL_SUSPB_RHO : Fld := ⟨0x400B0104, 0x8, 8, 0, 8, .RO, 0, 0, 255, false, 16, .SYS⟩
def BAL_SUSPB_SIGS : Fld := ⟨0x400B0104, 0x8, 8, 8, 8, .RO, 0, 0, 255, false, 16, .SYS⟩
def BAL_SUSPB_DROP : Fld := ⟨0x400B0104, 0x8, 8, 16, 16, .RO, 0, 0, 65535, false, 16, .SYS⟩
def DIST_CTRL_CURT_EN : Fld := ⟨0x400C0000, 0x0, 1, 0, 1, .RWS, 0, 0, 1, false, 6, .SYS⟩
def DIST_CTRL_PUSH_EN : Fld := ⟨0x400C0000, 0x0, 1, 1, 1, .RWS, 0, 0, 1, false, 6, .SYS⟩
def DIST_CTRL_CAMP_EN : Fld := ⟨0x400C0000, 0x0, 1, 2, 1, .RWS, 0, 0, 1, false, 6, .SYS⟩
def DIST_STATUS_RESUMING : Fld := ⟨0x400C0004, 0x0, 1, 0, 1, .RO, 0, 0, 1, false, 16, .SYS⟩
def DIST_STATUS_CAMPS : Fld := ⟨0x400C0004, 0x0, 1, 1, 5, .RO, 0, 0, 31, false, 16, .SYS⟩
def DIST_STATUS_HELD : Fld := ⟨0x400C0004, 0x0, 1, 6, 1, .RO, 0, 0, 1, false, 16, .SYS⟩
def DIST_RESUME_KWPS : Fld := ⟨0x400C0008, 0x0, 1, 0, 16, .RWT, 100, 1, 65535, false, 6, .SYS⟩
def DIST_RESUME_JITTER : Fld := ⟨0x400C0008, 0x0, 1, 16, 12, .RWT, 500, 0, 4000, false, 6, .SYS⟩
def DIST_RESDEF_W : Fld := ⟨0x400C000C, 0x0, 1, 0, 24, .RWS, 22000, 1, 16000000, false, 6, .SYS⟩
def DIST_CURT_ACKMS : Fld := ⟨0x400C0010, 0x0, 1, 0, 12, .RWS, 500, 50, 4000, false, 6, .SYS⟩
def DIST_CURT_RETRY : Fld := ⟨0x400C0010, 0x0, 1, 12, 4, .RWS, 3, 0, 15, false, 6, .SYS⟩
def DIST_CURT_REFRESH : Fld := ⟨0x400C0010, 0x0, 1, 16, 12, .RWS, 60, 10, 4000, true, 6, .SYS⟩
def DIST_CAMP_ACTSLOT : Fld := ⟨0x400C0014, 0x0, 1, 0, 12, .RWS, 60, 10, 3600, false, 6, .SYS⟩
def DIST_CAMP_CAP : Fld := ⟨0x400C0014, 0x0, 1, 12, 8, .RWS, 4, 1, 255, false, 6, .SYS⟩
def DIST_CAMP_ROUNDS : Fld := ⟨0x400C0014, 0x0, 1, 20, 4, .RWS, 2, 1, 15, false, 6, .SYS⟩
def DIST_CAMP_ARMLEAD : Fld := ⟨0x400C0014, 0x0, 1, 24, 8, .RWS, 60, 1, 255, false, 6, .SYS⟩
def DIST_CAMP2_MCMIN : Fld := ⟨0x400C0018, 0x0, 1, 0, 8, .RWS, 4, 1, 255, false, 6, .SYS⟩
def DIST_CAMP2_CONFIRM : Fld := ⟨0x400C0018, 0x0, 1, 8, 16, .RWS, 120, 1, 65535, false, 6, .SYS⟩
def DIST_PUSH_RETRYMIN : Fld := ⟨0x400C001C, 0x0, 1, 0, 8, .RWS, 30, 1, 255, false, 6, .SYS⟩
def DIST_PUSH_RETRY : Fld := ⟨0x400C001C, 0x0, 1, 8, 4, .RWS, 8, 0, 15, false, 6, .SYS⟩
def DIST_POSTS : Fld := ⟨0x400C0030, 0x0, 1, 0, 32, .RO, 0, 0, 4294967295, false, 16, .SYS⟩
def DIST_CURTD : Fld := ⟨0x400C0034, 0x0, 1, 0, 32, .RO, 0, 0, 4294967295, false, 16, .SYS⟩
def DIST_RQ : Fld := ⟨0x400C0038, 0x0, 1, 0, 32, .RO, 0, 0, 4294967295, false, 16, .SYS⟩
def DIST_NOACK : Fld := ⟨0x400C003C, 0x0, 1, 0, 32, .RO, 0, 0, 4294967295, false, 16, .SYS⟩
def DIST_C0BAD : Fld := ⟨0x400C0040, 0x0, 1, 0, 32, .RO, 0, 0, 4294967295, false, 16, .SYS⟩
def DIST_CSEL_CAMP : Fld := ⟨0x400C0080, 0x0, 1, 0, 4, .RW, 0, 0, 15, false, 16, .SYS⟩
def DIST_CINFO_STATE : Fld := ⟨0x400C0084, 0x0, 1, 0, 3, .RO, 0, 0, 7, false, 16, .SYS⟩
def DIST_CINFO_BLOCKS : Fld := ⟨0x400C0084, 0x0, 1, 14, 18, .RO, 0, 0, 262143, false, 16, .SYS⟩
def DIST_CTAG : Fld := ⟨0x400C0088, 0x0, 1, 0, 32, .RO, 0, 0, 4294967295, false, 16, .SYS⟩
def DIST_CTGT : Fld := ⟨0x400C008C, 0x0, 1, 0, 32, .RO, 0, 0, 4294967295, false, 16, .SYS⟩
def DIST_CHAVE : Fld := ⟨0x400C0090, 0x0, 1, 0, 32, .RO, 0, 0, 4294967295, false, 16, .SYS⟩
def DIST_CDONE : Fld := ⟨0x400C0094, 0x0, 1, 0, 32, .RO, 0, 0, 4294967295, false, 16, .SYS⟩
def QOS_CTRL_PREEMPT : Fld := ⟨0x400D0000, 0x0, 1, 0, 2, .RWS, 3, 0, 3, false, 7, .SYS⟩
def QOS_CTRL_ADDFRAG : Fld := ⟨0x400D0000, 0x0, 1, 2, 2, .RWS, 0, 0, 3, false, 7, .SYS⟩
def QOS_CTRL_VERIFY : Fld := ⟨0x400D0000, 0x0, 1, 4, 1, .RWS, 1, 0, 1, false, 7, .SYS⟩
def QOS_STATUS_C0READY : Fld := ⟨0x400D0004, 0x0, 1, 0, 1, .RO, 0, 0, 1, false, 16, .SYS⟩
def QOS_STATUS_C0FAULT : Fld := ⟨0x400D0004, 0x0, 1, 1, 1, .RO, 0, 0, 1, false, 16, .SYS⟩
def QOS_STATUS_PREACT : Fld := ⟨0x400D0004, 0x0, 1, 2, 2, .RO, 0, 0, 3, false, 16, .SYS⟩
def QOS_C0POL_FPS : Fld := ⟨0x400D0008, 0x0, 1, 0, 11, .RWT, 2000, 1, 2000, false, 7, .SYS⟩
def QOS_C0POL_BURST : Fld := ⟨0x400D0008, 0x0, 1, 16, 6, .RWT, 20, 1, 63, false, 7, .SYS⟩
def QOS_C0POL_PCT : Fld := ⟨0x400D0008, 0x0, 1, 24, 4, .RWT, 10, 1, 10, false, 7, .SYS⟩
def QOS_EGWM_WM2 : Fld := ⟨0x400D000C, 0x0, 1, 0, 7, .RWS, 75, 50, 95, false, 7, .SYS⟩
def QOS_EGWM_WM3 : Fld := ⟨0x400D000C, 0x0, 1, 8, 7, .RWS, 75, 50, 95, false, 7, .SYS⟩
def QOS_CNTCLR_CLR : Fld := ⟨0x400D0010, 0x0, 1, 0, 1, .WO, 0, 0, 1, false, 16, .SYS⟩
def QOS_OUTPROF : Fld := ⟨0x400D0020, 0x0, 1, 0, 32, .RO, 0, 0, 4294967295, false, 16, .SYS⟩
def QOS_C0DROP : Fld := ⟨0x400D0024, 0x0, 1, 0, 32, .RO, 0, 0, 4294967295, false, 16, .SYS⟩
def QOS_C0FAULTS : Fld := ⟨0x400D0028, 0x0, 1, 0, 32, .RO, 0, 0, 4294967295, false, 16, .SYS⟩
def QOS_HDROP : Fld := ⟨0x400D002C, 0x0, 1, 0, 32, .RO, 0, 0, 4294967295, false, 16, .SYS⟩
def QOS_DROP2 : Fld := ⟨0x400D0030, 0x0, 1, 0, 32, .RO, 0, 0, 4294967295, false, 16, .SYS⟩
def QOS_DROP3 : Fld := ⟨0x400D0034, 0x0, 1, 0, 32, .RO, 0, 0, 4294967295, false, 16, .SYS⟩
def QOS_QSEL_QUEUE : Fld := ⟨0x400D0040, 0x0, 1, 0, 7, .RW, 0, 0, 93, false, 16, .SYS⟩
def QOS_QOCC : Fld := ⟨0x400D0044, 0x0, 1, 0, 32, .RO, 0, 0, 4294967295, false, 16, .SYS⟩
def QOS_QWR : Fld := ⟨0x400D0048, 0x0, 1, 0, 32, .RO, 0, 0, 4294967295, false, 16, .SYS⟩
def QOS_QRD : Fld := ⟨0x400D004C, 0x0, 1, 0, 32, .RO, 0, 0, 4294967295, false, 16, .SYS⟩
def QOS_QPEEKL : Fld := ⟨0x400D0050, 0x0, 1, 0, 32, .RO, 0, 0, 4294967295, false, 16, .SYS⟩
def QOS_QPEEKH : Fld := ⟨0x400D0054, 0x0, 1, 0, 32, .RO, 0, 0, 4294967295, false, 16, .SYS⟩
def QOS_QSPILL : Fld := ⟨0x400D0058, 0x0, 1, 0, 32, .RO, 0, 0, 4294967295, false, 16, .SYS⟩
def QOS_C0MAX_NS : Fld := ⟨0x400D0100, 0x10, 14, 0, 32, .RO, 0, 0, 4294967295, false, 16, .SYS⟩
def QOS_C0CNT : Fld := ⟨0x400D0104, 0x10, 14, 0, 32, .RO, 0, 0, 4294967295, false, 16, .SYS⟩
def QOS_C0OVR : Fld := ⟨0x400D0108, 0x10, 14, 0, 32, .RO, 0, 0, 4294967295, false, 16, .SYS⟩
def QOS_QCE_CORR : Fld := ⟨0x400D1000, 0x4, 94, 0, 16, .RO, 0, 0, 65535, false, 16, .SYS⟩
def QOS_QCE_UNCORR : Fld := ⟨0x400D1000, 0x4, 94, 16, 16, .RO, 0, 0, 65535, false, 16, .SYS⟩
def PLC_CTRL_RXEN : Fld := ⟨0x400E0000, 0x0, 1, 0, 6, .RWS, 0, 0, 63, false, 8, .SYS⟩
def PLC_CTRL_TXEN : Fld := ⟨0x400E0000, 0x0, 1, 6, 3, .RWS, 0, 0, 7, false, 8, .SYS⟩
def PLC_CTRL_HATCH_EN : Fld := ⟨0x400E0000, 0x0, 1, 9, 1, .RWS, 1, 0, 1, false, 8, .SYS⟩
def PLC_CTRL_SEGCOST_EN : Fld := ⟨0x400E0000, 0x0, 1, 10, 1, .RWS, 1, 0, 1, false, 8, .SYS⟩
def PLC_STATUS_PUBLISH : Fld := ⟨0x400E0004, 0x0, 1, 0, 6, .RO, 0, 0, 63, false, 16, .SYS⟩
def PLC_STATUS_DRVFAULT : Fld := ⟨0x400E0004, 0x0, 1, 6, 3, .RO, 0, 0, 7, false, 16, .SYS⟩
def PLC_STATUS_CALRUN : Fld := ⟨0x400E0004, 0x0, 1, 9, 3, .RO, 0, 0, 7, false, 16, .SYS⟩
def PLC_EXTOUI_OUI : Fld := ⟨0x400E0008, 0x0, 1, 0, 24, .RO, 0, 0, 16777215, false, 16, .SYS⟩
def PLC_STIP_THR : Fld := ⟨0x400E0010, 0x0, 1, 0, 8, .RWS, 16, 8, 64, false, 8, .PLC⟩
def PLC_STIP_ERAS : Fld := ⟨0x400E0010, 0x0, 1, 8, 7, .RWS, 25, 5, 100, false, 8, .PLC⟩
def PLC_HATCH_HGUARD : Fld := ⟨0x400E0014, 0x0, 1, 0, 12, .RWS, 256, 0, 2048, false, 8, .SYS⟩
def PLC_HATCH_AGE : Fld := ⟨0x400E0014, 0x0, 1, 16, 8, .RWS, 60, 5, 255, false, 8, .SYS⟩
def PLC_HATCH_SNRMIN : Fld := ⟨0x400E0014, 0x0, 1, 24, 5, .RWS, 4, 0, 31, false, 8, .SYS⟩
def PLC_NBR_PERIOD : Fld := ⟨0x400E0018, 0x0, 1, 0, 12, .RWS, 60, 10, 3600, false, 8, .SYS⟩
def PLC_ROUTE_RDRATE : Fld := ⟨0x400E001C, 0x0, 1, 0, 8, .RWS, 20, 1, 255, false, 8, .SYS⟩
def PLC_ROUTE_HOLDMS : Fld := ⟨0x400E001C, 0x0, 1, 8, 12, .RWS, 2000, 0, 4000, false, 8, .SYS⟩
def PLC_ROUTE_KQ : Fld := ⟨0x400E001C, 0x0, 1, 20, 4, .RWS, 10, 0, 15, false, 8, .SYS⟩
def PLC_ROUTE_KM : Fld := ⟨0x400E001C, 0x0, 1, 24, 4, .RWS, 4, 0, 15, false, 8, .SYS⟩
def PLC_ROUTE_KC : Fld := ⟨0x400E001C, 0x0, 1, 28, 4, .RWS, 2, 0, 15, false, 8, .SYS⟩
def PLC_RXCAL_STEPDB : Fld := ⟨0x400E0020, 0x0, 1, 0, 4, .RWS, 6, 2, 15, false, 8, .PLC⟩
def PLC_CAL_RUN : Fld := ⟨0x400E0024, 0x0, 1, 0, 3, .RWP, 0, 0, 7, false, 16, .SYS⟩
def PLC_CNTCLR_CLR : Fld := ⟨0x400E0028, 0x0, 1, 0, 1, .WO, 0, 0, 1, false, 16, .SYS⟩
def PLC_CHCFG_PANID : Fld := ⟨0x400E0100, 0x40, 6, 0, 16, .RWS, 0, 0, 65534, false, 8, .SYS⟩
def PLC_CHSTAT_NODES : Fld := ⟨0x400E0104, 0x40, 6, 0, 15, .RO, 0, 0, 32767, false, 16, .SYS⟩
def PLC_CHSTAT_NBRS : Fld := ⟨0x400E0104, 0x40, 6, 16, 12, .RO, 0, 0, 4095, false, 16, .SYS⟩
def PLC_FOK : Fld := ⟨0x400E0108, 0x40, 6, 0, 32, .RO, 0, 0, 4294967295, false, 16, .SYS⟩
def PLC_FBAD : Fld := ⟨0x400E010C, 0x40, 6, 0, 32, .RO, 0, 0, 4294967295, false, 16, .SYS⟩
def PLC_REASM : Fld := ⟨0x400E0110, 0x40, 6, 0, 32, .RO, 0, 0, 4294967295, false, 16, .SYS⟩
def PLC_BLANK : Fld := ⟨0x400E0114, 0x40, 6, 0, 32, .RO, 0, 0, 4294967295, false, 16, .SYS⟩
def PLC_ERAS : Fld := ⟨0x400E0118, 0x40, 6, 0, 32, .RO, 0, 0, 4294967295, false, 16, .SYS⟩
def PLC_LSTEP : Fld := ⟨0x400E011C, 0x40, 6, 0, 32, .RO, 0, 0, 4294967295, false, 16, .SYS⟩
def PLC_NOKEY : Fld := ⟨0x400E0120, 0x40, 6, 0, 32, .RO, 0, 0, 4294967295, false, 16, .SYS⟩
def PLC_NOROUTE : Fld := ⟨0x400E0124, 0x40, 6, 0, 32, .RO, 0, 0, 4294967295, false, 16, .SYS⟩
def PLC_CALST_OFS : Fld := ⟨0x400E0128, 0x40, 6, 0, 16, .RO, 0, 0, 65535, false, 16, .PLC⟩
def PLC_CALST_GAIN : Fld := ⟨0x400E0128, 0x40, 6, 16, 16, .RO, 0, 0, 65535, false, 16, .PLC⟩
def PLC_TXCFG_ATTN : Fld := ⟨0x400E0400, 0x20, 3, 0, 5, .RWS, 0, 0, 31, false, 8, .PLC⟩
def PLC_TXCFG_LEAD : Fld := ⟨0x400E0400, 0x20, 3, 8, 8, .RWS, 20, 5, 255, false, 8, .PLC⟩
def PLC_TXMASK_HMASK : Fld := ⟨0x400E0404, 0x20, 3, 0, 16, .RWS, 65535, 1, 65535, false, 8, .PLC⟩
def PLC_TXOK : Fld := ⟨0x400E0408, 0x20, 3, 0, 32, .RO, 0, 0, 4294967295, false, 16, .PLC⟩
def PLC_TXHATCH : Fld := ⟨0x400E040C, 0x20, 3, 0, 32, .RO, 0, 0, 4294967295, false, 16, .PLC⟩
def RADIO_CTRL_RXEN : Fld := ⟨0x400F0000, 0x0, 1, 0, 1, .RWS, 0, 0, 1, false, 9, .SYS⟩
def RADIO_CTRL_TXEN : Fld := ⟨0x400F0000, 0x0, 1, 1, 1, .RWS, 0, 0, 1, false, 9, .SYS⟩
def RADIO_CTRL_BAND : Fld := ⟨0x400F0000, 0x0, 1, 2, 1, .RWS, 0, 0, 1, false, 9, .SYS⟩
def RADIO_CTRL_DIV : Fld := ⟨0x400F0000, 0x0, 1, 3, 1, .RWS, 1, 0, 1, false, 9, .SYS⟩
def RADIO_CTRL_EXTPA : Fld := ⟨0x400F0000, 0x0, 1, 4, 1, .RWS, 0, 0, 1, false, 9, .SYS⟩
def RADIO_CTRL_CFMT : Fld := ⟨0x400F0000, 0x0, 1, 5, 1, .RWS, 0, 0, 1, false, 9, .SYS⟩
def RADIO_STATUS_BUSY : Fld := ⟨0x400F0004, 0x0, 1, 0, 6, .RO, 0, 0, 63, false, 16, .SYS⟩
def RADIO_STATUS_TXON : Fld := ⟨0x400F0004, 0x0, 1, 6, 1, .RO, 0, 0, 1, false, 16, .SYS⟩
def RADIO_STATUS_NOTABLE : Fld := ⟨0x400F0004, 0x0, 1, 7, 1, .RO, 1, 0, 1, false, 16, .SYS⟩
def RADIO_STATUS_CALRUN : Fld := ⟨0x400F0004, 0x0, 1, 8, 1, .RO, 0, 0, 1, false, 16, .SYS⟩
def RADIO_WIN_CENTER : Fld := ⟨0x400F0008, 0x0, 1, 0, 20, .RWS, 868000, 865000, 926000, false, 9, .SYS⟩
def RADIO_TXCFG_PWR : Fld := ⟨0x400F000C, 0x0, 1, 0, 4, .RWS, 14, 0, 14, false, 9, .RF⟩
def RADIO_TXCFG_EXTGAIN : Fld := ⟨0x400F000C, 0x0, 1, 8, 5, .RWS, 0, 0, 31, false, 9, .RF⟩
def RADIO_TXCFG_PALEAD : Fld := ⟨0x400F000C, 0x0, 1, 16, 8, .RWS, 20, 1, 255, false, 9, .RF⟩
def RADIO_SLEEP_GUARD : Fld := ⟨0x400F0010, 0x0, 1, 0, 8, .RWS, 5, 1, 255, false, 9, .SYS⟩
def RADIO_SLEEP_MAXMULT : Fld := ⟨0x400F0010, 0x0, 1, 8, 3, .RWS, 3, 0, 5, false, 9, .SYS⟩
def RADIO_SLEEP_REPLYMS : Fld := ⟨0x400F0010, 0x0, 1, 16, 12, .RWS, 100, 1, 4000, false, 9, .SYS⟩
def RADIO_CAL_RUN : Fld := ⟨0x400F0014, 0x0, 1, 0, 1, .RWP, 0, 0, 1, false, 16, .SYS⟩
def RADIO_CNTCLR_CLR : Fld := ⟨0x400F0018, 0x0, 1, 0, 1, .WO, 0, 0, 1, false, 16, .SYS⟩
def RADIO_CALST_IQGAIN : Fld := ⟨0x400F0020, 0x4, 2, 0, 16, .RO, 0, 0, 65535, false, 16, .RF⟩
def RADIO_CALST_IQPHASE : Fld := ⟨0x400F0020, 0x4, 2, 16, 16, .RO, 0, 0, 65535, false, 16, .RF⟩
def RADIO_REFOFS_PPB : Fld := ⟨0x400F0028, 0x0, 1, 0, 24, .RO, 0, 0, 16777215, false, 16, .RF⟩
def RADIO_REFOFS_FROMPTP : Fld := ⟨0x400F0028, 0x0, 1, 24, 1, .RO, 0, 0, 1, false, 16, .RF⟩
def RADIO_FOK : Fld := ⟨0x400F0040, 0x0, 1, 0, 32, .RO, 0, 0, 4294967295, false, 16, .SYS⟩
def RADIO_FBAD : Fld := ⟨0x400F0044, 0x0, 1, 0, 32, .RO, 0, 0, 4294967295, false, 16, .SYS⟩
def RADIO_MISS : Fld := ⟨0x400F0048, 0x0, 1, 0, 32, .RO, 0, 0, 4294967295, false, 16, .SYS⟩
def RADIO_BLANK : Fld := ⟨0x400F004C, 0x0, 1, 0, 32, .RO, 0, 0, 4294967295, false, 16, .SYS⟩
def RADIO_TXOK : Fld := ⟨0x400F0050, 0x0, 1, 0, 32, .RO, 0, 0, 4294967295, false, 16, .SYS⟩
def RADIO_LBTBUSY : Fld := ⟨0x400F0054, 0x0, 1, 0, 32, .RO, 0, 0, 4294967295, false, 16, .SYS⟩
def RADIO_DWELL : Fld := ⟨0x400F0058, 0x0, 1, 0, 32, .RO, 0, 0, 4294967295, false, 16, .SYS⟩
def RADIO_SLMISS : Fld := ⟨0x400F005C, 0x0, 1, 0, 32, .RO, 0, 0, 4294967295, false, 16, .SYS⟩
def RADIO_ACKDROP : Fld := ⟨0x400F0060, 0x0, 1, 0, 32, .RO, 0, 0, 4294967295, false, 16, .SYS⟩
def RADIO_TXNONE : Fld := ⟨0x400F0064, 0x0, 1, 0, 32, .RO, 0, 0, 4294967295, false, 16, .SYS⟩
def RADIO_SLFULL : Fld := ⟨0x400F0068, 0x0, 1, 0, 32, .RO, 0, 0, 4294967295, false, 16, .SYS⟩
def RADIO_DMCFG_ROW : Fld := ⟨0x400F0080, 0x4, 32, 0, 4, .RWS, 0, 0, 15, false, 9, .RF⟩
def RADIO_DMCFG_MODE : Fld := ⟨0x400F0080, 0x4, 32, 4, 2, .RWS, 0, 0, 2, false, 9, .RF⟩
def RADIO_DMCFG_EN : Fld := ⟨0x400F0080, 0x4, 32, 6, 1, .RWS, 0, 0, 1, false, 9, .RF⟩
def RADIO_DWUSE_MS : Fld := ⟨0x400F0100, 0x4, 16, 0, 32, .RO, 0, 0, 4294967295, false, 16, .SYS⟩
def UPLINK_CFG_EN : Fld := ⟨0x40100000, 0x100, 2, 0, 1, .RWS, 0, 0, 1, false, 10, .SYS⟩
def UPLINK_CFG_MODE : Fld := ⟨0x40100000, 0x100, 2, 1, 1, .RWS, 0, 0, 1, false, 10, .SYS⟩
def UPLINK_CFG_ANEG : Fld := ⟨0x40100000, 0x100, 2, 2, 1, .RWS, 1, 0, 1, false, 10, .SYS⟩
def UPLINK_STATUS_LINK : Fld := ⟨0x40100004, 0x100, 2, 0, 1, .RO, 0, 0, 1, false, 16, .SYS⟩
def UPLINK_STATUS_SECURE : Fld := ⟨0x40100004, 0x100, 2, 1, 1, .RO, 0, 0, 1, false, 16, .SYS⟩
def UPLINK_STATUS_BOOT : Fld := ⟨0x40100004, 0x100, 2, 2, 1, .RO, 0, 0, 1, false, 16, .SYS⟩
def UPLINK_STATUS_ROLLARM : Fld := ⟨0x40100004, 0x100, 2, 3, 1, .RO, 0, 0, 1, false, 16, .SYS⟩
def UPLINK_STATUS_AN : Fld := ⟨0x40100004, 0x100, 2, 8, 2, .RO, 0, 0, 3, false, 16, .SYS⟩
def UPLINK_MSCFG_SEED : Fld := ⟨0x40100008, 0x100, 2, 0, 6, .RWT, 0, 0, 63, false, 10, .SYS⟩
def UPLINK_MSCFG_REPLAY : Fld := ⟨0x40100008, 0x100, 2, 8, 16, .RWT, 8, 0, 65535, false, 10, .SYS⟩
def UPLINK_MSCFG_BOOTOK : Fld := ⟨0x40100008, 0x100, 2, 24, 1, .RWT, 1, 0, 1, false, 10, .SYS⟩
def UPLINK_KNUM : Fld := ⟨0x4010000C, 0x100, 2, 0, 32, .RO, 0, 0, 4294967295, false, 16, .SYS⟩
def UPLINK_IP0 : Fld := ⟨0x40100010, 0x100, 2, 0, 32, .RWS, 0, 0, 4294967295, false, 10, .SYS⟩
def UPLINK_IP1 : Fld := ⟨0x40100014, 0x100, 2, 0, 32, .RWS, 0, 0, 4294967295, false, 10, .SYS⟩
def UPLINK_IP2 : Fld := ⟨0x40100018, 0x100, 2, 0, 32, .RWS, 0, 0, 4294967295, false, 10, .SYS⟩
def UPLINK_IP3 : Fld := ⟨0x4010001C, 0x100, 2, 0, 32, .RWS, 0, 0, 4294967295, false, 10, .SYS⟩
def UPLINK_RTR0 : Fld := ⟨0x40100020, 0x100, 2, 0, 32, .RWS, 0, 0, 4294967295, false, 10, .SYS⟩
def UPLINK_RTR1 : Fld := ⟨0x40100024, 0x100, 2, 0, 32, .RWS, 0, 0, 4294967295, false, 10, .SYS⟩
def UPLINK_RTR2 : Fld := ⟨0x40100028, 0x100, 2, 0, 32, .RWS, 0, 0, 4294967295, false, 10, .SYS⟩
def UPLINK_RTR3 : Fld := ⟨0x4010002C, 0x100, 2, 0, 32, .RWS, 0, 0, 4294967295, false, 10, .SYS⟩
def UPLINK_HCP_UDPPORT : Fld := ⟨0x40100030, 0x100, 2, 0, 16, .RWS, 7259, 1, 65535, false, 10, .SYS⟩
def UPLINK_RXOK : Fld := ⟨0x40100040, 0x100, 2, 0, 32, .RO, 0, 0, 4294967295, false, 16, .SYS⟩
def UPLINK_RXMSBAD : Fld := ⟨0x40100044, 0x100, 2, 0, 32, .RO, 0, 0, 4294967295, false, 16, .SYS⟩
def UPLINK_RXUNPROT : Fld := ⟨0x40100048, 0x100, 2, 0, 32, .RO, 0, 0, 4294967295, false, 16, .SYS⟩
def UPLINK_TXOK : Fld := ⟨0x4010004C, 0x100, 2, 0, 32, .RO, 0, 0, 4294967295, false, 16, .SYS⟩
def UPLINK_HCPBAD : Fld := ⟨0x40100050, 0x100, 2, 0, 32, .RO, 0, 0, 4294967295, false, 16, .SYS⟩
def UPLINK_CACHEHIT : Fld := ⟨0x40100054, 0x100, 2, 0, 32, .RO, 0, 0, 4294967295, false, 16, .SYS⟩
def T1S_CTRL_EN : Fld := ⟨0x40110000, 0x0, 1, 0, 8, .RWS, 0, 0, 255, false, 10, .SYS⟩
def T1S_CTRL_QUAL : Fld := ⟨0x40110000, 0x0, 1, 8, 8, .RWS, 0, 0, 255, false, 10, .SYS⟩
def T1S_STATUS_BEACON : Fld := ⟨0x40110004, 0x0, 1, 0, 8, .RO, 0, 0, 255, false, 16, .SYS⟩
def T1S_STATUS_PHYFAULT : Fld := ⟨0x40110004, 0x0, 1, 8, 8, .RO, 0, 0, 255, false, 16, .SYS⟩
def T1S_PLCA_NCNT : Fld := ⟨0x40110100, 0x20, 8, 0, 6, .RWS, 8, 1, 32, false, 10, .T1S⟩
def T1S_PLCA_TOTMR : Fld := ⟨0x40110100, 0x20, 8, 8, 8, .RWS, 32, 1, 255, false, 10, .T1S⟩
def T1S_PLCA_MAXBC : Fld := ⟨0x40110100, 0x20, 8, 16, 4, .RWS, 3, 0, 15, false, 10, .T1S⟩
def T1S_PLCA_NBC : Fld := ⟨0x40110100, 0x20, 8, 20, 4, .RWS, 0, 0, 15, false, 10, .T1S⟩
def T1S_PLCA_BTMR : Fld := ⟨0x40110100, 0x20, 8, 24, 8, .RWS, 128, 1, 255, false, 10, .T1S⟩
def T1S_CYCMAX : Fld := ⟨0x40110104, 0x20, 8, 0, 32, .RO, 13606800, 0, 4294967295, false, 16, .T1S⟩
def T1S_RXOK : Fld := ⟨0x40110108, 0x20, 8, 0, 32, .RO, 0, 0, 4294967295, false, 16, .T1S⟩
def T1S_RXBAD : Fld := ⟨0x4011010C, 0x20, 8, 0, 32, .RO, 0, 0, 4294967295, false, 16, .T1S⟩
def T1S_TXOK : Fld := ⟨0x40110110, 0x20, 8, 0, 32, .RO, 0, 0, 4294967295, false, 16, .T1S⟩
def PORT_ROLE_UPL0 : Fld := ⟨0x401A0000, 0x0, 1, 0, 3, .RWP, 1, 1, 1, true, 16, .SYS⟩
def PORT_ROLE_UPL1 : Fld := ⟨0x401A0000, 0x0, 1, 3, 3, .RWP, 1, 1, 1, true, 16, .SYS⟩
def PORT_ROLE_SVC : Fld := ⟨0x401A0000, 0x0, 1, 6, 3, .RWP, 3, 3, 3, true, 16, .SYS⟩
def PORT_ROLE_SEAL : Fld := ⟨0x401A0000, 0x0, 1, 9, 3, .RO, 2, 0, 7, false, 16, .SYS⟩
def PORT_ROLE_SD : Fld := ⟨0x401A0000, 0x0, 1, 12, 3, .RWP, 0, 5, 5, true, 16, .SYS⟩
def PORT_ROLE_PLC : Fld := ⟨0x401A0000, 0x0, 1, 15, 3, .RWP, 0, 4, 4, true, 16, .SYS⟩
def PORT_ROLE_RADIO : Fld := ⟨0x401A0000, 0x0, 1, 18, 3, .RWP, 0, 4, 4, true, 16, .SYS⟩
def PORT_ROLE_T1S : Fld := ⟨0x401A0000, 0x0, 1, 21, 3, .RWP, 0, 4, 4, true, 16, .SYS⟩
def PORT_STATUS_RESTRICTED : Fld := ⟨0x401A0004, 0x0, 1, 0, 1, .RO, 0, 0, 1, false, 16, .SYS⟩
def PORT_STATUS_CAUSE : Fld := ⟨0x401A0004, 0x0, 1, 1, 2, .RO, 0, 0, 3, false, 16, .SYS⟩
def PORT_STATUS_SDIN : Fld := ⟨0x401A0004, 0x0, 1, 3, 1, .RO, 0, 0, 1, false, 16, .SYS⟩
def PORT_STATUS_SDBUSY : Fld := ⟨0x401A0004, 0x0, 1, 4, 1, .RO, 0, 0, 1, false, 16, .SYS⟩
def PORT_STATUS_CAUSES : Fld := ⟨0x401A0004, 0x0, 1, 5, 3, .RO, 0, 0, 7, false, 16, .SYS⟩
def PORT_HCP_CACHES : Fld := ⟨0x401A0008, 0x0, 1, 0, 8, .RWS, 60, 10, 255, false, 11, .SYS⟩
def PORT_HCP_NACKMS : Fld := ⟨0x401A0008, 0x0, 1, 8, 12, .RWS, 500, 50, 4000, false, 11, .SYS⟩
def PORT_HCP_NRETRY : Fld := ⟨0x401A0008, 0x0, 1, 20, 4, .RWS, 3, 0, 15, false, 11, .SYS⟩
def PORT_UART_EN : Fld := ⟨0x401A000C, 0x0, 1, 0, 1, .RWS, 0, 0, 1, false, 11, .SYS⟩
def PORT_UART_BAUD : Fld := ⟨0x401A000C, 0x0, 1, 1, 2, .RWS, 0, 0, 2, false, 11, .SYS⟩
def PORT_MACL : Fld := ⟨0x401A0010, 0x0, 1, 0, 32, .RO, 0, 0, 4294967295, false, 16, .SYS⟩
def PORT_MACH : Fld := ⟨0x401A0014, 0x0, 1, 0, 32, .RO, 0, 0, 4294967295, false, 16, .SYS⟩
def PORT_REFUSED : Fld := ⟨0x401A0020, 0x0, 1, 0, 32, .RO, 0, 0, 4294967295, false, 16, .SYS⟩
def PORT_NDROP : Fld := ⟨0x401A0024, 0x0, 1, 0, 32, .RO, 0, 0, 4294967295, false, 16, .SYS⟩
def PORT_SPIREF : Fld := ⟨0x401A0028, 0x0, 1, 0, 32, .RO, 0, 0, 4294967295, false, 16, .SYS⟩
def PORT_SDERR : Fld := ⟨0x401A002C, 0x0, 1, 0, 32, .RO, 0, 0, 4294967295, false, 16, .SYS⟩
def KEY_STATUS_GEN : Fld := ⟨0x40120000, 0x0, 1, 0, 4, .RO, 0, 0, 15, false, 16, .SYS⟩
def KEY_STATUS_GENLEFT : Fld := ⟨0x40120000, 0x0, 1, 4, 4, .RO, 15, 0, 15, false, 16, .SYS⟩
def KEY_STATUS_FLAT : Fld := ⟨0x40120000, 0x0, 1, 8, 1, .RO, 0, 0, 1, false, 16, .SYS⟩
def KEY_STATUS_KATOK : Fld := ⟨0x40120000, 0x0, 1, 9, 1, .RO, 0, 0, 1, false, 16, .SYS⟩
def KEY_STATUS_FUSEGATED : Fld := ⟨0x40120000, 0x0, 1, 10, 1, .RO, 0, 0, 1, false, 16, .SYS⟩
def KEY_STATUS_CERT : Fld := ⟨0x40120000, 0x0, 1, 11, 1, .RO, 0, 0, 1, false, 16, .SYS⟩
def KEY_STATUS_CERTPEND : Fld := ⟨0x40120000, 0x0, 1, 12, 1, .RO, 0, 0, 1, false, 16, .SYS⟩
def KEY_STATUS_OPKEY : Fld := ⟨0x40120000, 0x0, 1, 13, 1, .RO, 0, 0, 1, false, 16, .SYS⟩
def KEY_DEVIDL : Fld := ⟨0x40120004, 0x0, 1, 0, 32, .RO, 0, 0, 4294967295, false, 16, .SYS⟩
def KEY_DEVIDH : Fld := ⟨0x40120008, 0x0, 1, 0, 32, .RO, 0, 0, 4294967295, false, 16, .SYS⟩
def KEY_SEEDSTL : Fld := ⟨0x4012000C, 0x0, 1, 0, 32, .RO, 0, 0, 4294967295, false, 16, .SYS⟩
def KEY_SEEDSTH : Fld := ⟨0x40120010, 0x0, 1, 0, 32, .RO, 0, 0, 4294967295, false, 16, .SYS⟩
def KEY_FLATCNT : Fld := ⟨0x40120014, 0x0, 1, 0, 32, .RO, 0, 0, 4294967295, false, 16, .SYS⟩
def KEY_PLC_SEED : Fld := ⟨0x40120018, 0x0, 1, 0, 6, .RWS, 0, 0, 63, false, 12, .SYS⟩
def KEY_PLC_GMKNUM : Fld := ⟨0x40120018, 0x0, 1, 8, 8, .RWS, 0, 0, 255, false, 12, .SYS⟩
def KEY_CERT_BLOW : Fld := ⟨0x4012001C, 0x0, 1, 0, 1, .RWP, 0, 0, 1, false, 16, .SYS⟩
def KEY_CHIT : Fld := ⟨0x40120020, 0x0, 1, 0, 32, .RO, 0, 0, 4294967295, false, 16, .SYS⟩
def KEY_CMISS : Fld := ⟨0x40120024, 0x0, 1, 0, 32, .RO, 0, 0, 4294967295, false, 16, .SYS⟩
def KEY_PINNED : Fld := ⟨0x40120028, 0x0, 1, 0, 32, .RO, 0, 0, 4294967295, false, 16, .SYS⟩
def KEY_DRATE : Fld := ⟨0x4012002C, 0x0, 1, 0, 32, .RO, 0, 0, 4294967295, false, 16, .SYS⟩
def KEY_SEEDCNT_COUNT : Fld := ⟨0x40120100, 0x4, 64, 0, 32, .RO, 0, 0, 4294967295, false, 16, .SYS⟩
def TAMPER_STATUS_LATCH : Fld := ⟨0x40130000, 0x0, 1, 0, 1, .RO, 0, 0, 1, false, 16, .AON⟩
def TAMPER_STATUS_SEALBRK : Fld := ⟨0x40130000, 0x0, 1, 1, 1, .RO, 1, 0, 1, false, 16, .AON⟩
def TAMPER_STATUS_CLRPEND : Fld := ⟨0x40130000, 0x0, 1, 2, 1, .RO, 0, 0, 1, false, 16, .AON⟩
def TAMPER_STATUS_CAUSE : Fld := ⟨0x40130000, 0x0, 1, 8, 4, .RO, 0, 0, 15, false, 16, .AON⟩
def TAMPER_STATUS_ASSERT : Fld := ⟨0x40130000, 0x0, 1, 16, 14, .RO, 0, 0, 16383, false, 16, .AON⟩
def TAMPER_LTL : Fld := ⟨0x40130004, 0x0, 1, 0, 32, .RO, 0, 0, 4294967295, false, 16, .SYS⟩
def TAMPER_LTH : Fld := ⟨0x40130008, 0x0, 1, 0, 32, .RO, 0, 0, 4294967295, false, 16, .SYS⟩
def TAMPER_CLRCNT : Fld := ⟨0x40130010, 0x0, 1, 0, 32, .RO, 0, 0, 4294967295, false, 16, .SYS⟩
def TAMPER_ARM_ARM : Fld := ⟨0x4013000C, 0x0, 1, 0, 14, .RWP, 8192, 0, 16383, false, 16, .AON⟩
def TAMPER_INCFG_EN : Fld := ⟨0x40130100, 0x4, 8, 0, 1, .RWP, 0, 0, 1, false, 16, .AON⟩
def TAMPER_INCFG_POL : Fld := ⟨0x40130100, 0x4, 8, 1, 1, .RWP, 0, 0, 1, false, 16, .AON⟩
def TAMPER_INCFG_SEAL : Fld := ⟨0x40130100, 0x4, 8, 2, 1, .RWP, 0, 0, 1, false, 16, .AON⟩
def TAMPER_INCFG_PULL : Fld := ⟨0x40130100, 0x4, 8, 3, 1, .RWP, 1, 0, 1, false, 16, .AON⟩
def TAMPER_INCFG_FILT : Fld := ⟨0x40130100, 0x4, 8, 4, 4, .RWP, 4, 1, 15, false, 16, .AON⟩
def TAMPER_MESH_EN : Fld := ⟨0x40130120, 0x4, 2, 0, 1, .RWP, 0, 0, 1, false, 16, .AON⟩
def TAMPER_MESH_RATE : Fld := ⟨0x40130120, 0x4, 2, 1, 3, .RWP, 2, 0, 7, false, 16, .AON⟩
def DRAM_CTRL_SCRUBH : Fld := ⟨0x40150000, 0x0, 1, 0, 8, .RWS, 24, 6, 168, false, 13, .SYS⟩
def DRAM_CTRL_SCRUB_EN : Fld := ⟨0x40150000, 0x0, 1, 8, 1, .RWS, 1, 0, 1, false, 13, .SYS⟩
def DRAM_STATUS_TRAINED : Fld := ⟨0x40150004, 0x0, 1, 0, 1, .RO, 0, 0, 1, false, 16, .SYS⟩
def DRAM_STATUS_SIZE : Fld := ⟨0x40150004, 0x0, 1, 1, 2, .RO, 0, 0, 3, false, 16, .SYS⟩
def DRAM_STATUS_DERATE : Fld := ⟨0x40150004, 0x0, 1, 3, 1, .RO, 0, 0, 1, false, 16, .SYS⟩
def DRAM_STATUS_SCRUBBING : Fld := ⟨0x40150004, 0x0, 1, 4, 1, .RO, 0, 0, 1, false, 16, .SYS⟩
def DRAM_CE_COUNT : Fld := ⟨0x40150010, 0x4, 2, 0, 32, .RO, 0, 0, 4294967295, false, 16, .SYS⟩
def DRAM_UE : Fld := ⟨0x40150018, 0x4, 2, 0, 32, .RO, 0, 0, 4294967295, false, 16, .SYS⟩
def DRAM_UEADDRL : Fld := ⟨0x40150020, 0x0, 1, 0, 32, .RO, 0, 0, 4294967295, false, 16, .SYS⟩
def DRAM_UEADDRH : Fld := ⟨0x40150024, 0x0, 1, 0, 32, .RO, 0, 0, 4294967295, false, 16, .SYS⟩
def DRAM_SCRUBPASS : Fld := ⟨0x40150028, 0x0, 1, 0, 32, .RO, 0, 0, 4294967295, false, 16, .SYS⟩
def DRAM_BW : Fld := ⟨0x4015002C, 0x0, 1, 0, 32, .RO, 0, 0, 4294967295, false, 16, .SYS⟩
def FTL_STATUS_MOUNTED : Fld := ⟨0x40140004, 0x0, 1, 0, 1, .RO, 0, 0, 1, false, 16, .SYS⟩
def FTL_STATUS_FORMATTED : Fld := ⟨0x40140004, 0x0, 1, 1, 1, .RO, 0, 0, 1, false, 16, .SYS⟩
def FTL_STATUS_NOPARITY : Fld := ⟨0x40140004, 0x0, 1, 2, 1, .RO, 0, 0, 1, false, 16, .SYS⟩
def FTL_STATUS_RO : Fld := ⟨0x40140004, 0x0, 1, 3, 1, .RO, 0, 0, 1, false, 16, .SYS⟩
def FTL_STATUS_FOLDING : Fld := ⟨0x40140004, 0x0, 1, 4, 1, .RO, 0, 0, 1, false, 16, .SYS⟩
def FTL_STATUS_LOWSPARE : Fld := ⟨0x40140004, 0x0, 1, 5, 1, .RO, 0, 0, 1, false, 16, .SYS⟩
def FTL_STATUS_GRAVING : Fld := ⟨0x40140004, 0x0, 1, 6, 1, .RO, 0, 0, 1, false, 16, .SYS⟩
def FTL_GEOM_CHMASK : Fld := ⟨0x40140008, 0x0, 1, 0, 8, .RO, 0, 0, 255, false, 16, .SYS⟩
def FTL_GEOM_TGTS : Fld := ⟨0x40140008, 0x0, 1, 8, 3, .RO, 0, 0, 7, false, 16, .SYS⟩
def FTL_GEOM_LUNS : Fld := ⟨0x40140008, 0x0, 1, 11, 3, .RO, 0, 0, 7, false, 16, .SYS⟩
def FTL_GEOM_CELL : Fld := ⟨0x40140008, 0x0, 1, 14, 2, .RO, 0, 0, 3, false, 16, .SYS⟩
def FTL_GEOM_PLANES : Fld := ⟨0x40140008, 0x0, 1, 16, 4, .RO, 0, 0, 15, false, 16, .SYS⟩
def FTL_CAP : Fld := ⟨0x4014000C, 0x0, 1, 0, 32, .RO, 0, 0, 4294967295, false, 16, .SYS⟩
def FTL_RAW : Fld := ⟨0x40140010, 0x0, 1, 0, 32, .RO, 0, 0, 4294967295, false, 16, .SYS⟩
def FTL_SLC_PCT : Fld := ⟨0x40140014, 0x0, 1, 0, 4, .RWS, 10, 2, 10, false, 13, .SYS⟩
def FTL_SLC_IDLEMS : Fld := ⟨0x40140014, 0x0, 1, 8, 12, .RWS, 500, 100, 4000, false, 13, .SYS⟩
def FTL_REFRESH_TLC : Fld := ⟨0x40140018, 0x0, 1, 0, 10, .RWS, 100, 10, 1000, false, 13, .SYS⟩
def FTL_REFRESH_QLC : Fld := ⟨0x40140018, 0x0, 1, 10, 10, .RWS, 30, 10, 1000, false, 13, .SYS⟩
def FTL_REFRESH_SLC : Fld := ⟨0x40140018, 0x0, 1, 20, 10, .RWS, 1000, 10, 1000, false, 13, .SYS⟩
def FTL_SCRUB_DAYS : Fld := ⟨0x4014001C, 0x0, 1, 0, 8, .RWS, 30, 7, 180, false, 13, .SYS⟩
def FTL_SCRUB_THR : Fld := ⟨0x4014001C, 0x0, 1, 8, 7, .RWS, 50, 10, 90, false, 13, .SYS⟩
def FTL_PE_PE : Fld := ⟨0x40140020, 0x0, 1, 0, 16, .RWS, 0, 100, 65535, true, 13, .SYS⟩
def FTL_PE_RATED : Fld := ⟨0x40140020, 0x0, 1, 16, 16, .RO, 0, 0, 65535, false, 13, .SYS⟩
def FTL_LIFE_YEARS : Fld := ⟨0x40140024, 0x0, 1, 0, 16, .RO, 0, 0, 65535, false, 16, .SYS⟩
def FTL_LIFE_AGE : Fld := ⟨0x40140024, 0x0, 1, 16, 16, .RO, 0, 0, 65535, false, 16, .SYS⟩
def FTL_PEAVG_AVG : Fld := ⟨0x40140028, 0x0, 1, 0, 16, .RO, 0, 0, 65535, false, 16, .SYS⟩
def FTL_PEAVG_MAX : Fld := ⟨0x40140028, 0x0, 1, 16, 16, .RO, 0, 0, 65535, false, 16, .SYS⟩
def FTL_SPARE_LEFT : Fld := ⟨0x4014002C, 0x0, 1, 0, 16, .RO, 0, 0, 65535, false, 16, .SYS⟩
def FTL_SPARE_GROWN : Fld := ⟨0x4014002C, 0x0, 1, 16, 16, .RO, 0, 0, 65535, false, 16, .SYS⟩
def FTL_WAF : Fld := ⟨0x40140030, 0x0, 1, 0, 32, .RO, 0, 0, 4294967295, false, 16, .SYS⟩
def FTL_HOSTGB : Fld := ⟨0x40140034, 0x0, 1, 0, 32, .RO, 0, 0, 4294967295, false, 16, .SYS⟩
def FTL_NANDGB : Fld := ⟨0x40140038, 0x0, 1, 0, 32, .RO, 0, 0, 4294967295, false, 16, .SYS⟩
def FTL_REBUILT : Fld := ⟨0x4014003C, 0x0, 1, 0, 32, .RO, 0, 0, 4294967295, false, 16, .SYS⟩
def FTL_LOST : Fld := ⟨0x40140040, 0x0, 1, 0, 32, .RO, 0, 0, 4294967295, false, 16, .SYS⟩
def FTL_VOL_PCT : Fld := ⟨0x40140100, 0x10, 5, 0, 7, .RWP, 50, 1, 90, false, 16, .SYS⟩
def FTL_VOL_SECURE : Fld := ⟨0x40140100, 0x10, 5, 8, 1, .RWP, 0, 0, 1, false, 16, .SYS⟩
def FTL_VOL_WARN : Fld := ⟨0x40140100, 0x10, 5, 16, 7, .RWP, 90, 50, 99, false, 16, .SYS⟩
def FTL_VSTAT_SIZE : Fld := ⟨0x40140104, 0x10, 5, 0, 16, .RO, 0, 0, 65535, false, 16, .SYS⟩
def FTL_VSTAT_USED : Fld := ⟨0x40140104, 0x10, 5, 16, 16, .RO, 0, 0, 65535, false, 16, .SYS⟩
def FTL_VDEL : Fld := ⟨0x40140108, 0x10, 5, 0, 32, .RO, 0, 0, 4294967295, false, 16, .SYS⟩
def FTL_GSEL_REQ : Fld := ⟨0x40140200, 0x0, 1, 0, 6, .RW, 0, 0, 63, false, 16, .SYS⟩
def FTL_GINFO_STATE : Fld := ⟨0x40140204, 0x0, 1, 0, 3, .RO, 0, 0, 7, false, 16, .SYS⟩
def FTL_GINFO_VALID : Fld := ⟨0x40140204, 0x0, 1, 3, 1, .RO, 0, 0, 1, false, 16, .SYS⟩
def FTL_GINFO_VOLUME : Fld := ⟨0x40140204, 0x0, 1, 4, 3, .RO, 0, 0, 7, false, 16, .SYS⟩
def FTL_GINFO_BLOCKS : Fld := ⟨0x40140204, 0x0, 1, 16, 16, .RO, 0, 0, 65535, false, 16, .SYS⟩
def FTL_GID : Fld := ⟨0x40140208, 0x0, 1, 0, 32, .RO, 0, 0, 4294967295, false, 16, .SYS⟩
def FTL_GTIME : Fld := ⟨0x4014020C, 0x0, 1, 0, 32, .RO, 0, 0, 4294967295, false, 16, .SYS⟩
def FTL_GSIZE : Fld := ⟨0x40140210, 0x0, 1, 0, 32, .RO, 0, 0, 4294967295, false, 16, .SYS⟩
def EVREC_CTRL_LONG_EN : Fld := ⟨0x40160000, 0x0, 1, 0, 1, .RWS, 0, 0, 1, false, 14, .SYS⟩
def EVREC_CTRL_RATE_EN : Fld := ⟨0x40160000, 0x0, 1, 1, 1, .RWS, 1, 0, 1, false, 14, .SYS⟩
def EVREC_STATUS_FROZEN : Fld := ⟨0x40160004, 0x0, 1, 0, 1, .RO, 0, 0, 1, false, 16, .SYS⟩
def EVREC_STATUS_PROOFFULL : Fld := ⟨0x40160004, 0x0, 1, 1, 1, .RO, 0, 0, 1, false, 16, .SYS⟩
def EVREC_STATUS_LOSING : Fld := ⟨0x40160004, 0x0, 1, 2, 1, .RO, 0, 0, 1, false, 16, .SYS⟩
def EVREC_STATUS_HELD : Fld := ⟨0x40160004, 0x0, 1, 3, 11, .RO, 0, 0, 2047, false, 16, .SYS⟩
def EVREC_RATE_DEPTH : Fld := ⟨0x40160008, 0x0, 1, 0, 8, .RWT, 8, 1, 255, false, 14, .SYS⟩
def EVREC_RATE_PERIOD : Fld := ⟨0x40160008, 0x0, 1, 8, 16, .RWT, 1000, 10, 60000, false, 14, .SYS⟩
def EVREC_LONG_DAYS : Fld := ⟨0x4016000C, 0x0, 1, 0, 12, .RWS, 365, 30, 4000, false, 14, .SYS⟩
def EVREC_FREEZE_SECS : Fld := ⟨0x40160010, 0x0, 1, 0, 4, .WO, 0, 0, 10, false, 16, .SYS⟩
def EVREC_FREEZE_THAW : Fld := ⟨0x40160010, 0x0, 1, 4, 1, .WO, 0, 0, 1, false, 16, .SYS⟩
def EVREC_SEQL : Fld := ⟨0x40160014, 0x0, 1, 0, 32, .RO, 0, 0, 4294967295, false, 16, .SYS⟩
def EVREC_SEQH : Fld := ⟨0x40160018, 0x0, 1, 0, 32, .RO, 0, 0, 4294967295, false, 16, .SYS⟩
def EVREC_SUPP : Fld := ⟨0x4016001C, 0x0, 1, 0, 32, .RO, 0, 0, 4294967295, false, 16, .SYS⟩
def EVREC_LOST : Fld := ⟨0x40160020, 0x0, 1, 0, 32, .RO, 0, 0, 4294967295, false, 16, .SYS⟩
def EVREC_LONGN : Fld := ⟨0x40160024, 0x0, 1, 0, 32, .RO, 0, 0, 4294967295, false, 16, .SYS⟩
def EVREC_LONGOLD : Fld := ⟨0x40160028, 0x0, 1, 0, 32, .RO, 0, 0, 4294967295, false, 16, .SYS⟩
def EVREC_SEL_SEQ : Fld := ⟨0x40160040, 0x0, 1, 0, 30, .RW, 0, 0, 1073741823, false, 16, .SYS⟩
def EVREC_SEL_AREA : Fld := ⟨0x40160040, 0x0, 1, 30, 2, .RW, 0, 0, 2, false, 16, .SYS⟩
def EVREC_CUR_SEQ : Fld := ⟨0x40160044, 0x0, 1, 0, 32, .RO, 0, 0, 4294967295, false, 16, .SYS⟩
def EVREC_WSTAT_VALID : Fld := ⟨0x40160048, 0x0, 1, 0, 8, .RO, 0, 0, 255, false, 16, .SYS⟩
def EVREC_WSTAT_SKIPPED : Fld := ⟨0x40160048, 0x0, 1, 8, 1, .RO, 0, 0, 1, false, 16, .SYS⟩
def EVREC_WSTAT_DONE : Fld := ⟨0x40160048, 0x0, 1, 9, 1, .RO, 0, 0, 1, false, 16, .SYS⟩
def EVREC_WIN_WORD : Fld := ⟨0x40160100, 0x4, 64, 0, 32, .RO, 0, 0, 4294967295, false, 16, .SYS⟩
def FWU_CTRL_EN : Fld := ⟨0x40170000, 0x0, 1, 0, 1, .RWS, 0, 0, 1, false, 15, .SYS⟩
def FWU_CTRL_SD_EN : Fld := ⟨0x40170000, 0x0, 1, 1, 1, .RWS, 0, 0, 1, false, 15, .SYS⟩
def FWU_CTRL_LEAD : Fld := ⟨0x40170000, 0x0, 1, 4, 12, .RWS, 60, 1, 4095, false, 15, .SYS⟩
def FWU_CTRL_RETRY : Fld := ⟨0x40170000, 0x0, 1, 16, 12, .RWS, 300, 60, 3600, false, 15, .SYS⟩
def FWU_STATUS_STATE : Fld := ⟨0x40170004, 0x0, 1, 0, 3, .RO, 0, 0, 7, false, 16, .SYS⟩
def FWU_STATUS_RESULT : Fld := ⟨0x40170004, 0x0, 1, 3, 3, .RO, 0, 0, 7, false, 16, .SYS⟩
def FWU_STATUS_ROM : Fld := ⟨0x40170004, 0x0, 1, 6, 1, .RO, 0, 0, 1, false, 16, .SYS⟩
def FWU_STATUS_TRIAL : Fld := ⟨0x40170004, 0x0, 1, 7, 1, .RO, 0, 0, 1, false, 16, .SYS⟩
def FWU_STATUS_SDREAD : Fld := ⟨0x40170004, 0x0, 1, 8, 1, .RO, 0, 0, 1, false, 16, .SYS⟩
def FWU_STATUS_BANK : Fld := ⟨0x40170004, 0x0, 1, 9, 1, .RO, 0, 0, 1, false, 16, .SYS⟩
def FWU_STATUS_MKEY : Fld := ⟨0x40170004, 0x0, 1, 10, 1, .RO, 0, 0, 1, false, 16, .SYS⟩
def FWU_STATUS_STAGED : Fld := ⟨0x40170004, 0x0, 1, 16, 6, .RO, 0, 0, 63, false, 16, .SYS⟩
def FWU_MSEQL : Fld := ⟨0x40170008, 0x0, 1, 0, 32, .RO, 0, 0, 4294967295, false, 16, .SYS⟩
def FWU_MSEQH : Fld := ⟨0x4017000C, 0x0, 1, 0, 32, .RO, 0, 0, 4294967295, false, 16, .SYS⟩
def FWU_ACTL : Fld := ⟨0x40170010, 0x0, 1, 0, 32, .RO, 0, 0, 4294967295, false, 16, .SYS⟩
def FWU_ACTH : Fld := ⟨0x40170014, 0x0, 1, 0, 32, .RO, 0, 0, 4294967295, false, 16, .SYS⟩
def FWU_ACTCNT : Fld := ⟨0x40170018, 0x0, 1, 0, 32, .RO, 0, 0, 4294967295, false, 16, .SYS⟩
def FWU_PSEL_PART : Fld := ⟨0x40170020, 0x0, 1, 0, 3, .RW, 0, 0, 5, false, 16, .SYS⟩
def FWU_PVER : Fld := ⟨0x40170024, 0x0, 1, 0, 32, .RO, 0, 0, 4294967295, false, 16, .SYS⟩
def FWU_PSVER : Fld := ⟨0x40170028, 0x0, 1, 0, 32, .RO, 0, 0, 4294967295, false, 16, .SYS⟩
def FWU_PHASH_WORD : Fld := ⟨0x40170040, 0x4, 8, 0, 32, .RO, 0, 0, 4294967295, false, 16, .SYS⟩
def DISP_CTRL_EN : Fld := ⟨0x40180000, 0x0, 1, 0, 1, .RWS, 0, 0, 1, false, 15, .SYS⟩
def DISP_CTRL_OFFIDLE : Fld := ⟨0x40180000, 0x0, 1, 1, 1, .RWS, 1, 0, 1, false, 15, .SYS⟩
def DISP_CTRL_IDLE : Fld := ⟨0x40180000, 0x0, 1, 8, 8, .RWS, 60, 10, 255, false, 15, .SYS⟩
def DISP_SUPPLY_SRC : Fld := ⟨0x40180004, 0x0, 1, 0, 2, .RWP, 0, 0, 2, false, 16, .SYS⟩
def DISP_BIAS_B : Fld := ⟨0x40180008, 0x0, 1, 0, 4, .RWS, 7, 5, 15, false, 15, .DISP⟩
def DISP_BIAS_VMAX : Fld := ⟨0x40180008, 0x0, 1, 4, 12, .RWS, 340, 100, 340, false, 15, .DISP⟩
def DISP_TEMP_SRC : Fld := ⟨0x4018000C, 0x0, 1, 0, 1, .RWS, 0, 0, 1, false, 15, .SYS⟩
def DISP_TEMP_OFS : Fld := ⟨0x4018000C, 0x0, 1, 8, 6, .RWS, 15, 0, 60, false, 15, .SYS⟩
def DISP_STATUS_BUSY : Fld := ⟨0x40180010, 0x0, 1, 0, 1, .RO, 0, 0, 1, false, 16, .SYS⟩
def DISP_STATUS_PENDING : Fld := ⟨0x40180010, 0x0, 1, 1, 1, .RO, 0, 0, 1, false, 16, .SYS⟩
def DISP_STATUS_OFF : Fld := ⟨0x40180010, 0x0, 1, 2, 1, .RO, 1, 0, 1, false, 16, .SYS⟩
def DISP_STATUS_PUMP : Fld := ⟨0x40180010, 0x0, 1, 3, 1, .RO, 0, 0, 1, false, 16, .SYS⟩
def DISP_STATUS_VCLAMP : Fld := ⟨0x40180010, 0x0, 1, 4, 1, .RO, 0, 0, 1, false, 16, .SYS⟩
def DISP_STATUS_COLD : Fld := ⟨0x40180010, 0x0, 1, 5, 1, .RO, 0, 0, 1, false, 16, .SYS⟩
def DISP_STATUS_NOVHV : Fld := ⟨0x40180010, 0x0, 1, 6, 1, .RO, 0, 0, 1, false, 16, .SYS⟩
def DISP_STATUS_MAPOK : Fld := ⟨0x40180010, 0x0, 1, 7, 1, .RO, 0, 0, 1, false, 16, .SYS⟩
def DISP_STATUS_BANNER : Fld := ⟨0x40180010, 0x0, 1, 8, 3, .RO, 0, 0, 7, false, 16, .SYS⟩
def DISP_STATUS_SCREEN : Fld := ⟨0x40180010, 0x0, 1, 11, 2, .RO, 0, 0, 3, false, 16, .SYS⟩
def DISP_PASS_FIRST : Fld := ⟨0x40180014, 0x0, 1, 0, 8, .RO, 0, 0, 255, false, 16, .DISP⟩
def DISP_PASS_LAST : Fld := ⟨0x40180014, 0x0, 1, 8, 8, .RO, 0, 0, 255, false, 16, .DISP⟩
def DISP_PASS_ROW : Fld := ⟨0x40180014, 0x0, 1, 16, 8, .RO, 0, 0, 255, false, 16, .DISP⟩
def DISP_VDRV_V : Fld := ⟨0x40180018, 0x0, 1, 0, 12, .RO, 0, 0, 4095, false, 16, .DISP⟩
def DISP_VDRV_TEMP : Fld := ⟨0x40180018, 0x0, 1, 16, 8, .RO, 0, 0, 255, false, 16, .DISP⟩
def DISP_CMD_REDRAW : Fld := ⟨0x4018001C, 0x0, 1, 0, 1, .WO, 0, 0, 1, false, 16, .SYS⟩
def DISP_NPASS : Fld := ⟨0x40180020, 0x0, 1, 0, 32, .RO, 0, 0, 4294967295, false, 16, .SYS⟩
def DISP_NRESTART : Fld := ⟨0x40180024, 0x0, 1, 0, 32, .RO, 0, 0, 4294967295, false, 16, .SYS⟩
def DISP_NSTOP : Fld := ⟨0x40180028, 0x0, 1, 0, 32, .RO, 0, 0, 4294967295, false, 16, .SYS⟩
def DISP_PLATE_COMMON : Fld := ⟨0x40180040, 0x0, 1, 0, 7, .RW, 0, 0, 95, false, 16, .SYS⟩
def DISP_PLATED_WORD : Fld := ⟨0x40180080, 0x4, 9, 0, 32, .RO, 0, 0, 4294967295, false, 16, .SYS⟩
def SYS_ID_MINOR : Fld := ⟨0x40000000, 0x0, 1, 0, 8, .RO, 0, 0, 255, false, 16, .SYS⟩
def SYS_ID_MAJOR : Fld := ⟨0x40000000, 0x0, 1, 8, 8, .RO, 66, 0, 255, false, 16, .SYS⟩
def SYS_ID_PART : Fld := ⟨0x40000000, 0x0, 1, 16, 16, .RO, 26417, 0, 65535, false, 16, .SYS⟩
def SYS_STATUS_C0READY : Fld := ⟨0x40000004, 0x0, 1, 0, 1, .RO, 0, 0, 1, false, 16, .SYS⟩
def SYS_STATUS_FULLREADY : Fld := ⟨0x40000004, 0x0, 1, 1, 1, .RO, 0, 0, 1, false, 16, .SYS⟩
def SYS_STATUS_RESTRICTED : Fld := ⟨0x40000004, 0x0, 1, 2, 1, .RO, 0, 0, 1, false, 16, .SYS⟩
def SYS_STATUS_TRIFAULT : Fld := ⟨0x40000004, 0x0, 1, 3, 1, .W1C, 0, 0, 1, false, 16, .SYS⟩
def SYS_STATUS_STAGE : Fld := ⟨0x40000004, 0x0, 1, 4, 4, .RO, 1, 0, 15, false, 16, .SYS⟩
def SYS_STATUS_MISSING : Fld := ⟨0x40000004, 0x0, 1, 8, 5, .RO, 0, 0, 31, false, 16, .SYS⟩
def SYS_STROBE_FIRE : Fld := ⟨0x40000008, 0x0, 1, 0, 16, .WO, 0, 0, 65535, false, 16, .SYS⟩
def SYS_PEND_GROUPS : Fld := ⟨0x4000000C, 0x0, 1, 0, 16, .RO, 0, 0, 65535, false, 16, .SYS⟩
def SYS_LOCK_LOCK : Fld := ⟨0x40000010, 0x0, 1, 0, 27, .RWP, 0, 0, 134217727, false, 16, .SYS⟩
def SYS_PAIRERR : Fld := ⟨0x40000014, 0x0, 1, 0, 32, .RO, 0, 0, 4294967295, false, 16, .SYS⟩
def SYS_TRICORR : Fld := ⟨0x40000018, 0x0, 1, 0, 32, .RO, 0, 0, 4294967295, false, 16, .SYS⟩
def SYS_TRIFAULT : Fld := ⟨0x4000001C, 0x0, 1, 0, 32, .RO, 0, 0, 4294967295, false, 16, .SYS⟩
def SYS_C0MS : Fld := ⟨0x40000020, 0x0, 1, 0, 32, .RO, 0, 0, 4294967295, false, 16, .SYS⟩
def SYS_FULLMS : Fld := ⟨0x40000024, 0x0, 1, 0, 32, .RO, 0, 0, 4294967295, false, 16, .SYS⟩
def CFG_STATUS_COPY : Fld := ⟨0x40010000, 0x0, 1, 0, 2, .RO, 0, 0, 3, false, 16, .SYS⟩
def CFG_STATUS_AOK : Fld := ⟨0x40010000, 0x0, 1, 2, 1, .RO, 0, 0, 1, false, 16, .SYS⟩
def CFG_STATUS_BOK : Fld := ⟨0x40010000, 0x0, 1, 3, 1, .RO, 0, 0, 1, false, 16, .SYS⟩
def CFG_STATUS_UNTRUSTED : Fld := ⟨0x40010000, 0x0, 1, 4, 1, .RO, 0, 0, 1, false, 16, .SYS⟩
def CFG_STATUS_QUAD : Fld := ⟨0x40010000, 0x0, 1, 5, 1, .RO, 0, 0, 1, false, 16, .SYS⟩
def CFG_STATUS_ACAUSE : Fld := ⟨0x40010000, 0x0, 1, 8, 4, .RO, 0, 0, 15, false, 16, .SYS⟩
def CFG_STATUS_BCAUSE : Fld := ⟨0x40010000, 0x0, 1, 12, 4, .RO, 0, 0, 15, false, 16, .SYS⟩
def CFG_MEMSZ : Fld := ⟨0x40010004, 0x0, 1, 0, 32, .RO, 0, 0, 4294967295, false, 16, .SYS⟩
def CFG_IMGSEQ : Fld := ⟨0x40010008, 0x0, 1, 0, 32, .RO, 0, 0, 4294967295, false, 16, .SYS⟩
def CFG_LEN : Fld := ⟨0x4001000C, 0x0, 1, 0, 32, .RO, 0, 0, 4294967295, false, 16, .SYS⟩
def CFG_RECS : Fld := ⟨0x40010010, 0x0, 1, 0, 32, .RO, 0, 0, 4294967295, false, 16, .SYS⟩
def CFG_WRFAIL : Fld := ⟨0x40010014, 0x0, 1, 0, 32, .RO, 0, 0, 4294967295, false, 16, .SYS⟩
def CFG_LOADMS : Fld := ⟨0x40010018, 0x0, 1, 0, 32, .RO, 0, 0, 4294967295, false, 16, .SYS⟩
def CFG_HASH_WORD : Fld := ⟨0x40010040, 0x4, 8, 0, 32, .RO, 0, 0, 4294967295, false, 16, .SYS⟩
def CLK_STATUS_RUN : Fld := ⟨0x40020000, 0x0, 1, 0, 12, .RO, 0, 0, 4095, false, 16, .SYS⟩
def CLK_STATUS_PLLOK : Fld := ⟨0x40020000, 0x0, 1, 12, 1, .RO, 0, 0, 1, false, 16, .SYS⟩
def CLK_STATUS_WAKEERR : Fld := ⟨0x40020000, 0x0, 1, 13, 1, .W1C, 0, 0, 1, false, 16, .SYS⟩
def CLK_IDLE_MS : Fld := ⟨0x40020004, 0x0, 1, 0, 16, .RWS, 100, 1, 60000, false, 0, .SYS⟩
def CLK_IO_PPSOUT : Fld := ⟨0x40020008, 0x0, 1, 0, 1, .RWS, 0, 0, 1, false, 0, .PTP⟩
def CLK_IO_TENOUT : Fld := ⟨0x40020008, 0x0, 1, 1, 1, .RWS, 0, 0, 1, false, 0, .PTP⟩
def CLK_IO_PPSIN : Fld := ⟨0x40020008, 0x0, 1, 2, 1, .RWS, 0, 0, 1, false, 0, .PTP⟩
def CLK_PPSSL : Fld := ⟨0x40020010, 0x0, 1, 0, 32, .RO, 0, 0, 4294967295, false, 16, .SYS⟩
def CLK_PPSSH : Fld := ⟨0x40020014, 0x0, 1, 0, 32, .RO, 0, 0, 4294967295, false, 16, .SYS⟩
def CLK_PPSNS : Fld := ⟨0x40020018, 0x0, 1, 0, 32, .RO, 0, 0, 4294967295, false, 16, .SYS⟩
def CLK_TENPPB : Fld := ⟨0x4002001C, 0x0, 1, 0, 32, .RO, 0, 0, 4294967295, false, 16, .SYS⟩
def CLK_STALLS : Fld := ⟨0x40020020, 0x0, 1, 0, 32, .RO, 0, 0, 4294967295, false, 16, .SYS⟩
def PWR_STATUS_WARN : Fld := ⟨0x40030000, 0x0, 1, 0, 1, .RO, 0, 0, 1, false, 16, .SYS⟩
def PWR_STATUS_PIN : Fld := ⟨0x40030000, 0x0, 1, 1, 1, .RO, 0, 0, 1, false, 16, .SYS⟩
def PWR_STATUS_LOW : Fld := ⟨0x40030000, 0x0, 1, 2, 7, .RO, 0, 0, 127, false, 16, .SYS⟩
def PWR_STATUS_PHASE : Fld := ⟨0x40030000, 0x0, 1, 9, 2, .RO, 0, 0, 3, false, 16, .SYS⟩
def PWR_CTRL_MON : Fld := ⟨0x40030004, 0x0, 1, 0, 7, .RWP, 125, 0, 127, false, 16, .SYS⟩
def PWR_INRUSH_STEPA : Fld := ⟨0x40030008, 0x0, 1, 0, 8, .RWP, 20, 5, 80, false, 16, .SYS⟩
def PWR_INRUSH_STEPUS : Fld := ⟨0x40030008, 0x0, 1, 8, 10, .RWP, 100, 10, 1000, false, 16, .SYS⟩
def PWR_DIP_RECUS : Fld := ⟨0x4003000C, 0x0, 1, 0, 12, .RWS, 1000, 100, 4000, false, 0, .SYS⟩
def PWR_WDOG_MS : Fld := ⟨0x40030010, 0x0, 1, 0, 16, .RWP, 2000, 100, 60000, false, 16, .SYS⟩
def PWR_RSTCAUSE_POR : Fld := ⟨0x40030014, 0x0, 1, 0, 1, .W1C, 1, 0, 1, false, 16, .AON⟩
def PWR_RSTCAUSE_BOR : Fld := ⟨0x40030014, 0x0, 1, 1, 1, .W1C, 0, 0, 1, false, 16, .AON⟩
def PWR_RSTCAUSE_PIN : Fld := ⟨0x40030014, 0x0, 1, 2, 1, .W1C, 0, 0, 1, false, 16, .AON⟩
def PWR_RSTCAUSE_WDOG : Fld := ⟨0x40030014, 0x0, 1, 3, 1, .W1C, 0, 0, 1, false, 16, .AON⟩
def PWR_RSTCAUSE_FWU : Fld := ⟨0x40030014, 0x0, 1, 4, 1, .W1C, 0, 0, 1, false, 16, .AON⟩
def PWR_RSTCAUSE_TCLR : Fld := ⟨0x40030014, 0x0, 1, 5, 1, .W1C, 0, 0, 1, false, 16, .AON⟩
def PWR_DIPCNT : Fld := ⟨0x40030018, 0x0, 1, 0, 32, .RO, 0, 0, 4294967295, false, 16, .SYS⟩
def PWR_DIPLAST : Fld := ⟨0x4003001C, 0x0, 1, 0, 32, .RO, 0, 0, 4294967295, false, 16, .SYS⟩
def PWR_RAILV_MV : Fld := ⟨0x40030040, 0x4, 7, 0, 16, .RO, 0, 0, 65535, false, 16, .SYS⟩
def PWR_RAILV_MINMV : Fld := ⟨0x40030040, 0x4, 7, 16, 16, .RO, 0, 0, 65535, false, 16, .SYS⟩
def FAULT_CTRL_LIVE : Fld := ⟨0x40190000, 0x0, 1, 0, 1, .RWP, 0, 0, 1, false, 16, .SYS⟩
def FAULT_STATUS_ACTIVE : Fld := ⟨0x40190004, 0x0, 1, 0, 1, .RO, 0, 0, 1, false, 16, .SYS⟩
def FAULT_STATUS_LIVEON : Fld := ⟨0x40190004, 0x0, 1, 1, 1, .RO, 0, 0, 1, false, 16, .SYS⟩
def FAULT_STATUS_PATHOK : Fld := ⟨0x40190004, 0x0, 1, 2, 1, .W1C, 0, 0, 1, false, 16, .SYS⟩
def FAULT_STATUS_CERTLOCK : Fld := ⟨0x40190004, 0x0, 1, 3, 1, .RO, 0, 0, 1, false, 16, .SYS⟩
def FAULT_STATUS_DET : Fld := ⟨0x40190004, 0x0, 1, 4, 5, .RO, 0, 0, 31, false, 16, .SYS⟩
def FAULT_STATUS_LEFT : Fld := ⟨0x40190004, 0x0, 1, 16, 4, .RO, 0, 0, 15, false, 16, .SYS⟩
def FAULT_STATUS_STPEND : Fld := ⟨0x40190004, 0x0, 1, 20, 2, .RO, 0, 0, 3, false, 16, .SYS⟩
def FAULT_INJ_DET : Fld := ⟨0x40190008, 0x0, 1, 0, 5, .RWP, 0, 0, 31, false, 16, .SYS⟩
def FAULT_INJ_ARG : Fld := ⟨0x40190008, 0x0, 1, 8, 8, .RWP, 0, 0, 255, false, 16, .SYS⟩
def FAULT_INJ_COUNT : Fld := ⟨0x40190008, 0x0, 1, 16, 4, .RWP, 1, 1, 15, false, 16, .SYS⟩
def FAULT_ADDRL : Fld := ⟨0x4019000C, 0x0, 1, 0, 32, .RW, 0, 0, 4294967295, false, 16, .SYS⟩
def FAULT_ADDRH : Fld := ⟨0x40190010, 0x0, 1, 0, 32, .RW, 0, 0, 4294967295, false, 16, .SYS⟩
def FAULT_DUR_US : Fld := ⟨0x40190014, 0x0, 1, 0, 20, .RW, 1000, 1, 1000000, false, 16, .SYS⟩
def FAULT_ST_BURIN : Fld := ⟨0x40190018, 0x0, 1, 0, 1, .RWP, 0, 0, 1, false, 16, .SYS⟩
def FAULT_ST_KEY : Fld := ⟨0x40190018, 0x0, 1, 1, 1, .RWP, 0, 0, 1, false, 16, .SYS⟩
def FAULT_CMD_STOP : Fld := ⟨0x4019001C, 0x0, 1, 0, 1, .WO, 0, 0, 1, false, 16, .SYS⟩
def FAULT_INJCNT : Fld := ⟨0x40190020, 0x0, 1, 0, 32, .RO, 0, 0, 4294967295, false, 16, .SYS⟩
def FAULT_REFCNT : Fld := ⟨0x40190024, 0x0, 1, 0, 32, .RO, 0, 0, 4294967295, false, 16, .SYS⟩

end F

/-- The registers of the SYS block, described in 17_registers_and_configuration.md (R18). -/
def regsSYS : List RegDef := [
  ⟨0x40000000, 0x0, 1, .plain, [F.SYS_ID_MINOR, F.SYS_ID_MAJOR, F.SYS_ID_PART]⟩,
  ⟨0x40000004, 0x0, 1, .plain, [F.SYS_STATUS_C0READY, F.SYS_STATUS_FULLREADY, F.SYS_STATUS_RESTRICTED, F.SYS_STATUS_TRIFAULT, F.SYS_STATUS_STAGE, F.SYS_STATUS_MISSING]⟩,
  ⟨0x40000008, 0x0, 1, .plain, [F.SYS_STROBE_FIRE]⟩,
  ⟨0x4000000C, 0x0, 1, .plain, [F.SYS_PEND_GROUPS]⟩,
  ⟨0x40000010, 0x0, 1, .pair, [F.SYS_LOCK_LOCK]⟩,
  ⟨0x40000014, 0x0, 1, .plain, [F.SYS_PAIRERR]⟩,
  ⟨0x40000018, 0x0, 1, .plain, [F.SYS_TRICORR]⟩,
  ⟨0x4000001C, 0x0, 1, .plain, [F.SYS_TRIFAULT]⟩,
  ⟨0x40000020, 0x0, 1, .plain, [F.SYS_C0MS]⟩,
  ⟨0x40000024, 0x0, 1, .plain, [F.SYS_FULLMS]⟩]

/-- The registers of the CFG block, described in 17_registers_and_configuration.md (R18). -/
def regsCFG : List RegDef := [
  ⟨0x40010000, 0x0, 1, .plain, [F.CFG_STATUS_COPY, F.CFG_STATUS_AOK, F.CFG_STATUS_BOK, F.CFG_STATUS_UNTRUSTED, F.CFG_STATUS_QUAD, F.CFG_STATUS_ACAUSE, F.CFG_STATUS_BCAUSE]⟩,
  ⟨0x40010004, 0x0, 1, .plain, [F.CFG_MEMSZ]⟩,
  ⟨0x40010008, 0x0, 1, .plain, [F.CFG_IMGSEQ]⟩,
  ⟨0x4001000C, 0x0, 1, .plain, [F.CFG_LEN]⟩,
  ⟨0x40010010, 0x0, 1, .plain, [F.CFG_RECS]⟩,
  ⟨0x40010014, 0x0, 1, .plain, [F.CFG_WRFAIL]⟩,
  ⟨0x40010018, 0x0, 1, .plain, [F.CFG_LOADMS]⟩,
  ⟨0x40010040, 0x4, 8, .plain, [F.CFG_HASH_WORD]⟩]

/-- The registers of the CLK block, described in 18_clocks_power_reset.md (R18). -/
def regsCLK : List RegDef := [
  ⟨0x40020000, 0x0, 1, .plain, [F.CLK_STATUS_RUN, F.CLK_STATUS_PLLOK, F.CLK_STATUS_WAKEERR]⟩,
  ⟨0x40020004, 0x0, 1, .plain, [F.CLK_IDLE_MS]⟩,
  ⟨0x40020008, 0x0, 1, .plain, [F.CLK_IO_PPSOUT, F.CLK_IO_TENOUT, F.CLK_IO_PPSIN]⟩,
  ⟨0x40020010, 0x0, 1, .plain, [F.CLK_PPSSL]⟩,
  ⟨0x40020014, 0x0, 1, .plain, [F.CLK_PPSSH]⟩,
  ⟨0x40020018, 0x0, 1, .plain, [F.CLK_PPSNS]⟩,
  ⟨0x4002001C, 0x0, 1, .plain, [F.CLK_TENPPB]⟩,
  ⟨0x40020020, 0x0, 1, .plain, [F.CLK_STALLS]⟩]

/-- The registers of the PWR block, described in 18_clocks_power_reset.md (R18). -/
def regsPWR : List RegDef := [
  ⟨0x40030000, 0x0, 1, .plain, [F.PWR_STATUS_WARN, F.PWR_STATUS_PIN, F.PWR_STATUS_LOW, F.PWR_STATUS_PHASE]⟩,
  ⟨0x40030004, 0x0, 1, .pair, [F.PWR_CTRL_MON]⟩,
  ⟨0x40030008, 0x0, 1, .pair, [F.PWR_INRUSH_STEPA, F.PWR_INRUSH_STEPUS]⟩,
  ⟨0x4003000C, 0x0, 1, .plain, [F.PWR_DIP_RECUS]⟩,
  ⟨0x40030010, 0x0, 1, .pair, [F.PWR_WDOG_MS]⟩,
  ⟨0x40030014, 0x0, 1, .plain, [F.PWR_RSTCAUSE_POR, F.PWR_RSTCAUSE_BOR, F.PWR_RSTCAUSE_PIN, F.PWR_RSTCAUSE_WDOG, F.PWR_RSTCAUSE_FWU, F.PWR_RSTCAUSE_TCLR]⟩,
  ⟨0x40030018, 0x0, 1, .plain, [F.PWR_DIPCNT]⟩,
  ⟨0x4003001C, 0x0, 1, .plain, [F.PWR_DIPLAST]⟩,
  ⟨0x40030040, 0x4, 7, .plain, [F.PWR_RAILV_MV, F.PWR_RAILV_MINMV]⟩]

/-- The registers of the TIME block, described in 02_time_and_mains.md (R18). -/
def regsTIME : List RegDef := [
  ⟨0x40040000, 0x0, 1, .plain, [F.TIME_CTRL_DOM0_EN, F.TIME_CTRL_DOM1_EN, F.TIME_CTRL_BC_EN]⟩,
  ⟨0x40040004, 0x0, 1, .plain, [F.TIME_STATUS_STATE, F.TIME_STATUS_ACTIVE, F.TIME_STATUS_TRUSTED, F.TIME_STATUS_SLEWING, F.TIME_STATUS_SEEDED_AON]⟩,
  ⟨0x40040008, 0x0, 1, .triple, [F.TIME_JGTHR_THR]⟩,
  ⟨0x4004000C, 0x0, 1, .plain, [F.TIME_SLEWMAX_PPM]⟩,
  ⟨0x40040010, 0x0, 1, .plain, [F.TIME_SNAP_TAKE]⟩,
  ⟨0x40040014, 0x0, 1, .plain, [F.TIME_SNAPSL]⟩,
  ⟨0x40040018, 0x0, 1, .plain, [F.TIME_SNAPSH]⟩,
  ⟨0x4004001C, 0x0, 1, .plain, [F.TIME_SNAPNS]⟩,
  ⟨0x40040024, 0x0, 1, .plain, [F.TIME_UTCOFS_CFG, F.TIME_UTCOFS_CUR, F.TIME_UTCOFS_FROMPTP, F.TIME_UTCOFS_LEAP61, F.TIME_UTCOFS_LEAP59]⟩,
  ⟨0x40040100, 0x20, 2, .plain, [F.TIME_DOMCFG_NUM, F.TIME_DOMCFG_PORT, F.TIME_DOMCFG_DELAY, F.TIME_DOMCFG_TRANSPORT, F.TIME_DOMCFG_TWOSTEP]⟩,
  ⟨0x40040104, 0x20, 2, .plain, [F.TIME_DOMSTAT_LOCKED, F.TIME_DOMSTAT_SUSPECT, F.TIME_DOMSTAT_ANNOUNCE_OK, F.TIME_DOMSTAT_REFUSALS, F.TIME_DOMSTAT_CLEANRUN]⟩,
  ⟨0x40040108, 0x20, 2, .plain, [F.TIME_DOMOFS_OFS]⟩,
  ⟨0x40041000, 0x20, 256, .plain, [F.TIME_TPCFG_KIND, F.TIME_TPCFG_PHASE, F.TIME_TPCFG_SEG, F.TIME_TPCFG_ACTION, F.TIME_TPCFG_GROUP, F.TIME_TPCFG_EVSRC, F.TIME_TPCFG_LATE, F.TIME_TPCFG_HOLD, F.TIME_TPCFG_OWNER, F.TIME_TPCFG_ARMED]⟩,
  ⟨0x40041004, 0x20, 256, .plain, [F.TIME_TPW0]⟩,
  ⟨0x40041008, 0x20, 256, .plain, [F.TIME_TPW1]⟩,
  ⟨0x4004100C, 0x20, 256, .plain, [F.TIME_TPW2]⟩,
  ⟨0x40041010, 0x20, 256, .plain, [F.TIME_TPPER]⟩]

/-- The registers of the MAINS block, described in 02_time_and_mains.md (R18). -/
def regsMAINS : List RegDef := [
  ⟨0x40050000, 0x0, 1, .plain, [F.MAINS_CTRL_EN, F.MAINS_CTRL_NOMINAL, F.MAINS_CTRL_ABSTHR]⟩,
  ⟨0x40050004, 0x0, 1, .plain, [F.MAINS_STATUS_STATE, F.MAINS_STATUS_OUTRANGE, F.MAINS_STATUS_STEPPED]⟩,
  ⟨0x40050008, 0x0, 1, .plain, [F.MAINS_FREQ_FREQ]⟩,
  ⟨0x4005000C, 0x0, 1, .plain, [F.MAINS_SNAP_TAKE]⟩,
  ⟨0x40050010, 0x0, 1, .plain, [F.MAINS_SNAPLO]⟩,
  ⟨0x40050014, 0x0, 1, .plain, [F.MAINS_SNAPHI_CYCHI, F.MAINS_SNAPHI_ANGLE]⟩,
  ⟨0x40050020, 0x4, 3, .plain, [F.MAINS_PHASE_DISP, F.MAINS_PHASE_AMPL, F.MAINS_PHASE_PRESENT]⟩,
  ⟨0x40050030, 0x0, 1, .plain, [F.MAINS_XSL]⟩,
  ⟨0x40050034, 0x0, 1, .plain, [F.MAINS_XSH]⟩,
  ⟨0x40050038, 0x0, 1, .plain, [F.MAINS_XNS]⟩,
  ⟨0x4005003C, 0x0, 1, .plain, [F.MAINS_XCYC]⟩]

/-- The registers of the PIPE block, described in 03_reading_pipeline.md (R18). -/
def regsPIPE : List RegDef := [
  ⟨0x40060000, 0x0, 1, .plain, [F.PIPE_CTRL_EN, F.PIPE_CTRL_ACK_EN, F.PIPE_CTRL_SIGREQ_LEGAL, F.PIPE_CTRL_QUAR_DUP]⟩,
  ⟨0x40060004, 0x0, 1, .plain, [F.PIPE_STATUS_READY, F.PIPE_STATUS_SPILL3, F.PIPE_STATUS_SPILL2, F.PIPE_STATUS_DEFER, F.PIPE_STATUS_RINGFULL]⟩,
  ⟨0x40060008, 0x0, 1, .plain, [F.PIPE_GUCOR_UDPPORT]⟩,
  ⟨0x4006000C, 0x0, 1, .plain, [F.PIPE_CNTCLR_CLR]⟩,
  ⟨0x40060010, 0x0, 1, .triple, [F.PIPE_VAL_RATEM, F.PIPE_VAL_TSKEW]⟩,
  ⟨0x40060014, 0x0, 1, .plain, [F.PIPE_QCFG_DAYS]⟩,
  ⟨0x40060018, 0x0, 1, .plain, [F.PIPE_IQWM_WM3]⟩,
  ⟨0x40060020, 0x0, 1, .plain, [F.PIPE_IQOCC]⟩,
  ⟨0x40060024, 0x0, 1, .plain, [F.PIPE_RING3]⟩,
  ⟨0x40060028, 0x0, 1, .plain, [F.PIPE_RING2]⟩,
  ⟨0x40060030, 0x0, 1, .plain, [F.PIPE_SEQL]⟩,
  ⟨0x40060034, 0x0, 1, .plain, [F.PIPE_SEQH]⟩,
  ⟨0x40060038, 0x0, 1, .plain, [F.PIPE_RATE]⟩,
  ⟨0x40061000, 0x4, 256, .plain, [F.PIPE_OCNT_COUNT]⟩]

/-- The registers of the BURIN block, described in 03_reading_pipeline.md (R18). -/
def regsBURIN : List RegDef := [
  ⟨0x40070000, 0x0, 1, .plain, [F.BURIN_CTRL_EN, F.BURIN_CTRL_BMAX]⟩,
  ⟨0x40070004, 0x0, 1, .plain, [F.BURIN_BWAIT_US]⟩,
  ⟨0x40070008, 0x0, 1, .plain, [F.BURIN_ENG_DIS]⟩,
  ⟨0x4007000C, 0x0, 1, .plain, [F.BURIN_ENGOK_OK]⟩,
  ⟨0x40070010, 0x4, 3, .plain, [F.BURIN_VCNT_COUNT]⟩,
  ⟨0x40070020, 0x4, 3, .plain, [F.BURIN_FCNT]⟩,
  ⟨0x40070030, 0x0, 1, .plain, [F.BURIN_BATCH]⟩,
  ⟨0x40070034, 0x0, 1, .plain, [F.BURIN_BFAIL]⟩,
  ⟨0x40070038, 0x0, 1, .plain, [F.BURIN_BPART]⟩,
  ⟨0x4007003C, 0x0, 1, .plain, [F.BURIN_PEND]⟩]

/-- The registers of the METER block, described in 04_meter_population.md (R18). -/
def regsMETER : List RegDef := [
  ⟨0x40080000, 0x0, 1, .plain, [F.METER_CTRL_NONE_OK]⟩,
  ⟨0x40080004, 0x0, 1, .plain, [F.METER_STATUS_LOADED, F.METER_STATUS_REBUILDING, F.METER_STATUS_DIRHIGH]⟩,
  ⟨0x40080008, 0x0, 1, .triple, [F.METER_QCFG_STRIKES]⟩,
  ⟨0x4008000C, 0x0, 1, .triple, [F.METER_RETAIN_DAYS]⟩,
  ⟨0x40080010, 0x0, 1, .plain, [F.METER_CKPT_HOURS]⟩,
  ⟨0x40080014, 0x0, 1, .plain, [F.METER_CKPTPOS]⟩,
  ⟨0x40080018, 0x0, 1, .plain, [F.METER_CKPTNUM]⟩,
  ⟨0x4008001C, 0x0, 1, .plain, [F.METER_DIRCNT]⟩,
  ⟨0x40080020, 0x4, 7, .plain, [F.METER_COUNT_SLOTS]⟩,
  ⟨0x40080040, 0x0, 1, .plain, [F.METER_FINDL_ID]⟩,
  ⟨0x40080044, 0x0, 1, .plain, [F.METER_FINDH]⟩,
  ⟨0x40080048, 0x0, 1, .plain, [F.METER_FIND_GO]⟩,
  ⟨0x4008004C, 0x0, 1, .plain, [F.METER_FOUND_SLOT, F.METER_FOUND_VALID, F.METER_FOUND_VIADIR, F.METER_FOUND_DONE]⟩,
  ⟨0x40080050, 0x0, 1, .plain, [F.METER_PEEK_SLOT]⟩,
  ⟨0x40080100, 0x4, 128, .plain, [F.METER_PEEKD_WORD]⟩]

/-- The registers of the BILL block, described in 05_billing_and_tariffs.md (R18). -/
def regsBILL : List RegDef := [
  ⟨0x40090000, 0x0, 1, .pair, [F.BILL_CTRL_MAINSCUT]⟩,
  ⟨0x40090008, 0x0, 1, .pair, [F.BILL_LEGCLK_MS]⟩,
  ⟨0x40090010, 0x0, 1, .pair, [F.BILL_DEMAND_LEN, F.BILL_DEMAND_NSUB, F.BILL_DEMAND_LEN_NOW, F.BILL_DEMAND_NSUB_NOW]⟩,
  ⟨0x40090018, 0x0, 1, .pair, [F.BILL_SETTLE_S]⟩,
  ⟨0x40090020, 0x0, 1, .pair, [F.BILL_PERIOD_DAY, F.BILL_PERIOD_HOUR]⟩,
  ⟨0x40090028, 0x0, 1, .pair, [F.BILL_SESSDAYS_DAYS]⟩,
  ⟨0x40090040, 0x0, 1, .plain, [F.BILL_STATUS_RUN, F.BILL_STATUS_HALTED, F.BILL_STATUS_REBUILDING, F.BILL_STATUS_REPEAT, F.BILL_STATUS_PENDING, F.BILL_STATUS_CHKOK]⟩,
  ⟨0x40090044, 0x0, 1, .plain, [F.BILL_HWML]⟩,
  ⟨0x40090048, 0x0, 1, .plain, [F.BILL_HWMH]⟩,
  ⟨0x4009004C, 0x0, 1, .plain, [F.BILL_BSEQ]⟩,
  ⟨0x40090050, 0x0, 1, .plain, [F.BILL_LQOCC]⟩,
  ⟨0x40090054, 0x0, 1, .plain, [F.BILL_FAULTS]⟩,
  ⟨0x40090080, 0x4, 8, .plain, [F.BILL_CHKV_WORD]⟩,
  ⟨0x400900A0, 0x0, 1, .plain, [F.BILL_CHKCMD_RECOMPUTE]⟩]

/-- The registers of the TARIFF block, described in 05_billing_and_tariffs.md (R18). -/
def regsTARIFF : List RegDef := [
  ⟨0x400A0000, 0x0, 1, .pair, [F.TARIFF_LCTRL_MINLEAD, F.TARIFF_LCTRL_CALLOCK]⟩,
  ⟨0x400A0010, 0x0, 1, .plain, [F.TARIFF_STATUS_ACTIVE, F.TARIFF_STATUS_PASSIVE]⟩,
  ⟨0x400A0020, 0x0, 1, .plain, [F.TARIFF_SEL_SCHEME]⟩,
  ⟨0x400A0024, 0x0, 1, .plain, [F.TARIFF_INFO_NOW, F.TARIFF_INFO_HASACT, F.TARIFF_INFO_HASPAS, F.TARIFF_INFO_LEN]⟩,
  ⟨0x400A0028, 0x0, 1, .plain, [F.TARIFF_ACTID]⟩,
  ⟨0x400A002C, 0x0, 1, .plain, [F.TARIFF_PASID]⟩,
  ⟨0x400A0030, 0x0, 1, .plain, [F.TARIFF_PASTL]⟩,
  ⟨0x400A0034, 0x0, 1, .plain, [F.TARIFF_PASTH]⟩,
  ⟨0x400A0040, 0x0, 1, .plain, [F.TARIFF_BPEEK_SLOT]⟩,
  ⟨0x400A0100, 0x4, 64, .plain, [F.TARIFF_BPEEKD_WORD]⟩]

/-- The registers of the BAL block, described in 06_balance_engine.md (R18). -/
def regsBAL : List RegDef := [
  ⟨0x400B0000, 0x0, 1, .plain, [F.BAL_CTRL_EN, F.BAL_CTRL_LOC_EN, F.BAL_CTRL_TSIG_EN]⟩,
  ⟨0x400B0004, 0x0, 1, .plain, [F.BAL_STATUS_RUN, F.BAL_STATUS_REBUILDING, F.BAL_STATUS_OVERRUN, F.BAL_STATUS_LOCBUSY]⟩,
  ⟨0x400B0008, 0x0, 1, .triple, [F.BAL_COVER_PERMIL]⟩,
  ⟨0x400B000C, 0x0, 1, .plain, [F.BAL_WIN_REBAL]⟩,
  ⟨0x400B0010, 0x0, 1, .plain, [F.BAL_GAP_FULL, F.BAL_GAP_MAX]⟩,
  ⟨0x400B0014, 0x0, 1, .triple, [F.BAL_RLS_LAMBDA, F.BAL_RLS_DELAY]⟩,
  ⟨0x400B0018, 0x0, 1, .triple, [F.BAL_CUSUM_K, F.BAL_CUSUM_H, F.BAL_CUSUM_LOWN]⟩,
  ⟨0x400B001C, 0x0, 1, .plain, [F.BAL_LOC_RHO, F.BAL_LOC_PRE, F.BAL_LOC_MINPOST, F.BAL_LOC_WIN]⟩,
  ⟨0x400B0020, 0x0, 1, .plain, [F.BAL_TSIG_REVMIN, F.BAL_TSIG_IMIN, F.BAL_TSIG_ZMIN]⟩,
  ⟨0x400B0024, 0x0, 1, .plain, [F.BAL_RETAIN_DAYS]⟩,
  ⟨0x400B0030, 0x0, 1, .plain, [F.BAL_FINL]⟩,
  ⟨0x400B0034, 0x0, 1, .plain, [F.BAL_FINH]⟩,
  ⟨0x400B0038, 0x0, 1, .plain, [F.BAL_PROVL]⟩,
  ⟨0x400B003C, 0x0, 1, .plain, [F.BAL_PROVH]⟩,
  ⟨0x400B0040, 0x0, 1, .plain, [F.BAL_NODES]⟩,
  ⟨0x400B0044, 0x0, 1, .plain, [F.BAL_RAISED]⟩,
  ⟨0x400B0048, 0x0, 1, .plain, [F.BAL_LATE]⟩,
  ⟨0x400B004C, 0x0, 1, .plain, [F.BAL_LOCQ]⟩,
  ⟨0x400B0080, 0x0, 1, .plain, [F.BAL_NSEL_NODE]⟩,
  ⟨0x400B0084, 0x0, 1, .plain, [F.BAL_NINFO_LEVEL, F.BAL_NINFO_DEFINED, F.BAL_NINFO_ENABLED, F.BAL_NINFO_RAISEDP, F.BAL_NINFO_RAISEDM, F.BAL_NINFO_LOWCOV, F.BAL_NINFO_REFMISS, F.BAL_NINFO_LOADP, F.BAL_NINFO_BUFFERED]⟩,
  ⟨0x400B0088, 0x0, 1, .plain, [F.BAL_NREF_SLOT, F.BAL_NREF_NOREF]⟩,
  ⟨0x400B008C, 0x0, 1, .plain, [F.BAL_NPAR_PARENT]⟩,
  ⟨0x400B0090, 0x0, 1, .plain, [F.BAL_NKIDS]⟩,
  ⟨0x400B0094, 0x0, 1, .plain, [F.BAL_NA]⟩,
  ⟨0x400B0098, 0x0, 1, .plain, [F.BAL_NB]⟩,
  ⟨0x400B009C, 0x0, 1, .plain, [F.BAL_NS]⟩,
  ⟨0x400B00A0, 0x0, 1, .plain, [F.BAL_NG_GP, F.BAL_NG_GM]⟩,
  ⟨0x400B0100, 0x8, 8, .plain, [F.BAL_SUSPA_SLOT, F.BAL_SUSPA_REASON]⟩,
  ⟨0x400B0104, 0x8, 8, .plain, [F.BAL_SUSPB_RHO, F.BAL_SUSPB_SIGS, F.BAL_SUSPB_DROP]⟩]

/-- The registers of the DIST block, described in 07_distribution_and_curtailment.md (R18). -/
def regsDIST : List RegDef := [
  ⟨0x400C0000, 0x0, 1, .plain, [F.DIST_CTRL_CURT_EN, F.DIST_CTRL_PUSH_EN, F.DIST_CTRL_CAMP_EN]⟩,
  ⟨0x400C0004, 0x0, 1, .plain, [F.DIST_STATUS_RESUMING, F.DIST_STATUS_CAMPS, F.DIST_STATUS_HELD]⟩,
  ⟨0x400C0008, 0x0, 1, .triple, [F.DIST_RESUME_KWPS, F.DIST_RESUME_JITTER]⟩,
  ⟨0x400C000C, 0x0, 1, .plain, [F.DIST_RESDEF_W]⟩,
  ⟨0x400C0010, 0x0, 1, .plain, [F.DIST_CURT_ACKMS, F.DIST_CURT_RETRY, F.DIST_CURT_REFRESH]⟩,
  ⟨0x400C0014, 0x0, 1, .plain, [F.DIST_CAMP_ACTSLOT, F.DIST_CAMP_CAP, F.DIST_CAMP_ROUNDS, F.DIST_CAMP_ARMLEAD]⟩,
  ⟨0x400C0018, 0x0, 1, .plain, [F.DIST_CAMP2_MCMIN, F.DIST_CAMP2_CONFIRM]⟩,
  ⟨0x400C001C, 0x0, 1, .plain, [F.DIST_PUSH_RETRYMIN, F.DIST_PUSH_RETRY]⟩,
  ⟨0x400C0030, 0x0, 1, .plain, [F.DIST_POSTS]⟩,
  ⟨0x400C0034, 0x0, 1, .plain, [F.DIST_CURTD]⟩,
  ⟨0x400C0038, 0x0, 1, .plain, [F.DIST_RQ]⟩,
  ⟨0x400C003C, 0x0, 1, .plain, [F.DIST_NOACK]⟩,
  ⟨0x400C0040, 0x0, 1, .plain, [F.DIST_C0BAD]⟩,
  ⟨0x400C0080, 0x0, 1, .plain, [F.DIST_CSEL_CAMP]⟩,
  ⟨0x400C0084, 0x0, 1, .plain, [F.DIST_CINFO_STATE, F.DIST_CINFO_BLOCKS]⟩,
  ⟨0x400C0088, 0x0, 1, .plain, [F.DIST_CTAG]⟩,
  ⟨0x400C008C, 0x0, 1, .plain, [F.DIST_CTGT]⟩,
  ⟨0x400C0090, 0x0, 1, .plain, [F.DIST_CHAVE]⟩,
  ⟨0x400C0094, 0x0, 1, .plain, [F.DIST_CDONE]⟩]

/-- The registers of the QOS block, described in 08_traffic_classes_and_queues.md (R18). -/
def regsQOS : List RegDef := [
  ⟨0x400D0000, 0x0, 1, .plain, [F.QOS_CTRL_PREEMPT, F.QOS_CTRL_ADDFRAG, F.QOS_CTRL_VERIFY]⟩,
  ⟨0x400D0004, 0x0, 1, .plain, [F.QOS_STATUS_C0READY, F.QOS_STATUS_C0FAULT, F.QOS_STATUS_PREACT]⟩,
  ⟨0x400D0008, 0x0, 1, .triple, [F.QOS_C0POL_FPS, F.QOS_C0POL_BURST, F.QOS_C0POL_PCT]⟩,
  ⟨0x400D000C, 0x0, 1, .plain, [F.QOS_EGWM_WM2, F.QOS_EGWM_WM3]⟩,
  ⟨0x400D0010, 0x0, 1, .plain, [F.QOS_CNTCLR_CLR]⟩,
  ⟨0x400D0020, 0x0, 1, .plain, [F.QOS_OUTPROF]⟩,
  ⟨0x400D0024, 0x0, 1, .plain, [F.QOS_C0DROP]⟩,
  ⟨0x400D0028, 0x0, 1, .plain, [F.QOS_C0FAULTS]⟩,
  ⟨0x400D002C, 0x0, 1, .plain, [F.QOS_HDROP]⟩,
  ⟨0x400D0030, 0x0, 1, .plain, [F.QOS_DROP2]⟩,
  ⟨0x400D0034, 0x0, 1, .plain, [F.QOS_DROP3]⟩,
  ⟨0x400D0040, 0x0, 1, .plain, [F.QOS_QSEL_QUEUE]⟩,
  ⟨0x400D0044, 0x0, 1, .plain, [F.QOS_QOCC]⟩,
  ⟨0x400D0048, 0x0, 1, .plain, [F.QOS_QWR]⟩,
  ⟨0x400D004C, 0x0, 1, .plain, [F.QOS_QRD]⟩,
  ⟨0x400D0050, 0x0, 1, .plain, [F.QOS_QPEEKL]⟩,
  ⟨0x400D0054, 0x0, 1, .plain, [F.QOS_QPEEKH]⟩,
  ⟨0x400D0058, 0x0, 1, .plain, [F.QOS_QSPILL]⟩,
  ⟨0x400D0100, 0x10, 14, .plain, [F.QOS_C0MAX_NS]⟩,
  ⟨0x400D0104, 0x10, 14, .plain, [F.QOS_C0CNT]⟩,
  ⟨0x400D0108, 0x10, 14, .plain, [F.QOS_C0OVR]⟩,
  ⟨0x400D1000, 0x4, 94, .plain, [F.QOS_QCE_CORR, F.QOS_QCE_UNCORR]⟩]

/-- The registers of the PLC block, described in 09_power_line_modem.md (R18). -/
def regsPLC : List RegDef := [
  ⟨0x400E0000, 0x0, 1, .plain, [F.PLC_CTRL_RXEN, F.PLC_CTRL_TXEN, F.PLC_CTRL_HATCH_EN, F.PLC_CTRL_SEGCOST_EN]⟩,
  ⟨0x400E0004, 0x0, 1, .plain, [F.PLC_STATUS_PUBLISH, F.PLC_STATUS_DRVFAULT, F.PLC_STATUS_CALRUN]⟩,
  ⟨0x400E0008, 0x0, 1, .plain, [F.PLC_EXTOUI_OUI]⟩,
  ⟨0x400E0010, 0x0, 1, .plain, [F.PLC_STIP_THR, F.PLC_STIP_ERAS]⟩,
  ⟨0x400E0014, 0x0, 1, .plain, [F.PLC_HATCH_HGUARD, F.PLC_HATCH_AGE, F.PLC_HATCH_SNRMIN]⟩,
  ⟨0x400E0018, 0x0, 1, .plain, [F.PLC_NBR_PERIOD]⟩,
  ⟨0x400E001C, 0x0, 1, .plain, [F.PLC_ROUTE_RDRATE, F.PLC_ROUTE_HOLDMS, F.PLC_ROUTE_KQ, F.PLC_ROUTE_KM, F.PLC_ROUTE_KC]⟩,
  ⟨0x400E0020, 0x0, 1, .plain, [F.PLC_RXCAL_STEPDB]⟩,
  ⟨0x400E0024, 0x0, 1, .pair, [F.PLC_CAL_RUN]⟩,
  ⟨0x400E0028, 0x0, 1, .plain, [F.PLC_CNTCLR_CLR]⟩,
  ⟨0x400E0100, 0x40, 6, .plain, [F.PLC_CHCFG_PANID]⟩,
  ⟨0x400E0104, 0x40, 6, .plain, [F.PLC_CHSTAT_NODES, F.PLC_CHSTAT_NBRS]⟩,
  ⟨0x400E0108, 0x40, 6, .plain, [F.PLC_FOK]⟩,
  ⟨0x400E010C, 0x40, 6, .plain, [F.PLC_FBAD]⟩,
  ⟨0x400E0110, 0x40, 6, .plain, [F.PLC_REASM]⟩,
  ⟨0x400E0114, 0x40, 6, .plain, [F.PLC_BLANK]⟩,
  ⟨0x400E0118, 0x40, 6, .plain, [F.PLC_ERAS]⟩,
  ⟨0x400E011C, 0x40, 6, .plain, [F.PLC_LSTEP]⟩,
  ⟨0x400E0120, 0x40, 6, .plain, [F.PLC_NOKEY]⟩,
  ⟨0x400E0124, 0x40, 6, .plain, [F.PLC_NOROUTE]⟩,
  ⟨0x400E0128, 0x40, 6, .plain, [F.PLC_CALST_OFS, F.PLC_CALST_GAIN]⟩,
  ⟨0x400E0400, 0x20, 3, .plain, [F.PLC_TXCFG_ATTN, F.PLC_TXCFG_LEAD]⟩,
  ⟨0x400E0404, 0x20, 3, .plain, [F.PLC_TXMASK_HMASK]⟩,
  ⟨0x400E0408, 0x20, 3, .plain, [F.PLC_TXOK]⟩,
  ⟨0x400E040C, 0x20, 3, .plain, [F.PLC_TXHATCH]⟩]

/-- The registers of the RADIO block, described in 10_radio.md (R18). -/
def regsRADIO : List RegDef := [
  ⟨0x400F0000, 0x0, 1, .plain, [F.RADIO_CTRL_RXEN, F.RADIO_CTRL_TXEN, F.RADIO_CTRL_BAND, F.RADIO_CTRL_DIV, F.RADIO_CTRL_EXTPA, F.RADIO_CTRL_CFMT]⟩,
  ⟨0x400F0004, 0x0, 1, .plain, [F.RADIO_STATUS_BUSY, F.RADIO_STATUS_TXON, F.RADIO_STATUS_NOTABLE, F.RADIO_STATUS_CALRUN]⟩,
  ⟨0x400F0008, 0x0, 1, .plain, [F.RADIO_WIN_CENTER]⟩,
  ⟨0x400F000C, 0x0, 1, .plain, [F.RADIO_TXCFG_PWR, F.RADIO_TXCFG_EXTGAIN, F.RADIO_TXCFG_PALEAD]⟩,
  ⟨0x400F0010, 0x0, 1, .plain, [F.RADIO_SLEEP_GUARD, F.RADIO_SLEEP_MAXMULT, F.RADIO_SLEEP_REPLYMS]⟩,
  ⟨0x400F0014, 0x0, 1, .pair, [F.RADIO_CAL_RUN]⟩,
  ⟨0x400F0018, 0x0, 1, .plain, [F.RADIO_CNTCLR_CLR]⟩,
  ⟨0x400F0020, 0x4, 2, .plain, [F.RADIO_CALST_IQGAIN, F.RADIO_CALST_IQPHASE]⟩,
  ⟨0x400F0028, 0x0, 1, .plain, [F.RADIO_REFOFS_PPB, F.RADIO_REFOFS_FROMPTP]⟩,
  ⟨0x400F0040, 0x0, 1, .plain, [F.RADIO_FOK]⟩,
  ⟨0x400F0044, 0x0, 1, .plain, [F.RADIO_FBAD]⟩,
  ⟨0x400F0048, 0x0, 1, .plain, [F.RADIO_MISS]⟩,
  ⟨0x400F004C, 0x0, 1, .plain, [F.RADIO_BLANK]⟩,
  ⟨0x400F0050, 0x0, 1, .plain, [F.RADIO_TXOK]⟩,
  ⟨0x400F0054, 0x0, 1, .plain, [F.RADIO_LBTBUSY]⟩,
  ⟨0x400F0058, 0x0, 1, .plain, [F.RADIO_DWELL]⟩,
  ⟨0x400F005C, 0x0, 1, .plain, [F.RADIO_SLMISS]⟩,
  ⟨0x400F0060, 0x0, 1, .plain, [F.RADIO_ACKDROP]⟩,
  ⟨0x400F0064, 0x0, 1, .plain, [F.RADIO_TXNONE]⟩,
  ⟨0x400F0068, 0x0, 1, .plain, [F.RADIO_SLFULL]⟩,
  ⟨0x400F0080, 0x4, 32, .plain, [F.RADIO_DMCFG_ROW, F.RADIO_DMCFG_MODE, F.RADIO_DMCFG_EN]⟩,
  ⟨0x400F0100, 0x4, 16, .plain, [F.RADIO_DWUSE_MS]⟩]

/-- The registers of the UPLINK block, described in 11_ports_roles_and_hcp.md (R18). -/
def regsUPLINK : List RegDef := [
  ⟨0x40100000, 0x100, 2, .plain, [F.UPLINK_CFG_EN, F.UPLINK_CFG_MODE, F.UPLINK_CFG_ANEG]⟩,
  ⟨0x40100004, 0x100, 2, .plain, [F.UPLINK_STATUS_LINK, F.UPLINK_STATUS_SECURE, F.UPLINK_STATUS_BOOT, F.UPLINK_STATUS_ROLLARM, F.UPLINK_STATUS_AN]⟩,
  ⟨0x40100008, 0x100, 2, .triple, [F.UPLINK_MSCFG_SEED, F.UPLINK_MSCFG_REPLAY, F.UPLINK_MSCFG_BOOTOK]⟩,
  ⟨0x4010000C, 0x100, 2, .plain, [F.UPLINK_KNUM]⟩,
  ⟨0x40100010, 0x100, 2, .plain, [F.UPLINK_IP0]⟩,
  ⟨0x40100014, 0x100, 2, .plain, [F.UPLINK_IP1]⟩,
  ⟨0x40100018, 0x100, 2, .plain, [F.UPLINK_IP2]⟩,
  ⟨0x4010001C, 0x100, 2, .plain, [F.UPLINK_IP3]⟩,
  ⟨0x40100020, 0x100, 2, .plain, [F.UPLINK_RTR0]⟩,
  ⟨0x40100024, 0x100, 2, .plain, [F.UPLINK_RTR1]⟩,
  ⟨0x40100028, 0x100, 2, .plain, [F.UPLINK_RTR2]⟩,
  ⟨0x4010002C, 0x100, 2, .plain, [F.UPLINK_RTR3]⟩,
  ⟨0x40100030, 0x100, 2, .plain, [F.UPLINK_HCP_UDPPORT]⟩,
  ⟨0x40100040, 0x100, 2, .plain, [F.UPLINK_RXOK]⟩,
  ⟨0x40100044, 0x100, 2, .plain, [F.UPLINK_RXMSBAD]⟩,
  ⟨0x40100048, 0x100, 2, .plain, [F.UPLINK_RXUNPROT]⟩,
  ⟨0x4010004C, 0x100, 2, .plain, [F.UPLINK_TXOK]⟩,
  ⟨0x40100050, 0x100, 2, .plain, [F.UPLINK_HCPBAD]⟩,
  ⟨0x40100054, 0x100, 2, .plain, [F.UPLINK_CACHEHIT]⟩]

/-- The registers of the T1S block, described in 11_ports_roles_and_hcp.md (R18). -/
def regsT1S : List RegDef := [
  ⟨0x40110000, 0x0, 1, .plain, [F.T1S_CTRL_EN, F.T1S_CTRL_QUAL]⟩,
  ⟨0x40110004, 0x0, 1, .plain, [F.T1S_STATUS_BEACON, F.T1S_STATUS_PHYFAULT]⟩,
  ⟨0x40110100, 0x20, 8, .plain, [F.T1S_PLCA_NCNT, F.T1S_PLCA_TOTMR, F.T1S_PLCA_MAXBC, F.T1S_PLCA_NBC, F.T1S_PLCA_BTMR]⟩,
  ⟨0x40110104, 0x20, 8, .plain, [F.T1S_CYCMAX]⟩,
  ⟨0x40110108, 0x20, 8, .plain, [F.T1S_RXOK]⟩,
  ⟨0x4011010C, 0x20, 8, .plain, [F.T1S_RXBAD]⟩,
  ⟨0x40110110, 0x20, 8, .plain, [F.T1S_TXOK]⟩]

/-- The registers of the KEY block, described in 12_keys_and_tamper.md (R18). -/
def regsKEY : List RegDef := [
  ⟨0x40120000, 0x0, 1, .plain, [F.KEY_STATUS_GEN, F.KEY_STATUS_GENLEFT, F.KEY_STATUS_FLAT, F.KEY_STATUS_KATOK, F.KEY_STATUS_FUSEGATED, F.KEY_STATUS_CERT, F.KEY_STATUS_CERTPEND, F.KEY_STATUS_OPKEY]⟩,
  ⟨0x40120004, 0x0, 1, .plain, [F.KEY_DEVIDL]⟩,
  ⟨0x40120008, 0x0, 1, .plain, [F.KEY_DEVIDH]⟩,
  ⟨0x4012000C, 0x0, 1, .plain, [F.KEY_SEEDSTL]⟩,
  ⟨0x40120010, 0x0, 1, .plain, [F.KEY_SEEDSTH]⟩,
  ⟨0x40120014, 0x0, 1, .plain, [F.KEY_FLATCNT]⟩,
  ⟨0x40120018, 0x0, 1, .plain, [F.KEY_PLC_SEED, F.KEY_PLC_GMKNUM]⟩,
  ⟨0x4012001C, 0x0, 1, .pair, [F.KEY_CERT_BLOW]⟩,
  ⟨0x40120020, 0x0, 1, .plain, [F.KEY_CHIT]⟩,
  ⟨0x40120024, 0x0, 1, .plain, [F.KEY_CMISS]⟩,
  ⟨0x40120028, 0x0, 1, .plain, [F.KEY_PINNED]⟩,
  ⟨0x4012002C, 0x0, 1, .plain, [F.KEY_DRATE]⟩,
  ⟨0x40120100, 0x4, 64, .plain, [F.KEY_SEEDCNT_COUNT]⟩]

/-- The registers of the TAMPER block, described in 12_keys_and_tamper.md (R18). -/
def regsTAMPER : List RegDef := [
  ⟨0x40130000, 0x0, 1, .plain, [F.TAMPER_STATUS_LATCH, F.TAMPER_STATUS_SEALBRK, F.TAMPER_STATUS_CLRPEND, F.TAMPER_STATUS_CAUSE, F.TAMPER_STATUS_ASSERT]⟩,
  ⟨0x40130004, 0x0, 1, .plain, [F.TAMPER_LTL]⟩,
  ⟨0x40130008, 0x0, 1, .plain, [F.TAMPER_LTH]⟩,
  ⟨0x4013000C, 0x0, 1, .pair, [F.TAMPER_ARM_ARM]⟩,
  ⟨0x40130010, 0x0, 1, .plain, [F.TAMPER_CLRCNT]⟩,
  ⟨0x40130100, 0x4, 8, .pair, [F.TAMPER_INCFG_EN, F.TAMPER_INCFG_POL, F.TAMPER_INCFG_SEAL, F.TAMPER_INCFG_PULL, F.TAMPER_INCFG_FILT]⟩,
  ⟨0x40130120, 0x4, 2, .pair, [F.TAMPER_MESH_EN, F.TAMPER_MESH_RATE]⟩]

/-- The registers of the FTL block, described in 13_storage.md (R18). -/
def regsFTL : List RegDef := [
  ⟨0x40140004, 0x0, 1, .plain, [F.FTL_STATUS_MOUNTED, F.FTL_STATUS_FORMATTED, F.FTL_STATUS_NOPARITY, F.FTL_STATUS_RO, F.FTL_STATUS_FOLDING, F.FTL_STATUS_LOWSPARE, F.FTL_STATUS_GRAVING]⟩,
  ⟨0x40140008, 0x0, 1, .plain, [F.FTL_GEOM_CHMASK, F.FTL_GEOM_TGTS, F.FTL_GEOM_LUNS, F.FTL_GEOM_CELL, F.FTL_GEOM_PLANES]⟩,
  ⟨0x4014000C, 0x0, 1, .plain, [F.FTL_CAP]⟩,
  ⟨0x40140010, 0x0, 1, .plain, [F.FTL_RAW]⟩,
  ⟨0x40140014, 0x0, 1, .plain, [F.FTL_SLC_PCT, F.FTL_SLC_IDLEMS]⟩,
  ⟨0x40140018, 0x0, 1, .plain, [F.FTL_REFRESH_TLC, F.FTL_REFRESH_QLC, F.FTL_REFRESH_SLC]⟩,
  ⟨0x4014001C, 0x0, 1, .plain, [F.FTL_SCRUB_DAYS, F.FTL_SCRUB_THR]⟩,
  ⟨0x40140020, 0x0, 1, .plain, [F.FTL_PE_PE, F.FTL_PE_RATED]⟩,
  ⟨0x40140024, 0x0, 1, .plain, [F.FTL_LIFE_YEARS, F.FTL_LIFE_AGE]⟩,
  ⟨0x40140028, 0x0, 1, .plain, [F.FTL_PEAVG_AVG, F.FTL_PEAVG_MAX]⟩,
  ⟨0x4014002C, 0x0, 1, .plain, [F.FTL_SPARE_LEFT, F.FTL_SPARE_GROWN]⟩,
  ⟨0x40140030, 0x0, 1, .plain, [F.FTL_WAF]⟩,
  ⟨0x40140034, 0x0, 1, .plain, [F.FTL_HOSTGB]⟩,
  ⟨0x40140038, 0x0, 1, .plain, [F.FTL_NANDGB]⟩,
  ⟨0x4014003C, 0x0, 1, .plain, [F.FTL_REBUILT]⟩,
  ⟨0x40140040, 0x0, 1, .plain, [F.FTL_LOST]⟩,
  ⟨0x40140100, 0x10, 5, .pair, [F.FTL_VOL_PCT, F.FTL_VOL_SECURE, F.FTL_VOL_WARN]⟩,
  ⟨0x40140104, 0x10, 5, .plain, [F.FTL_VSTAT_SIZE, F.FTL_VSTAT_USED]⟩,
  ⟨0x40140108, 0x10, 5, .plain, [F.FTL_VDEL]⟩,
  ⟨0x40140200, 0x0, 1, .plain, [F.FTL_GSEL_REQ]⟩,
  ⟨0x40140204, 0x0, 1, .plain, [F.FTL_GINFO_STATE, F.FTL_GINFO_VALID, F.FTL_GINFO_VOLUME, F.FTL_GINFO_BLOCKS]⟩,
  ⟨0x40140208, 0x0, 1, .plain, [F.FTL_GID]⟩,
  ⟨0x4014020C, 0x0, 1, .plain, [F.FTL_GTIME]⟩,
  ⟨0x40140210, 0x0, 1, .plain, [F.FTL_GSIZE]⟩]

/-- The registers of the DRAM block, described in 13_storage.md (R18). -/
def regsDRAM : List RegDef := [
  ⟨0x40150000, 0x0, 1, .plain, [F.DRAM_CTRL_SCRUBH, F.DRAM_CTRL_SCRUB_EN]⟩,
  ⟨0x40150004, 0x0, 1, .plain, [F.DRAM_STATUS_TRAINED, F.DRAM_STATUS_SIZE, F.DRAM_STATUS_DERATE, F.DRAM_STATUS_SCRUBBING]⟩,
  ⟨0x40150010, 0x4, 2, .plain, [F.DRAM_CE_COUNT]⟩,
  ⟨0x40150018, 0x4, 2, .plain, [F.DRAM_UE]⟩,
  ⟨0x40150020, 0x0, 1, .plain, [F.DRAM_UEADDRL]⟩,
  ⟨0x40150024, 0x0, 1, .plain, [F.DRAM_UEADDRH]⟩,
  ⟨0x40150028, 0x0, 1, .plain, [F.DRAM_SCRUBPASS]⟩,
  ⟨0x4015002C, 0x0, 1, .plain, [F.DRAM_BW]⟩]

/-- The registers of the EVREC block, described in 14_event_recorder.md (R18). -/
def regsEVREC : List RegDef := [
  ⟨0x40160000, 0x0, 1, .plain, [F.EVREC_CTRL_LONG_EN, F.EVREC_CTRL_RATE_EN]⟩,
  ⟨0x40160004, 0x0, 1, .plain, [F.EVREC_STATUS_FROZEN, F.EVREC_STATUS_PROOFFULL, F.EVREC_STATUS_LOSING, F.EVREC_STATUS_HELD]⟩,
  ⟨0x40160008, 0x0, 1, .triple, [F.EVREC_RATE_DEPTH, F.EVREC_RATE_PERIOD]⟩,
  ⟨0x4016000C, 0x0, 1, .plain, [F.EVREC_LONG_DAYS]⟩,
  ⟨0x40160010, 0x0, 1, .plain, [F.EVREC_FREEZE_SECS, F.EVREC_FREEZE_THAW]⟩,
  ⟨0x40160014, 0x0, 1, .plain, [F.EVREC_SEQL]⟩,
  ⟨0x40160018, 0x0, 1, .plain, [F.EVREC_SEQH]⟩,
  ⟨0x4016001C, 0x0, 1, .plain, [F.EVREC_SUPP]⟩,
  ⟨0x40160020, 0x0, 1, .plain, [F.EVREC_LOST]⟩,
  ⟨0x40160024, 0x0, 1, .plain, [F.EVREC_LONGN]⟩,
  ⟨0x40160028, 0x0, 1, .plain, [F.EVREC_LONGOLD]⟩,
  ⟨0x40160040, 0x0, 1, .plain, [F.EVREC_SEL_SEQ, F.EVREC_SEL_AREA]⟩,
  ⟨0x40160044, 0x0, 1, .plain, [F.EVREC_CUR_SEQ]⟩,
  ⟨0x40160048, 0x0, 1, .plain, [F.EVREC_WSTAT_VALID, F.EVREC_WSTAT_SKIPPED, F.EVREC_WSTAT_DONE]⟩,
  ⟨0x40160100, 0x4, 64, .plain, [F.EVREC_WIN_WORD]⟩]

/-- The registers of the FWU block, described in 15_firmware_update.md (R18). -/
def regsFWU : List RegDef := [
  ⟨0x40170000, 0x0, 1, .plain, [F.FWU_CTRL_EN, F.FWU_CTRL_SD_EN, F.FWU_CTRL_LEAD, F.FWU_CTRL_RETRY]⟩,
  ⟨0x40170004, 0x0, 1, .plain, [F.FWU_STATUS_STATE, F.FWU_STATUS_RESULT, F.FWU_STATUS_ROM, F.FWU_STATUS_TRIAL, F.FWU_STATUS_SDREAD, F.FWU_STATUS_BANK, F.FWU_STATUS_MKEY, F.FWU_STATUS_STAGED]⟩,
  ⟨0x40170008, 0x0, 1, .plain, [F.FWU_MSEQL]⟩,
  ⟨0x4017000C, 0x0, 1, .plain, [F.FWU_MSEQH]⟩,
  ⟨0x40170010, 0x0, 1, .plain, [F.FWU_ACTL]⟩,
  ⟨0x40170014, 0x0, 1, .plain, [F.FWU_ACTH]⟩,
  ⟨0x40170018, 0x0, 1, .plain, [F.FWU_ACTCNT]⟩,
  ⟨0x40170020, 0x0, 1, .plain, [F.FWU_PSEL_PART]⟩,
  ⟨0x40170024, 0x0, 1, .plain, [F.FWU_PVER]⟩,
  ⟨0x40170028, 0x0, 1, .plain, [F.FWU_PSVER]⟩,
  ⟨0x40170040, 0x4, 8, .plain, [F.FWU_PHASH_WORD]⟩]

/-- The registers of the DISP block, described in 16_legal_display.md (R18). -/
def regsDISP : List RegDef := [
  ⟨0x40180000, 0x0, 1, .plain, [F.DISP_CTRL_EN, F.DISP_CTRL_OFFIDLE, F.DISP_CTRL_IDLE]⟩,
  ⟨0x40180004, 0x0, 1, .pair, [F.DISP_SUPPLY_SRC]⟩,
  ⟨0x40180008, 0x0, 1, .plain, [F.DISP_BIAS_B, F.DISP_BIAS_VMAX]⟩,
  ⟨0x4018000C, 0x0, 1, .plain, [F.DISP_TEMP_SRC, F.DISP_TEMP_OFS]⟩,
  ⟨0x40180010, 0x0, 1, .plain, [F.DISP_STATUS_BUSY, F.DISP_STATUS_PENDING, F.DISP_STATUS_OFF, F.DISP_STATUS_PUMP, F.DISP_STATUS_VCLAMP, F.DISP_STATUS_COLD, F.DISP_STATUS_NOVHV, F.DISP_STATUS_MAPOK, F.DISP_STATUS_BANNER, F.DISP_STATUS_SCREEN]⟩,
  ⟨0x40180014, 0x0, 1, .plain, [F.DISP_PASS_FIRST, F.DISP_PASS_LAST, F.DISP_PASS_ROW]⟩,
  ⟨0x40180018, 0x0, 1, .plain, [F.DISP_VDRV_V, F.DISP_VDRV_TEMP]⟩,
  ⟨0x4018001C, 0x0, 1, .plain, [F.DISP_CMD_REDRAW]⟩,
  ⟨0x40180020, 0x0, 1, .plain, [F.DISP_NPASS]⟩,
  ⟨0x40180024, 0x0, 1, .plain, [F.DISP_NRESTART]⟩,
  ⟨0x40180028, 0x0, 1, .plain, [F.DISP_NSTOP]⟩,
  ⟨0x40180040, 0x0, 1, .plain, [F.DISP_PLATE_COMMON]⟩,
  ⟨0x40180080, 0x4, 9, .plain, [F.DISP_PLATED_WORD]⟩]

/-- The registers of the FAULT block, described in 19_faults_and_injection.md (R18). -/
def regsFAULT : List RegDef := [
  ⟨0x40190000, 0x0, 1, .pair, [F.FAULT_CTRL_LIVE]⟩,
  ⟨0x40190004, 0x0, 1, .plain, [F.FAULT_STATUS_ACTIVE, F.FAULT_STATUS_LIVEON, F.FAULT_STATUS_PATHOK, F.FAULT_STATUS_CERTLOCK, F.FAULT_STATUS_DET, F.FAULT_STATUS_LEFT, F.FAULT_STATUS_STPEND]⟩,
  ⟨0x40190008, 0x0, 1, .pair, [F.FAULT_INJ_DET, F.FAULT_INJ_ARG, F.FAULT_INJ_COUNT]⟩,
  ⟨0x4019000C, 0x0, 1, .plain, [F.FAULT_ADDRL]⟩,
  ⟨0x40190010, 0x0, 1, .plain, [F.FAULT_ADDRH]⟩,
  ⟨0x40190014, 0x0, 1, .plain, [F.FAULT_DUR_US]⟩,
  ⟨0x40190018, 0x0, 1, .pair, [F.FAULT_ST_BURIN, F.FAULT_ST_KEY]⟩,
  ⟨0x4019001C, 0x0, 1, .plain, [F.FAULT_CMD_STOP]⟩,
  ⟨0x40190020, 0x0, 1, .plain, [F.FAULT_INJCNT]⟩,
  ⟨0x40190024, 0x0, 1, .plain, [F.FAULT_REFCNT]⟩]

/-- The registers of the PORT block, described in 11_ports_roles_and_hcp.md (R18). -/
def regsPORT : List RegDef := [
  ⟨0x401A0000, 0x0, 1, .pair, [F.PORT_ROLE_UPL0, F.PORT_ROLE_UPL1, F.PORT_ROLE_SVC, F.PORT_ROLE_SEAL, F.PORT_ROLE_SD, F.PORT_ROLE_PLC, F.PORT_ROLE_RADIO, F.PORT_ROLE_T1S]⟩,
  ⟨0x401A0004, 0x0, 1, .plain, [F.PORT_STATUS_RESTRICTED, F.PORT_STATUS_CAUSE, F.PORT_STATUS_SDIN, F.PORT_STATUS_SDBUSY, F.PORT_STATUS_CAUSES]⟩,
  ⟨0x401A0008, 0x0, 1, .plain, [F.PORT_HCP_CACHES, F.PORT_HCP_NACKMS, F.PORT_HCP_NRETRY]⟩,
  ⟨0x401A000C, 0x0, 1, .plain, [F.PORT_UART_EN, F.PORT_UART_BAUD]⟩,
  ⟨0x401A0010, 0x0, 1, .plain, [F.PORT_MACL]⟩,
  ⟨0x401A0014, 0x0, 1, .plain, [F.PORT_MACH]⟩,
  ⟨0x401A0020, 0x0, 1, .plain, [F.PORT_REFUSED]⟩,
  ⟨0x401A0024, 0x0, 1, .plain, [F.PORT_NDROP]⟩,
  ⟨0x401A0028, 0x0, 1, .plain, [F.PORT_SPIREF]⟩,
  ⟨0x401A002C, 0x0, 1, .plain, [F.PORT_SDERR]⟩]

/-- The blocks in base order (R18): block `n` lies at 0x4000_0000 + n × 0x1_0000. -/
def blockRegs : List (List RegDef) := [
  regsSYS, regsCFG, regsCLK, regsPWR, regsTIME, regsMAINS, regsPIPE, regsBURIN, regsMETER, regsBILL, regsTARIFF, regsBAL, regsDIST, regsQOS, regsPLC, regsRADIO, regsUPLINK, regsT1S, regsKEY, regsTAMPER, regsFTL, regsDRAM, regsEVREC, regsFWU, regsDISP, regsFAULT, regsPORT]

/-- The number of blocks: 27 (R18, R431). -/
def nBlocks : Nat := 27

/-- The index of the block that holds an address, if one does (R18, R19). -/
def blockOf (a : Nat) : Option Nat :=
  if 0x40000000 ≤ a ∧ a < 0x401B0000 then some ((a - 0x40000000) / 0x10000) else none

/-- The instance of a register at an address. -/
def RegDef.instAt (r : RegDef) (a : Nat) : Option Nat :=
  if a < r.addr then none
  else if r.stride = 0 then (if a = r.addr then some 0 else none)
  else if (a - r.addr) % r.stride = 0 ∧ (a - r.addr) / r.stride < r.cnt then some ((a - r.addr) / r.stride) else none

/-- The first register of a list with an instance at an address. -/
def findIn (a : Nat) : List RegDef → Option (RegDef × Nat)
  | [] => none
  | r :: rs => match r.instAt a with
    | some i => some (r, i)
    | none => findIn a rs

/-- The register and instance at an address (R9: none where the block's chapter describes nothing). -/
def findReg (a : Nat) : Option (RegDef × Nat) :=
  match blockOf a with
  | none => none
  | some b => findIn a (blockRegs.getD b [])

/-- The storage key of instance `i` of a field: its register's address and its lowest bit. -/
def Fld.key (f : Fld) (i : Nat) : Nat := (f.addr + f.stride * i) * 32 + f.bit

/-- The reset value of instance `i` of a field. Three fields differ by instance: TIME_TPCFG.OWNER (R48), FTL_VOL.PCT and
FTL_VOL.SECURE (R361). -/
def Fld.resetAt (f : Fld) (i : Nat) : Nat :=
  if f = F.TIME_TPCFG_OWNER then (if i < 64 then 1 else 0)
  else if f = F.FTL_VOL_PCT then [50, 4, 20, 0, 20].getD i 0
  else if f = F.FTL_VOL_SECURE then [0, 1, 1, 0, 0].getD i 0
  else f.reset

end Sys2Proof.Machine
end

