-- ==== Sys2Proof/Machine/EventMap.lean ====
section
/-! DEFINITION. The event sources: the Source column of the event tables of every chapter (R366, R300, R381). -/

namespace Sys2Proof.Machine

/-- Each event code with its event source, in the order of the codes. The journal's codes 0xC001 to 0xC004 have none. -/
def eventSources : List (Nat × Nat) :=
  [(0x0001, 0), (0x0002, 0), (0x0003, 0), (0x0011, 1), (0x0012, 1), (0x0013, 1), (0x0014, 1), (0x0020, 2),
   (0x0021, 2), (0x0101, 3), (0x0102, 3), (0x0104, 4), (0x0105, 4), (0x0106, 5), (0x0107, 6), (0x1001, 19),
   (0x1002, 18), (0x1003, 17), (0x1004, 16), (0x1005, 16), (0x1006, 16), (0x1007, 16), (0x1008, 20), (0x1010, 21),
   (0x1011, 21), (0x1012, 22), (0x1013, 21), (0x1020, 23), (0x1021, 24), (0x1022, 25), (0x1030, 16), (0x2001, 33),
   (0x2002, 33), (0x2003, 34), (0x2010, 35), (0x2011, 35), (0x2020, 36), (0x2021, 36), (0x2030, 39), (0x2031, 37)] ++
  [(0x2032, 40), (0x2033, 41), (0x2034, 42), (0x2035, 42), (0x2036, 40), (0x2040, 38), (0x3001, 47), (0x3002, 47),
   (0x3004, 47), (0x3101, 44), (0x3102, 44), (0x3103, 44), (0x3110, 43), (0x3111, 43), (0x3112, 45), (0x3113, 45),
   (0x3114, 45), (0x3120, 43), (0x3121, 43), (0x3130, 46), (0x3131, 46), (0x3140, 47), (0x3150, 43), (0x4001, 48),
   (0x4010, 50), (0x4011, 50), (0x4012, 50), (0x4013, 51), (0x4020, 52), (0x4021, 53), (0x4030, 53), (0x4031, 53),
   (0x4032, 53), (0x5001, 54), (0x5002, 54), (0x5010, 55), (0x5011, 55), (0x5012, 55), (0x5020, 56), (0x5021, 56)] ++
  [(0x5022, 57), (0x5030, 58), (0x5101, 60), (0x5102, 60), (0x5103, 59), (0x5104, 61), (0x5105, 62), (0x5106, 62),
   (0x5107, 63), (0x6001, 64), (0x6002, 64), (0x6010, 65), (0x6011, 65), (0x6012, 65), (0x6020, 66), (0x6021, 66),
   (0x6030, 67), (0x6040, 68), (0x6050, 69), (0x6051, 69), (0x6101, 72), (0x6102, 73), (0x6103, 73), (0x6104, 74),
   (0x6105, 74), (0x6110, 75), (0x6111, 75), (0x6112, 76), (0x6120, 77), (0x6130, 78), (0x6131, 78), (0x6201, 81),
   (0x6202, 81), (0x6203, 81), (0x6204, 82), (0x7001, 83), (0x7002, 83), (0x7003, 83), (0x7004, 83), (0x7005, 83)] ++
  [(0x7006, 84), (0x7007, 84), (0x7008, 84), (0x7009, 84), (0x700A, 83), (0x700B, 84), (0x7010, 80), (0x7011, 80),
   (0x7012, 80), (0x7013, 80), (0x8001, 85), (0x8002, 85), (0x8003, 85), (0x8010, 86), (0x8011, 86), (0x8012, 86),
   (0x8013, 86), (0x8014, 86), (0x8016, 86), (0x8020, 87), (0x8021, 87), (0x8022, 87), (0x8030, 86), (0x8040, 88),
   (0x8041, 88), (0x8042, 88), (0x8043, 89), (0x8044, 88), (0x8046, 88), (0x8047, 88), (0x9001, 90), (0x9002, 90),
   (0x9003, 90), (0x9004, 90), (0x9005, 90), (0x9006, 90), (0x9007, 90), (0x9010, 91), (0x9011, 91), (0x9012, 91)] ++
  [(0x9013, 91), (0x9014, 91), (0x9020, 91), (0x9021, 90), (0x9030, 90), (0xA001, 92), (0xA002, 92), (0xA003, 93),
   (0xA004, 93), (0xA005, 93), (0xA006, 93), (0xB001, 94), (0xB002, 94), (0xB003, 94), (0xB020, 2), (0xB030, 95),
   (0xC0F1, 2)]

/-- The event source of a code, if it has one (R366, R381). -/
def eventSource (code : Nat) : Option Nat :=
  (eventSources.find? (fun e => e.1 == code)).map (fun e => e.2)

end Sys2Proof.Machine
end

