-- ==== Sys2Proof/Machine/State.lean ====
section
/-! DEFINITION. The state of the G1M as a block: everything the manual gives the part to remember, as plain data.
Each substructure names the chapter whose rules it serves. A sparse table is a list of keyed entries; what no entry
names stands at its reset value. -/

namespace Sys2Proof.Machine

/-- No command of this model ends in a fault: the manual gives every command of the table an effect. The one constructor
keeps the type inhabited. No meaning raises it; safe. -/
inductive Fault where
  | none
  deriving DecidableEq, Repr

/-- Why a command is refused. `notModelled` is the outcome of an arm without a meaning; safe (the model stops). -/
inductive Refusal where
  | notModelled (mnemonic : String)
  deriving DecidableEq, Repr

/-! ## Registers (R8 to R10, R424 to R431) -/

/-- One field's new value: storage key, field value. -/
abbrev FVal := Nat × Nat

/-- The pending shadow of one RWS register (R10): the register's address, the values written to its fields, its strobe
group and domain, and the port of the last write (R381). -/
structure Shadow where
  addr : Nat
  vals : List FVal
  sg : Nat
  dom : Dom
  port : Port
  deriving DecidableEq, Repr

/-- A first write held: at a register (R425) or at an SPI port (R426), with the elapsed time at which it came. -/
structure HeldWrite where
  port : Port
  addr : Nat
  v : Nat
  since : Nat
  deriving DecidableEq, Repr

/-- The three copies of one triplicated field where they differ from its output latch (R428), and the writer of the injection that
parted them. -/
structure TriCopies where
  key : Nat
  c0 : Nat
  c1 : Nat
  c2 : Nat
  org : Port := .none
  deriving DecidableEq, Repr

/-- The register block. `fields` is the sparse store of R8: strictly rising keys, no entry at its reset value. -/
structure RegSt where
  fields : List FVal := []
  shadows : List Shadow := []
  xing : List Shadow := []
  held : List HeldWrite := []
  spiHeld : List HeldWrite := []
  tri : List TriCopies := []
  lastRef : List Port := []
  rateTab : Bytes := []
  deriving DecidableEq, Repr

/-! ## The event recorder (R362 to R382, R493) -/

/-- One record (R362). `origin` is the 16-bit field of R363, `fl` the payload's fields in order, with their sizes (R364). -/
structure Rec where
  secs : Nat
  ns : Nat
  code : Nat
  origin : Nat
  seq : Nat
  fl : List (Nat × Nat)
  deriving DecidableEq, Repr

/-- A token bucket that is not full, or that has suppressed events to report (R372, R374): tokens missing, events
suppressed since the last summary, the seconds of the first of them, and the elapsed time from which the next token accrues.
A bucket with no entry is full. -/
structure Bucket where
  code : Nat
  missing : Nat
  supp : Nat
  first : Nat
  since : Nat
  deriving DecidableEq, Repr

/-- An open window of R493: its event code and key, the elapsed time of its end, whether the event is logged at its end
with a count, the count, and the payload fields and origin of the logging. -/
structure LogWin where
  code : Nat
  key : Nat
  endAt : Nat
  counting : Bool
  cnt : Nat
  agent : Nat
  deriving DecidableEq, Repr

/-- A lost record that is open (R377): its record without payload, count, seconds of the last loss, cause. -/
structure LostRec where
  seq : Nat
  secs : Nat
  ns : Nat
  cnt : Nat
  last : Nat
  cause : Nat
  deriving DecidableEq, Repr

/-- The recorder: the count of records accepted, the proof area, the roll area, the long roll (oldest first) and how many
of its records are durable, the freeze in force (its start and end in elapsed time), the holding queue, the records in the intake queue
(R366) at the elapsed time `inAt`, the open lost record, buckets, windows, raised event sources (a bit set), the UART queue with the instant at
which each copy has left the line, the window, and the writer of the
injection whose effects are being logged (R465). -/
structure EvSt where
  total : Nat := 1
  proof : List Rec := []
  roll : List Rec := []
  long : List Rec := []
  longDur : Nat := 0
  freeze : Option (Nat × Nat) := none
  hold : List Rec := []
  intake : Nat := 0
  inAt : Nat := 0
  lost : Option LostRec := none
  buckets : List Bucket := []
  wins : List LogWin := []
  raised : Nat := 0
  uart : List (Nat × Rec) := []
  uartDrop : Nat := 0
  winRecs : List Rec := []
  mark : Option Port := none
  deriving DecidableEq, Repr

/-! ## Ports, HCP and the queue blocks (R208 to R221, R275 to R304) -/

/-- A kept response (R294): the store (0 and 1 the uplinks, 2 the seal port), the sender's address and port, REQID,
the response's class, the frame, and whether it leaves protected; `at` is the elapsed time of the answer. -/
structure Kept where
  store : Nat
  src : Nat
  sport : Nat
  reqid : Nat
  cls : Nat
  frame : Bytes
  prot : Bool
  at_ : Nat
  deriving DecidableEq, Repr

/-- The subscription of R300. -/
structure Subscr where
  up : Nat
  src : Nat
  sport : Nat
  mask : Nat
  kinds : Nat
  deriving DecidableEq, Repr

/-- A notification waiting for its acknowledgement (R301): resends left, class and frame, and the elapsed time at which it was last
queued or sent. -/
structure Notif where
  up : Nat
  code : Nat
  seq : Nat
  left : Nat
  cls : Nat
  frame : Bytes
  sent : Nat := 0
  deriving DecidableEq, Repr

/-- What an egress packet carries: an HCP frame toward an address, a downlink envelope or relayed frame for a slot, a
multicast campaign block, a link frame of the medium's own protocol, a PTP message of a domain (R28), an IPv6 packet toward an address (R279),
or a verify (0) or respond (1) frame of IEEE 802.3br (R211). -/
inductive EgBody where
  | hcp (src sport : Nat) (prot : Bool) (frame : Bytes)
  | down (slot : Nat) (env : Bytes)
  | relay (slot : Nat) (frame : Bytes)
  | block (camp blk : Nat) (frame : Bytes)
  | link (kind : Nat) (node : Nat) (frame : Bytes)
  | ptp (dom : Nat) (msg : Bytes)
  | ip (dst : Nat) (packet : Bytes)
  | mpkt (kind : Nat)
  deriving DecidableEq, Repr

/-- How a power-line frame leaves (R228, R243): with the priority indication, contending in the high-priority window; hatched, with the HATCHED bit of
its frame control header set; its modulation and standard tone map, the carrier groups of each symbol after the header; the identifier of its PAN
and the attenuation from full scale in dB. -/
structure PlcOut where
  prio : Bool
  hatched : Bool
  mod : Nat
  tmap : Nat
  groups : List Nat
  pan : Nat
  attn : Nat
  deriving DecidableEq, Repr

/-- What MACsec adds to a frame sent (R280): the association number, the packet number, the SCI with its port identifier, and the SSCI. -/
structure SecTag where
  an : Nat
  pn : Nat
  sci : Nat
  ssci : Nat
  deriving DecidableEq, Repr

/-- One packet of an egress queue: its class and marks, its length on the medium, what it carries, the instant T, the length and the ingress
queue of the entering frame where R221 measures the pair, the elapsed time at which it reached the head of its queue, on power-line the receive
channel whose band it takes (R223), on an uplink the address of its next hop (R279), and once it is sent its stamp, device time and
fraction, with on power-line the mains instant (R27) and how the frame left, on an uplink its MACsec tag, and on every medium
its bytes: on the uplinks from the IPv6 header on, for radio from the L-field on without CRC fields. -/
structure EgPkt where
  cls : Nat
  outprof : Bool := false
  inj : Bool := false
  len : Nat
  body : EgBody
  pairT : Option (Nat × Nat × Nat) := none
  headT : Nat := 0
  chan : Nat := 0
  hop : Nat := 0
  sent : Option (Nat × Nat) := none
  mains : Option Nat := none
  plc : Option PlcOut := none
  sec : Option SecTag := none
  frame : Bytes := []
  deriving DecidableEq, Repr

/-- A queue block's counters (R212 to R214): words and packets taken from it so far. -/
structure QCtr where
  id : Nat
  words : Nat
  pkts : Nat
  deriving DecidableEq, Repr

/-- An egress queue with its DRAM ring (R219), packets that wait because it was full (R220), and the packets spilled
since the ring last was empty. -/
structure EgQ where
  id : Nat
  q : List EgPkt := []
  ring : List EgPkt := []
  wait : List EgPkt := []
  spilled : Nat := 0
  deriving DecidableEq, Repr

/-- An HCP request accepted from a frame and waiting in an ingress queue (R217), with the instant T, the length and the stamp of its
frame (R27: device time in ns, and its fraction). -/
structure HcpIn where
  req : Req
  code : Nat
  body : Bytes
  at_ : Nat := 0
  len : Nat := 0
  stamp : Nat × Nat := (0, 0)
  deriving DecidableEq, Repr

/-- One policing bucket pair (R208): tokens missing of the frame bucket in units of 1 ns × FPS and of the byte bucket in
units of 1 ns × rate, and the elapsed time they were reckoned at. -/
structure Police where
  port : Nat
  frames : Nat
  bytes : Nat
  at_ : Nat
  deriving DecidableEq, Repr

/-- A transfer (R302 to R304): handle, kind, target, size, digest, whether it was opened at the seal port, the units held
with their data, whether XCLOSE closed it, and the elapsed time of its last XBLOCK. -/
structure Xfer where
  handle : Nat
  kind : Nat
  target : Nat
  size : Nat
  sha : Bytes
  atSeal : Bool
  units : List (Nat × Bytes) := []
  closed : Bool := false
  at_ : Nat := 0
  deriving DecidableEq, Repr

/-- MACsec of one uplink (R280 to R283): whether a secure association is installed, the armed roll (key number, instant in ns),
the former key number during the overlap with the elapsed time of its end, the highest packet number received under each key
number, frames sent under the association, its key and its salt. -/
structure MacSec where
  installed : Bool := false
  armed : Option (Nat × Nat) := none
  old : Option Nat := none
  oldEnd : Nat := 0
  rx : List (Nat × Nat) := []
  tx : Nat := 0
  key : Bytes := []
  salt : Bytes := []
  deriving DecidableEq, Repr

/-- A corrupted word in a queue block (R216, R457): the queue, 0 for one bit, 1 for a payload word, 2 for a length word, the packets
that stand before it, and the writer of the injection that caused it. -/
structure Poison where
  id : Nat
  kind : Nat
  ahead : Nat
  org : Port
  deriving DecidableEq, Repr

/-- A frame on its way out of an uplink (R211): the elapsed time at which its present fragment began, its bytes sent before that fragment, its
bytes in all, whether it is preemptable, and whether an express frame has suspended it. -/
structure Fly where
  up : Nat
  at_ : Nat
  before : Nat
  len : Nat
  pre : Bool
  susp : Bool := false
  deriving DecidableEq, Repr

/-- Ports, HCP, queues. `sealOut` are the responses held for HCPOUT, `egLoad` the class-0 frames sent in the last second (port,
elapsed time, length), `c0At` the instant T, length and ingress queue of the request that runs and `reqAt` the stamp of its frame, `out` the frame
last placed on each egress medium, `fly` the uplinks' frames on the wire, `mrx` the fragments of a preempted frame received by an uplink (R211),
`c0Fault` the end of the span of R216, `memBad` the elapsed time of the last finding of
each class-0 queue, with 94 for the post table and 95 for the pinned keys,
`miso` what each SPI port sent in its last transaction (R287): status byte, then the answer without wait bytes; `sdVsel` the level of SD_VSEL
(R483). -/
structure PortSt where
  kept : List Kept := []
  sub : Option Subscr := none
  nseq0 : Nat := 0
  nseq1 : Nat := 0
  notifs : List Notif := []
  hcpIn : List HcpIn := []
  sealOut : List Bytes := []
  egress : List EgQ := []
  qctr : List QCtr := []
  police : List Police := []
  egLoad : List (Nat × Nat × Nat) := []
  xfers : List Xfer := []
  sec0 : MacSec := {}
  sec1 : MacSec := {}
  card : Option Card := none
  sdVsel : Bool := false
  c0At : Option (Nat × Nat × Nat) := none
  reqAt : Option (Nat × Nat) := none
  out : List (Nat × EgPkt) := []
  fly : List Fly := []
  mrx : List (Nat × Bytes) := []
  poison : List Poison := []
  c0Fault : Option Nat := none
  memBad : List (Nat × Nat) := []
  miso : List (Port × Bytes) := []
  deriving DecidableEq, Repr

/-! ## Time, mains and the timeplate (R25 to R56) -/

/-- A master of a domain that has been heard (R28): its port identity, the data set by which masters are compared, announces heard, the
elapsed time of the last and its interval, and the announce message itself. -/
structure Master where
  src : Nat
  key : List Nat
  count : Nat
  at_ : Nat
  int : Nat
  msg : Bytes
  deriving DecidableEq, Repr

/-- The PTP exchange of one domain (R28): the masters heard and the best of them; a Sync that waits for its Follow_Up (sequence, stamp,
correction in 2^-16 ns); the last complete Sync (master's instant, stamp); the sequence of the part's own delay requests, its last
request's stamp when sent; a peer response that waits for its follow-up (request received, response received, correction); and the
delay of the path in ns. -/
structure PtpDom where
  masters : List Master := []
  best : Option Nat := none
  wait : Option (Nat × Nat × Int) := none
  sync : Option (Int × Nat) := none
  reqSeq : Nat := 0
  reqAt : Option Nat := none
  peer : Option (Int × Nat × Int) := none
  delay : Option Int := none
  deriving DecidableEq, Repr

/-- The servo and announce state of one domain beside TIME_DOMSTAT (R30 to R40): the prediction, domain time minus device time as last
measured, the last announce (elapsed time) and its interval, the last four consecutive measurements of R39 (newest first), the run of 16
of R40, whether the domain is a candidate, its UTC offset and leap flags as announced, and its PTP exchange. -/
structure DomSt where
  pred : Option Int := none
  ofs : Int := 0
  heard : Bool := false
  annAt : Nat := 0
  annInt : Nat := 1000000000
  run4 : List Int := []
  run16 : Nat := 0
  cand : Bool := false
  utc : Nat := 0
  utcValid : Bool := false
  leap61 : Bool := false
  leap59 : Bool := false
  ptp : PtpDom := {}
  deriving DecidableEq, Repr

/-- What an agenda instant stands for (R49). -/
inductive AgKind where
  | precommit (t : Nat)
  | commit (t : Nat)
  | calActivate (scheme : Nat)
  | keyroll (up : Nat)
  | activation (mseq : Nat)
  | candidate
  | campArm (camp : Nat)
  | dist (slot : Nat)
  deriving DecidableEq, Repr

/-- One instant of the agenda: device time in ns, its kind, the entry 0 to 63 that holds it, if one does, and whether it had passed when it
entered (R52). -/
structure Agenda where
  t : Nat
  kind : AgKind
  entry : Option Nat := none
  late : Bool := false
  deriving DecidableEq, Repr

/-- An armed entry of 64 to 255 (R48, R50): next instant (ns of device time, or angle units; of a hatch entry the start of its cycle),
period in the same units. -/
structure TpEnt where
  n : Nat
  next : Nat
  period : Nat
  deriving DecidableEq, Repr

/-- Device time and elapsed time in ns, the fraction of a ns carried by the rate (millionths), the rate correction in ppm
of the servo, the rest of a slew in ns, the domains, first acquisition, the always-on counter, the leap to come (device seconds, new offset), past changes of the UTC offset
(device seconds, old, new), when the boundary clock's master next owes an announce and a Sync, with their sequence numbers (R29),
the agenda with the entries and the internal instants that have fired, and the second at which PPS_OUT last rose (R446). -/
structure TimeSt where
  clk : Nat := 0
  dev : Nat := 0
  acc : Int := 0
  rate : Int := 0
  slew : Int := 0
  d0 : DomSt := {}
  d1 : DomSt := {}
  acqEnd : Option Nat := none
  acqDone : Bool := false
  disagree : Bool := false
  everLocked : Bool := false
  aon : Nat := 0
  aonClk : Nat := 0
  leap : Option (Nat × Nat) := none
  utcHist : List (Nat × Nat × Nat) := []
  agenda : List Agenda := []
  due : List AgKind := []
  tp : List TpEnt := []
  bcAnnAt : Nat := 0
  bcAnnSeq : Nat := 0
  bcSyncAt : Nat := 0
  bcSyncSeq : Nat := 0
  ptpIgnored : Nat := 0
  ndDone : Nat := 0
  uplOther : Nat := 0
  pps : Option Nat := none
  deriving DecidableEq, Repr

/-- The mains angle clock beside its registers (R44 to R46): the angle units counted up to the elapsed time `at_`, the
frequency in force in units of 2^-16 Hz, the runs of good and bad cycles, whether it has locked since start, the last
frequency in range, the phase error of the last crossing, the elapsed time of that crossing, the stamp held back while MAINS_X is frozen (device ns, cycle)
and the elapsed time at which each phase was lost. -/
structure MainsSt where
  ang : Nat := 0
  at_ : Nat := 0
  freq : Nat := 0
  good : Nat := 0
  bad : Nat := 0
  everLocked : Bool := false
  base : Nat := 0
  lastErr : Nat := 0
  lastX : Option Nat := none
  frozen : Bool := false
  latest : Option (Nat × Nat) := none
  absentFrom : Option Nat := none
  deriving DecidableEq, Repr

/-! ## The reading pipeline (R57 to R98, R490) -/

/-- An ingest item (R57, R58): the header's fields and the frame. The stamp is device time in ns with its fraction. `net` is the
offset of the network layer within FRAME, `fofs` the frequency offset of a radio frame and `dur` the ns from the stamp to the last bit, which
the receivers know. -/
structure Item where
  medium : Nat
  port : Nat
  cls : Nat := 3
  mainsValid : Bool := false
  retry : Bool := false
  injected : Bool := false
  relayed : Bool := false
  spilled : Bool := false
  seq : Nat := 0
  stamp : Nat := 0
  frac : Nat := 0
  angle : Nat := 0
  cycle : Nat := 0
  linkq : Nat := 0
  net : Nat := 0
  fofs : Nat := 0
  dur : Nat := 0
  frame : Bytes
  deriving DecidableEq, Repr

/-- The recognised forms of stage 1 (R65). -/
inductive Form where
  | gucor | wmbus | dlms
  deriving DecidableEq, Repr

/-- The canonical reading of R81: totals and meter-kept registers in mWh (register numbers of R61), phase currents,
reading time in ns with whether the meter gave it, tamper bits, last-gasp mark, session body and request tag. -/
structure Reading where
  imp : Option Nat := none
  exp : Option Nat := none
  regs : List (Nat × Nat) := []
  cur : Option (Nat × Nat × Nat) := none
  rt : Nat := 0
  meterTime : Bool := false
  tamper : Option Nat := none
  lastgasp : Bool := false
  session : Option Bytes := none
  tag : Option Nat := none
  deriving DecidableEq, Repr

/-- What the population gives an item at stage 3 (R91): profile, MINKV, seed, SIGREQ, Pmax and the public key entry of its slot. A change
meets the item at stage 8. -/
structure Pop where
  profile : Nat
  minkv : Nat
  seed : Nat
  sigreq : Bool
  pmax : Nat
  pkey : Bytes
  deriving DecidableEq, Repr

/-- An item in flight between stages 1 and 9 (R65): the last stage it has passed, its form, identity, counter (`narrow` for an
8-bit access number), key version, algorithm and content, its slot, whether it is authentic (R68), plaintext, signature and
signed bytes, reading, the outcome its slot's state holds for it (R70), the final outcome with the stage that assigned it, the
note bits, the GEN of the record when stage 3 read it with what it gave (R91), the sender's address, the APDU, the widened counter (R69)
with whether stage 2 tested it, the meter key of stage 4, and the outcome that waits for earlier items of its slot and class (R90). -/
structure Work where
  item : Item
  stage : Nat := 1
  form : Form := .gucor
  ident : Nat := 0
  counter : Nat := 0
  keyver : Nat := 0
  sigalg : Nat := 0
  content : Nat := 0
  enc : Bool := false
  lastgasp : Bool := false
  slot : Option Nat := none
  authentic : Bool := false
  plain : Bytes := []
  sig : Bytes := []
  signed : Bytes := []
  reading : Option Reading := none
  held : Option Nat := none
  outcome : Option Nat := none
  outStage : Nat := 0
  notes : Nat := 0
  recGen : Nat := 0
  pop : Option Pop := none
  tested : Bool := false
  narrow : Bool := false
  addr : Bytes := []
  apdu : Bytes := []
  wide : Int := 0
  key : Bytes := []
  due : Option Nat := none
  deriving DecidableEq, Repr

/-- An open or closed Ed25519 batch (R78): its class, the items' SEQ, oldest first, and once it is closed its random coefficients, 16 B
each. -/
structure Batch where
  id : Nat
  cls : Nat
  seqs : List Nat
  closed : Bool := false
  openAt : Nat := 0
  coef : Bytes := []
  deriving DecidableEq, Repr

/-- A quarantine entry (R96). `vseq` orders the entries for QREAD. -/
structure Quar where
  vseq : Nat
  outcome : Nat
  stage : Nat
  slot : Option Nat
  secs : Nat
  counter : Nat := 0
  item : Item
  deriving DecidableEq, Repr

/-- One committed reading of a slot's series in the INTERVAL volume (R86), the n-th of the series: its stamp, whether it is the last
gasp of an authentic item (R144), the slot's meter-kept registers before it (R119, R130), which the entries before it give, and the elapsed time at which
it was handed to the FTL (R346). -/
structure SerEnt where
  n : Nat
  slot : Nat
  counter : Nat
  rd : Reading
  ct : Nat
  stamp : Nat
  gasp : Bool
  kept : List (Nat × Nat)
  env : Bytes := []
  put : Nat := 0
  deriving DecidableEq, Repr

/-- The pipeline. `ingest` are the four regions of R93, `ring2` and `ring3` the DRAM rings, `spilledN` the items spilled
since a ring last was empty, `fin` the items that ended in the running second,
`engOk` the engines that passed their self-test. -/
structure PipeSt where
  nextSeq : Nat := 0
  reg0 : List Item := []
  reg1 : List Item := []
  reg2 : List Item := []
  reg3 : List Item := []
  ring2 : List Item := []
  ring3 : List Item := []
  spilled2 : Nat := 0
  spilled3 : Nat := 0
  work : List Work := []
  batches : List Batch := []
  nextBatch : Nat := 0
  defer : List Item := []
  deferOut : List (Nat × Nat) := []
  replayed : Nat := 0
  quar : List Quar := []
  nextQuar : Nat := 1
  series : List SerEnt := []
  serN : Nat := 0
  distQ : List Item := []
  finSec : Nat := 0
  fin : Nat := 0
  parseMap : Bytes := []
  engOk : Nat := 0
  deriving DecidableEq, Repr

/-! ## Meter slots (R99 to R116, R491) -/

/-- The RADIO area of a meter record (R265). `anch` is the anchor in ns; `slflags` has bit 0 CONFIGURED, 1 LOST, 2 WAITING. -/
structure RadioA where
  anch : Nat := 0
  lwper : Nat := 0
  lwofs : Nat := 0
  lwlen : Nat := 0
  tol : Nat := 0
  mult : Nat := 0
  slflags : Nat := 0
  row : Nat := 0
  mode : Nat := 0
  fofs : Nat := 0
  relayed : Bool := false
  misses : Nat := 0
  resyncs : Nat := 0
  deriving DecidableEq, Repr

/-- The LINK area (R232, R286): `kind` 0 empty, 1 power-line, 2 10BASE-T1S. For power-line, `lflags` has bit 0 JOINED, 1 DIRECT,
2 HATCH, 3 SEGCOST, 4 UNREACH; for 10BASE-T1S, `chan` is SEG and `mac` the source MAC address. -/
structure LinkA where
  kind : Nat := 0
  saddr : Nat := 0
  chan : Nat := 0
  lflags : Nat := 0
  nexthop : Nat := 0
  rcost : Nat := 0
  hops : Nat := 0
  missed : Nat := 0
  lqif : Nat := 0
  lqir : Nat := 0
  angofs : Nat := 0
  heardt : Nat := 0
  segcosts : List Nat := []
  mac : Bytes := []
  deriving DecidableEq, Repr

/-- The BAL area (R163). -/
structure BalA where
  eat : Int := 0
  lastt : Nat := 0
  rate : Int := 0
  eavg : Nat := 0
  sigs : Nat := 0
  bflags : Nat := 0
  sigcnt : Nat := 0
  deriving DecidableEq, Repr

/-- The DIST area (R184). -/
structure DistA where
  dctr : Nat := 0
  dctrj : Nat := 0
  dkv : Nat := 0
  camp : Nat := 0
  cstate : Nat := 0
  pstate : Nat := 0
  aslot : Nat := 0
  missing : Nat := 0
  climit : Nat := 0
  curt : Nat := 0
  pcalid : Nat := 0
  deriving DecidableEq, Repr

/-- A meter record (R104). Lines 0 to 4, then the RADIO, LINK, BAL and DIST areas. `tkept` holds the meter-kept registers 0x10 to 0x1F that VMASK marks valid. -/
structure MRec where
  ident : Nat := 0
  state : Nat := 0
  profile : Nat := 0
  minkv : Nat := 0
  seed : Nat := 0
  h : Nat := 0
  map : Nat := 0
  flags : Nat := 0
  node : Nat := 0
  scheme : Nat := 0
  strikes : Nat := 0
  pmax : Nat := 0
  pred : Nat := 0
  succ : Nat := 0
  gen : Nat := 0
  stateT : Nat := 0
  lost : Nat := 0
  heard : Nat := 0
  imp : Nat := 0
  exp : Nat := 0
  rt : Nat := 0
  vmask : Nat := 0
  ct : Nat := 0
  medium : Nat := 0
  port : Nat := 0
  linkq : Nat := 0
  addr : Bytes := []
  kept : List (Nat × Nat) := []
  curA : Nat := 0
  curB : Nat := 0
  curC : Nat := 0
  tamper : Nat := 0
  provT : Nat := 0
  commT : Nat := 0
  qitems : Nat := 0
  authf : Nat := 0
  radio : RadioA := {}
  link : LinkA := {}
  bal : BalA := {}
  dist : DistA := {}
  deriving DecidableEq, Repr

/-- A population journal entry (R112): handle, GEN, device time and the record as it stands after the change. -/
structure PopJ where
  slot : Nat
  gen : Nat
  t : Nat
  mrec : MRec
  deriving DecidableEq, Repr

/-- A record page of a checkpoint pass (R113) as the NAND holds it: page, pass, device time, the records of its 8 slots that are not zero, and
whether the NAND has lost it since. -/
structure CkPage where
  page : Nat
  pass : Nat
  t : Nat
  recs : List (Nat × MRec)
  lost : Bool := false
  deriving DecidableEq, Repr

/-- An index entry (R113): the record page, the pass, the device time at which the page was written and its CRC-32C. -/
structure CkIdx where
  page : Nat
  pass : Nat
  t : Nat
  crc : Nat
  deriving DecidableEq, Repr

/-- The header of a checkpoint pass (R113): its number, the device time at which it began and the placement key. -/
structure CkHead where
  pass : Nat
  t : Nat
  key : Bytes
  deriving DecidableEq, Repr

/-- The meter store: records by handle, public key entries by handle, the overflow directory (entry, identity, handle), the placement key, the
journal, the checkpoint (its record pages, index entries and headers, the next page of the pass, the second and the elapsed time at which
it began and its number), slots whose record is unreadable (R115), and the copy behind METER_PEEKD. -/
structure MeterSt where
  recs : List (Nat × MRec) := []
  keys : List (Nat × Bytes) := []
  dir : List (Nat × Nat × Nat) := []
  dirHigh : Bool := false
  placeK : Option Bytes := none
  journal : List PopJ := []
  ckpt : List CkPage := []
  ckIdx : List CkIdx := []
  ckHead : List CkHead := []
  ckAt : Nat := 0
  ckPos : Nat := 0
  ckT : Nat := 0
  ckPass : Nat := 0
  lostRec : List Nat := []
  peek : Bytes := []
  deriving DecidableEq, Repr

/-! ## The legal partition (R117 to R157, R491, R492) -/

/-- One window entry (R126): energy, flag bits (0 CUT, 1 REPEATED, 2 SPLIT, 3 SKIPPED, 4 CARRY), length difference in s. -/
structure WEnt where
  e : Nat := 0
  fl : Nat := 0
  dl : Int := 0
  deriving DecidableEq, Repr

/-- A legal billing record with its window store (R124, R126). The tariff arrays are indexed 0 to 7 for tariffs 1 to 8.
`openFl` and `prevFl` are the flags of the open and settling entries, `rep` the energy of a REPEATED record. -/
structure LRec where
  bimp : Nat := 0
  bexp : Nat := 0
  bt : Nat := 0
  lflags : Nat := 0
  wpos : Nat := 0
  wfill : Nat := 0
  imp : List Nat := [0, 0, 0, 0, 0, 0, 0, 0]
  exp : List Nat := [0, 0, 0, 0, 0, 0, 0, 0]
  md : List Nat := [0, 0, 0, 0, 0, 0, 0, 0]
  mdt : List Nat := [0, 0, 0, 0, 0, 0, 0, 0]
  open_ : Nat := 0
  prev : Nat := 0
  carried : Nat := 0
  gaps : Nat := 0
  crcBad : Bool := false
  win : List WEnt := []
  openFl : Nat := 0
  prevFl : Nat := 0
  rep : Nat := 0
  deriving DecidableEq, Repr

/-- A slot's last committed values (R119): totals, reading time, valid mask and meter-kept registers. -/
structure LastC where
  imp : Nat
  exp : Nat
  rt : Nat
  vmask : Nat
  kept : List (Nat × Nat)
  deriving DecidableEq, Repr

/-- A legal queue entry (R119): a committed reading with the slot's last committed values as they stood before, or a cut
notice with its stamp, and where it stands among the readings: after the first `n` of the series, at device time `t`. -/
inductive LqEnt where
  | reading (e : SerEnt) (prev : LastC)
  | cut (n t slot stamp : Nat)
  deriving DecidableEq, Repr

/-- A switch point of a day profile: minute of day, tariff. -/
abbrev SwPt := Nat × Nat

/-- A daylight rule (R136). -/
structure DRule where
  month : Nat
  week : Nat
  wday : Nat
  utc : Bool
  minute : Nat
  deriving DecidableEq, Repr

/-- A calendar (R136), parsed: season entries (month, day, week), week profiles, day profiles, special days (year, month,
day, day profile). The offsets are in minutes. -/
structure Cal where
  scheme : Nat
  calid : Nat
  pday : Nat
  phour : Nat
  activate : Nat
  std : Int
  dst : Int
  start : DRule
  stop : DRule
  seasons : List (Nat × Nat × Nat)
  weeks : List (List Nat)
  days : List (List SwPt)
  special : List (Nat × Nat × Nat × Nat)
  image : Bytes
  deriving DecidableEq, Repr

/-- The calendars of one scheme (R129, R138), with the time the active one became active. -/
structure CalSet where
  active : Option Cal := none
  previous : Option Cal := none
  passive : Option Cal := none
  since : Nat := 0
  deriving DecidableEq, Repr

/-- A boundary record (R145). -/
structure BRec where
  seq : Nat
  kinds : Nat
  flags : Nat
  t : Nat
  utc : Nat
  doneS : Nat
  chain : Bytes
  deriving DecidableEq, Repr

/-- A period snapshot of one slot (R148), or the final snapshot of a retired one (R152). `told` marks, while a close is under way,
that it logs 0x3111 with its scheme: schemes without an active calendar close together with the slots without one. -/
structure Snap where
  scheme : Nat
  t : Nat
  slot : Nat
  imp : List Nat
  exp : List Nat
  md : List Nat
  mdt : List Nat
  retired : Bool
  carried : Nat
  told : Bool := false
  deriving DecidableEq, Repr

/-- A session record (R155): bit 31 of `seq` marks a conflicting record. -/
structure SessRec where
  slot : Nat
  seq : Nat
  ct : Nat
  body : Bytes
  deriving DecidableEq, Repr

/-- The intervals of an uptake group (R131, R132, R135): length code and window in force, the start of the open interval,
the settling interval (start and end), the flags (0 CUT, 2 SPLIT, 3 SKIPPED; 7 marks a span that is no interval) of the
open and the settling one, the length and window that the settling interval closed under, and whether WFILL starts again
once it has settled (R135). -/
structure Ivl where
  len : Nat := 8
  nsub : Nat := 1
  openS : Nat := 0
  settle : Option (Nat × Nat) := none
  openFl : Nat := 0
  prevFl : Nat := 0
  plen : Nat := 8
  pnsub : Nat := 1
  refill : Bool := false
  deriving DecidableEq, Repr

/-- What the legal partition does to its records beside taking readings (R123): the open intervals split by a step at an instant, with
the flags of what opens there; a boundary's work; what is open under a step; the interval opened after it; repeat mode begun and ended;
settlements; breaks, replacements and releases of slots; a cut notice; a change of BILL_DEMAND; a calendar loaded. -/
inductive LegOp where
  | split (t fl : Nat)
  | boundary (t : Nat) (stepping : Bool)
  | gap
  | reopen (t : Nat)
  | repBegin (c h : Nat)
  | repEnd (dur : Nat)
  | settle (t : Nat)
  | brk (slot : Nat)
  | replace (old spare : Nat)
  | erase (slot : Nat)
  | cut (slot stamp : Nat)
  | demand (l n : Nat)
  | cal (k : Nat) (c : Cal)
  deriving DecidableEq, Repr

/-- An act since the checkpoint, after the first `n` readings of the series and at device time `t`; `done` where the partition was
running and carried it out. -/
structure LegH where
  n : Nat
  t : Nat
  done : Bool
  op : LegOp
  deriving DecidableEq, Repr

/-- A checkpoint of the legal region (R123): the records and window stores after the first `n` readings of the series, and what the replay
of the readings after them needs of the intervals, periods and calendars that were then in force. -/
structure LegCk where
  n : Nat := 0
  recs : List (Nat × LRec) := []
  common : Ivl := {}
  grps : List (Nat × Ivl) := []
  pstart : List (Nat × Nat) := []
  closed : List (Nat × Nat) := []
  snapPend : List Snap := []
  demandPend : Option (Nat × Nat) := none
  taken : List Nat := []
  lastTaken : Nat := 0
  cals : List (Nat × CalSet) := []
  rep : Option (Nat × Nat) := none
  deriving DecidableEq, Repr

/-- The legal partition. Instants are device time in ns. `common` are the intervals of every group that `grps` does not list;
`pstart` and `closed` the start of the running period and the last complete close of a scheme (0xFFFF for the slots without
one); `hwm` the time high-water mark as written; `cuts` the spans of mains absence; `rep` the elapsed start of repeat mode
and the mark it waits for; `ckpt` the checkpoint, `hist` the acts since it, `upto` the readings of the series taken. -/
structure LegSt where
  recs : List (Nat × LRec) := []
  queue : List LqEnt := []
  chk0 : Bytes := []
  chkNow : Bytes := []
  faults : List Nat := []
  brecs : List BRec := []
  bseq : Nat := 0
  chain : Bytes := []
  pre : Option BRec := none
  common : Ivl := {}
  grps : List (Nat × Ivl) := []
  pstart : List (Nat × Nat) := []
  closed : List (Nat × Nat) := []
  demandPend : Option (Nat × Nat) := none
  taken : List Nat := []
  lastTaken : Nat := 0
  cals : List (Nat × CalSet) := []
  noCal : List Nat := []
  snapPend : List Snap := []
  snaps : List Snap := []
  sess : List SessRec := []
  sessSeq : Nat := 0
  rep : Option (Nat × Nat) := none
  repEnd : Bool := false
  hwm : Nat := 0
  lastB : Nat := 0
  firstRun : Option Nat := none
  cuts : List (Nat × Nat) := []
  cutFrom : Option Nat := none
  ckpt : LegCk := {}
  hist : List LegH := []
  upto : Nat := 0
  bpeek : Bytes := []
  deriving DecidableEq, Repr

/-! ## The balance engine (R158 to R179) -/

/-- A deposit (R164): slot, end of the interval (s), net energy in mWh, confidence weight, and the sum and number of the mean
squared phase currents of its two readings (R168), for a reference. -/
structure Deposit where
  slot : Nat
  t : Nat
  e : Int
  w : Rat
  cur : List (Nat × List Nat)
  deriving DecidableEq, Repr

/-- A balance result (R177), with the terms in their integer forms. -/
structure BRes where
  node : Nat
  t : Nat
  rflags : Nat
  ncover : Nat
  yref : Int
  child : Int
  loss : Int
  resid : Int
  sigma : Nat
  cover : Nat
  z : Int
  gp : Nat
  gm : Nat
  revs : Nat
  deriving DecidableEq, Repr

/-- An interval in the learning buffer (R170): its end, x1, x2 and y. -/
structure BBuf where
  t : Nat
  x1 : Rat
  x2 : Rat
  y : Rat
  behind : Nat := 0
  deriving DecidableEq, Repr

/-- A suspect (R173): slot, reason, rho in 0.01, SIGS, fall of the mean in Wh. -/
structure Suspect where
  slot : Nat
  reason : Nat
  rho : Int
  sigs : Nat
  drop : Nat
  deriving DecidableEq, Repr

/-- A node (R159, R160, R168 to R173): its definition, the model held as binary64 values (rationals on the binary64 grid), the
detector (statistic, whether the side is raised, the run at 0 and the onset of each side), the buffer, the flags of its last
final result, its suspects, its final intervals with the residuals of those that have one, for localisation, and the device time of the
last command that changed it (R162). -/
structure BNode where
  h : Nat
  parent : Nat
  ref : Option Nat
  flags : Nat
  level : Nat
  a : Rat
  b : Rat
  p11 : Rat
  p12 : Rat
  p21 : Rat
  p22 : Rat
  s2 : Rat
  gp : Rat := 0
  gm : Rat := 0
  upP : Bool := false
  upM : Bool := false
  zeroP : Nat := 0
  zeroM : Nat := 0
  onP : Nat := 0
  onM : Nat := 0
  buf : List BBuf := []
  lastFlags : Nat := 0
  susp : List Suspect := []
  hist : List (Nat × Option Rat) := []
  clipDay : Option Nat := none
  since : Nat := 0
  gone : Bool := false
  deriving DecidableEq, Repr

/-- An open interval (R162, R175): its end and length in s, the membership it is balanced under (children with their node, and
references), and for each node that has one its provisional result's re-balances; the nodes already final. -/
structure BOpen where
  t : Nat
  len : Nat
  kids : List (Nat × Nat)
  refs : List (Nat × Nat)
  prov : List (Nat × Nat) := []
  fin : List Nat := []
  late : Bool := false
  deriving DecidableEq, Repr

/-- A committed reading that waits for the engine (R86): slot, the reading time of the slot's last reading that carried a total, the new
one, the commit time, the record's committed values and TAMPER as they stood before the commit (R174), and whether the slot is active. -/
structure BIn where
  slot : Nat
  prev : Option Nat
  rd : Reading
  ct : Nat
  last : LastC
  tamper : Nat
  active : Bool
  deriving DecidableEq, Repr

/-- A change of membership (R162) completed at device time `at_`: the slot whose membership ends, the slot whose begins, and its node. -/
structure BMove where
  old : Nat
  new : Nat
  node : Nat
  at_ : Nat
  deriving DecidableEq, Repr

/-- The balance engine: nodes, deposits, open intervals, the membership in force, readings that wait for the engine, results kept, localisations that wait, SIGS occurrences by time for localisation, the nodes of
removed or redefined topology that wait for the next instant; for each slot the bracketing gap in ns of its last interpolation
with the phase currents of the readings used (R164, R168); the device seconds of the start; the latest instants with every result final and provisional (R179). -/
structure BalSt where
  nodes : List BNode := []
  deps : List Deposit := []
  opens : List BOpen := []
  kids : List (Nat × Nat) := []
  refs : List (Nat × Nat) := []
  moves : List BMove := []
  inbox : List BIn := []
  ends : List (Nat × Nat × List (Nat × List Nat)) := []
  startSec : Nat := 0
  results : List BRes := []
  locq : List Nat := []
  sigLog : List (Nat × Nat) := []
  gasps : List (Nat × Nat) := []
  lastInst : Nat := 0
  finT : Nat := 0
  provT : Nat := 0
  deriving DecidableEq, Repr

/-! ## Distribution and curtailment (R180 to R201) -/

/-- A post table entry (R186), with the route of R187 and what R189 and R190 follow: the counter of the latest CURTAIL or RESUME,
whether it was a RESUME, whether its acknowledgement is awaited, the retries left, the elapsed time of the latest sending and of
the next refresh, whether that command was demoted (R208), and the post's PMAX (R193). -/
structure Post where
  slot : Nat
  ident : Nat
  dkv : Nat
  seed : Nat
  medium : Nat
  port : Nat
  addr : Bytes
  chan : Nat := 0
  saddr : Nat := 0
  nexthop : Nat := 0
  row : Nat := 0
  mode : Nat := 0
  dctr : Nat := 0
  dctrj : Nat := 0
  climit : Nat := 4294967295
  curt : Nat := 0
  groups : Nat := 0
  cmd : Option Nat := none
  resume : Bool := false
  left : Nat := 0
  sentAt : Nat := 0
  refAt : Nat := 0
  waits : Bool := false
  demoted : Bool := false
  pmax : Nat := 0
  deriving DecidableEq, Repr

/-- A tariff push in progress (R195): slot, image, further attempts left, elapsed time of the last sending. -/
structure Push where
  slot : Nat
  image : Bytes
  left : Nat
  at_ : Nat
  deriving DecidableEq, Repr

/-- A campaign (R196 to R200): its definition, the targets, state, the image once verified, multicast rounds run, the bits HAVE and
DONE as lists, for each target the blocks it reported missing and the first block to ask for, whether it has been armed, and the
activation instants (s) of the armed targets. -/
structure Camp where
  n : Nat
  tag : Nat
  size : Nat
  block : Nat
  version : Nat
  sha : Bytes
  ta : Nat
  targets : List Nat
  state : Nat := 1
  image : Bytes := []
  got : Bool := false
  rounds : Nat := 0
  have_ : List Nat := []
  done : List Nat := []
  miss : List (Nat × List Nat) := []
  ask : List (Nat × Nat) := []
  armed : Bool := false
  arms : List (Nat × Nat) := []
  deriving DecidableEq, Repr

/-- DIST: the post table, its mirror in the state store, entries whose mirror write waits, the resume queue with its tokens
(in W·ns), the elapsed time they were reckoned at, the post whose release is awaited with the elapsed time since which it is, when a change of
the budget found the tokens sufficient already, the time the first post entered and the
posts released, pushes and campaigns, and the event bodies that stage 8 has handed over (slot, stamp, payload). -/
structure DistSt where
  posts : List Post := []
  mirror : List Post := []
  mdue : List Nat := []
  rq : List Nat := []
  tokens : Nat := 0
  tokAt : Nat := 0
  curAt : Nat := 0
  fullAt : Option Nat := none
  cur : Option Nat := none
  rqFrom : Nat := 0
  rqOut : Nat := 0
  pushes : List Push := []
  camps : List Camp := []
  inbox : List (Nat × Nat × Bytes) := []
  deriving DecidableEq, Repr

/-! ## The power-line modem (R223 to R249) -/

/-- A member of a channel's PAN, with its entry in the route and neighbour store (R230, R232). `masksAt` is the elapsed time of
the peer's masks, `heard` whether a beacon came in the period that runs, `route` whether a route is held, `since` the elapsed time at
which the neighbour's beacon period began. -/
structure PlcNode where
  ch : Nat
  saddr : Nat
  slot : Nat
  ident : Nat
  link : LinkA
  masks : List Nat := []
  masksAt : Nat := 0
  heard : Bool := false
  nbr : Bool := false
  route : Bool := true
  finding : Bool := false
  cost : Nat := 255
  since : Nat := 0
  tmF : Nat := 0
  modF : Nat := 1
  tmR : Nat := 0
  modR : Nat := 1
  expiry : Nat := 0
  deriving DecidableEq, Repr

/-- What is captured at the end of a preamble (R27): device time with its fraction, the mains instant, whether it is valid, and elapsed time. -/
structure PlcStamp where
  dev : Nat
  frac : Nat
  mains : Nat
  valid : Bool
  clk : Nat
  deriving DecidableEq, Repr

/-- A datagram in reassembly (R233): channel, tag, sender, fragments wanted, parts held with their stamps, the first fragment's header and
SNR, and the elapsed time of the fragment that came first. -/
structure Reasm where
  ch : Nat
  tag : Nat
  saddr : Nat
  frags : Nat
  parts : List (Nat × Bytes × PlcStamp)
  mac : Bytes
  snr : Nat
  at_ : Nat
  deriving DecidableEq, Repr

/-- A frame that waits for a route (R247), from an elapsed time on. -/
structure NoRoute where
  ch : Nat
  dest : Nat
  pkt : EgPkt
  at_ : Nat
  deriving DecidableEq, Repr

/-- The SNR of a channel's carrier groups over one symbol of a frame that passed (R237, R242), with the hatch segment of its first sample and the
elapsed time. -/
structure SegSnr where
  ch : Nat
  seg : Nat
  at_ : Nat
  snr : List Int
  deriving DecidableEq, Repr

/-- The last frame that a phase sent (R225), in elapsed time: PLn_TXEN raised, the first preamble sample, the end of the last symbol. -/
structure PlcTx where
  rise : Nat
  t : Nat
  stop : Nat
  deriving DecidableEq, Repr

/-- The modem: members, datagrams in reassembly, frames without a route, the masks published per channel with their time, the
phases whose driver is at fault, the counts of the running discovery rounds (channel, found, not found), the band of each phase's
filter, the corrections of the last minute (key, elapsed time, value), the
calibrations requested (phase, elapsed time), the route discoveries that the rate holds back (channel, destination, elapsed time), and
the second that counts a channel's discoveries (channel, its begin, count); for each channel the sum of squares and the number of clear samples
of each of the last 16 symbol periods, the stipple mask, the samples given to the FFT and the decoder's soft values of the latest frame (R234 to R236), the level from
which gain control starts, the SNR measured, and the frames that the modem could not handle (R227); the last frame of each phase. -/
structure PlcSt where
  nodes : List PlcNode := []
  reasm : List Reasm := []
  waitR : List NoRoute := []
  masks : List (Nat × List Nat) := []
  masksAt : List (Nat × Nat) := []
  faultLow : List Nat := []
  found : List (Nat × Nat × Nat) := []
  bands : List (Nat × Nat) := []
  lastCal : List (Nat × Nat × Int) := []
  calReq : List (Nat × Nat) := []
  discQ : List (Nat × Nat × Nat) := []
  discW : List (Nat × Nat × Nat) := []
  rms : List (Nat × List (Nat × Nat)) := []
  stip : List (Nat × List (List Bool)) := []
  soft : List (Nat × List (List Int)) := []
  agc : List (Nat × Nat) := []
  snrs : List SegSnr := []
  unsup : List (Nat × Nat) := []
  fft : List (Nat × List (List Nat)) := []
  tx : List (Nat × PlcTx) := []
  deriving DecidableEq, Repr

/-! ## The sub-GHz radio (R250 to R274) -/

/-- A frame in the sleeper store (R267): slot, class, whether it is a Gucor acknowledgement, and the packet. -/
structure SleepF where
  slot : Nat
  ack : Bool
  pkt : EgPkt
  deriving DecidableEq, Repr

/-- A sleeper's attempt (R267, R269): slot, the window's begin and half-width in ns of device time, whether the frame has
started, and the elapsed end of the wait for a reply. -/
structure Attempt where
  slot : Nat
  begin_ : Nat
  half : Nat
  pkt : EgPkt
  sent : Bool := false
  replyEnd : Nat := 0
  deriving DecidableEq, Repr

/-- The last frame that the radio sent (R251, R252, R264), in elapsed time: RF_TRSW raised, the first chip, the end of the last; whether
RF_PAEN was raised with RF_TRSW, and the power at RF_TX in dBm. -/
structure RfTx where
  rise : Nat
  t : Nat
  stop : Nat
  pa : Bool
  pwr : Int
  deriving DecidableEq, Repr

/-- The radio: the limit table as loaded, the rows enabled, 61 accumulators of transmit time per row (latest first, in µs) with the
elapsed time of the running minute's start, the frame at the transmitter (packet, row, airtime in µs), where it stands (0 waits for
demodulators, 1 listens, 2 backs off, 3 deferred by dwell) with the elapsed time at which that ends, busy windows in a row, the end of
the frame being sent, the calibration requested, the sleeper store, the frames that wait for a place in it, the attempts, the frequency
offsets of the frames of the last 10 min, the corrections of the last minute (key, elapsed time, value), the last frame sent, and the elapsed time at which
the frame at the transmitter first stood there with the medium free. -/
structure RadioSt where
  table : Bytes := []
  rows : List Nat := []
  dwell : List (Nat × List Nat) := []
  minute : Nat := 0
  head : Option (EgPkt × Nat × Nat) := none
  phase : Nat := 0
  phaseEnd : Nat := 0
  busy : Nat := 0
  txEnd : Nat := 0
  calAt : Option Nat := none
  store : List SleepF := []
  waitSl : List SleepF := []
  tries : List Attempt := []
  offs : List (Nat × Int) := []
  lastCal : List (Nat × Nat × Int) := []
  tx : Option RfTx := none
  readyAt : Nat := 0
  deriving DecidableEq, Repr

/-! ## Keys and tamper (R309 to R337) -/

/-- A key cache entry with its tag (R317): label code, seed handle, import count, context, pinned, age. -/
structure CacheEnt where
  label : Nat
  seed : Nat
  imp : Nat
  ctx : Bytes
  pinned : Bool := false
  age : Nat := 0
  deriving DecidableEq, Repr

/-- A sealed key in the state store (R320, R323): the generation whose storage key seals it, and the key. -/
structure Sealed where
  gen : Nat
  key : Bytes
  deriving DecidableEq, Repr

/-- Keys and tamper beside their registers. `mirror` is the state-store copy of the latch (detector, device time in ns);
`clrGen` the generation of the clear-pending record; `gen` the generation of the fuses; `blown` CERT_MODE's fuse; `kcOk` the key
controller's self-test; `opkey` the operator's public key, empty while none is loaded; `flatBy` the writer of an injection that brought flat key mode; `derSec` and `derN` count the keys derived in
the running second; `gmks` the group master key of each receive channel; `katAt` the elapsed time of the engine's last self-test. -/
structure KeySt where
  seeds : List (Nat × Sealed) := []
  flat : Option Sealed := none
  cache : List CacheEnt := []
  age : Nat := 0
  mirror : Option (Nat × Nat) := none
  clrGen : Option Nat := none
  gen : Nat := 0
  blown : Bool := false
  kcOk : Bool := true
  opkey : Bytes := []
  flatBy : Option Port := none
  derSec : Nat := 0
  derN : Nat := 0
  gmks : List (Nat × Bytes) := []
  katAt : Nat := 0
  deriving DecidableEq, Repr

/-! ## Clocks, power and the start sequence (R432 to R456) -/

/-- Where the image loader stands (R434 to R436): the records still to apply, the offset of the first, and the WAIT in progress:
kind, address, mask, value and the elapsed end. -/
structure Loader where
  recs : List CfgRec
  offset : Nat
  wait : Option (Nat × Nat × Nat × Nat × Nat) := none
  deriving DecidableEq, Repr

/-- Clocks, power and start. `pgAt` is the elapsed time of power-good and `on` whether it has come; `env` what the start finds outside;
`fwuStart` a start from an activation or reversion. `low` has a bit for each rail really below its
warning level. `warnAt` and `relAt` are the supply warning's start and release, `held` whether 0x0105
was logged in this dip, `dipRails` the rails that were low in it, `dipBy` the writer of an injection that began it. `seqFrom` and `seqAt`
are the start and the last release of the sequencer's phase, `seqLeft` the spacings left, `seqN` its releases, `seqUs` the spacing in µs.
`inAon` and `inStore` are PWR_INRUSH (STEPA, STEPUS) in the always-on domain and the state store. `woken` are the domains woken by an
access with its elapsed time, `wakeBad` those that failed to run for an access that still waits, `noPll` those whose PLL is lost, `noImage` that no copy was valid, `lateLogged` that 0x0003 was, `ppsAt`
the last edge of PPS_IN, `c0Ready` the elapsed time of class 0 ready. `cfgAt` is the first read of the configuration memory and `cfgBig` the
longest copy read from it in bytes. -/
structure PwrSt where
  pgAt : Nat := 0
  on : Bool := false
  env : Option StartEnv := none
  fwuStart : Bool := false
  low : Nat := 0
  warnAt : Option Nat := none
  relAt : Option Nat := none
  held : Bool := false
  dipRails : Nat := 0
  dipBy : Option Port := none
  seqFrom : Nat := 0
  seqAt : Nat := 0
  seqLeft : Nat := 0
  seqN : Nat := 0
  seqUs : Nat := 100
  inAon : Option (Nat × Nat) := none
  inStore : Option (Nat × Nat) := none
  woken : List (Dom × Nat) := []
  wakeBad : List Dom := []
  noPll : List Dom := []
  loader : Option Loader := none
  imgWrites : Nat := 0
  noImage : Bool := false
  lateLogged : Bool := false
  ppsAt : Option Nat := none
  c0Ready : Nat := 0
  cfgAt : Nat := 0
  cfgBig : Nat := 0
  deriving DecidableEq, Repr

/-! ## Storage (R338 to R361) -/

/-- A secure discard request (R355 to R357): its slot of FTL_GSEL, sequence number, volume, state, the logical blocks it covers,
listed blocks not yet erased, elapsed time of acceptance, horizon, and whether 0x8021 was logged. -/
structure GReq where
  id : Nat
  num : Nat
  vol : Nat
  st : Nat
  size : Nat
  listed : Nat
  at_ : Nat
  horizon : Nat
  late : Bool := false
  deriving DecidableEq, Repr

/-- The flash translation layer beside its registers: volume sizes in GiB (R345), the elapsed time of the format, the array's raw
capacity in GiB with its cells, blocks and spare blocks (none until it is mounted), the write sequence, bytes written by the host and
to the NAND since the format, bytes of the stores that are durable, bytes in the buffer with the elapsed time of the last host write,
erases by block, blocks retired, secure discards not yet in a request (volume, blocks, elapsed time), the requests and the sequence
number of the next, volumes above WARN, bytes discarded early by volume, the figures of the last 30 days (day since format, host,
NAND, erases), the day of the last 0x8030, whether the FTL holds its writes in a supply warning (R353), reads by block since its last erase (R350), the
elapsed time at which the array's scrub pass began with the pages' blocks read in it (R351), the elapsed time of the last wear report (R359), and the
elapsed time at which the DRAM's patrol pass began with the bytes read in it (R341). -/
structure FtlSt where
  sizes : List Nat := []
  formatAt : Option Nat := none
  raw : Nat := 0
  qlc : Bool := false
  blocks : Nat := 0
  spare : Nat := 0
  rated : Nat := 0
  seq : Nat := 0
  host : Nat := 0
  nand : Nat := 0
  seen : Nat := 0
  buffer : Nat := 0
  wrAt : Nat := 0
  pe : List (Nat × Nat) := []
  bad : List Nat := []
  discards : List (Nat × Nat × Nat) := []
  greqs : List GReq := []
  gnum : Nat := 0
  warned : List Nat := []
  early : List (Nat × Nat) := []
  days : List (Nat × Nat × Nat × Nat) := []
  lifeDay : Option Nat := none
  held : Bool := false
  reads : List (Nat × Nat) := []
  scrubAt : Nat := 0
  scrubN : Nat := 0
  wearAt : Nat := 0
  patrolAt : Nat := 0
  patrolN : Nat := 0
  deriving DecidableEq, Repr

/-! ## Firmware (R383 to R402) -/

/-- A part of a bank: its kind (ASCII), version, image, and whether it came from ROM. -/
structure FwPart where
  kind : Nat
  ver : Nat
  image : Bytes
  rom : Bool := false
  deriving DecidableEq, Repr

/-- An entry of a manifest (R387). -/
structure ManEnt where
  kind : Nat
  form : Nat
  ver : Nat
  size : Nat
  tsize : Nat
  ihash : Bytes
  bhash : Bytes
  deriving DecidableEq, Repr

/-- A manifest in progress (R386). -/
structure Man where
  mseq : Nat
  act : Nat
  group : Nat
  ents : List ManEnt
  deriving DecidableEq, Repr

/-- The update agent: the two banks, the manifest in progress with its state (FWU_STATUS.STATE) and the images staged by index, the
approved list (R390), the last MSEQ accepted, the activation record (R385), the next activation or candidate instant (s), whether its
preparation has run (R397 step 1), the manifest key, the Burin engines that ran before the activation, the outcome of the last
manifest, whether the die awaits its restart (R397 step 3), and kind and cause of a revert whose restart runs (R400). -/
structure FwuSt where
  bank0 : List FwPart := []
  bank1 : List FwPart := []
  man : Option Man := none
  st : Nat := 0
  staged : List (Nat × Bytes) := []
  approved : List Bytes := []
  mseq : Nat := 0
  actcnt : Nat := 0
  confcnt : Nat := 0
  tries : Nat := 0
  cand : Nat := 0
  prepared : Bool := false
  mkey : Bytes := []
  engines : Nat := 0
  result : Nat := 0
  rom : Bool := false
  halted : Bool := false
  reverted : Option (Nat × Nat) := none
  deriving DecidableEq, Repr

/-! ## The legal display (R403 to R423) -/

/-- A running pass (R409): its span, the common being driven, whether the bias settle runs, its row time in µs and whether it
draws the pump. -/
structure Pass where
  first : Nat
  last : Nat
  row : Nat
  settle : Bool
  rowt : Nat
  pump : Bool
  at_ : Nat
  deriving DecidableEq, Repr

/-- A common as it is driven (R410, R411): the common, whether the positive half of each phase comes first, its 25 B of pixels, and the
width of each segment's pulses in 1/64. -/
structure RowOut where
  row : Nat
  posFirst : Bool
  pix : Bytes
  width : List Nat
  deriving DecidableEq, Repr

/-- The display engine and the plate (R412): header fields and buffers as the state store holds them; the pass, the span that the
engine starts over when the running common completes (R414), the common being driven and the levels of the last pass (R404, the bias divisor b
and the numerators of V0 to V5 over it), the pending span, the span of a pass deferred for temperature or VHV
with the elapsed time of the last measurement, the span held by a supply warning, the pass that a supply warning stopped, the
elapsed end of the last pass while the drive supplies are up; the banner to be shown; the key queue and the screen's selections
(post, handle digits, cursor, 64 digits shown, record shown, elapsed time of the last press); the uniformity map; the step of a
restoration (0 none, 1 banner pass, 2 full pass); whether DISP_VHV is at least 17 V; the 25 B last driven on each common; what the
last write of DISP_PLATE copied. -/
structure DispSt where
  seq : Nat := 0
  cur : Nat := 0
  pflags : Nat := 0
  introw : Nat := 0
  pfirst : Nat := 0
  plast : Nat := 0
  banner : Nat := 0
  frame : Nat := 0
  img0 : Bytes := []
  img1 : Bytes := []
  pass : Option Pass := none
  out : Option RowOut := none
  taps : Nat × List Nat := (7, [])
  again : Option (Nat × Nat) := none
  pend : Option (Nat × Nat) := none
  deferred : Option (Nat × Nat) := none
  coldAt : Nat := 0
  held : Option (Nat × Nat) := none
  stopped : Option Pass := none
  endAt : Option Nat := none
  due : Nat := 0
  keys : List Nat := []
  post : Option Nat := none
  digits : List Nat := [0, 0, 0, 0, 0]
  cursor : Nat := 0
  full : Bool := false
  shown : Option Nat := none
  keyAt : Nat := 0
  map : Bytes := []
  restoring : Nat := 0
  vhv : Bool := false
  glass : List (Nat × Bytes) := []
  plated : Bytes := []
  deriving DecidableEq, Repr

/-! ## Injection (R457 to R469) -/

/-- The fault block beside its registers: the writer of the running injection, the occurrences fired, whether one is held with
the elapsed time of its end, the elapsed end of the gap between two held ones, whether one waits for its event or for the end of a supply
warning; what a reset ended (DET,
occurrences fired, PATHOK, writer); the elapsed times of the requested runs, the next engine of the Burin run and whether one failed. -/
structure FaultSt where
  org : Port := .none
  fired : Nat := 0
  holdEnd : Option Nat := none
  gapEnd : Option Nat := none
  armed : Bool := false
  waits : Bool := false
  ended : Option (Nat × Nat × Nat × Port) := none
  resetBy : Option Port := none
  burinAt : Option Nat := none
  keyAt : Option Nat := none
  engine : Nat := 0
  failed : Bool := false
  deriving DecidableEq, Repr

/-- The whole state. `pending` is the queue of commands that wait, first in, first out. `free` counts the free values
drawn (the model's own field). -/
structure State where
  pending : List Instr := []
  free : Nat := 0
  reg : RegSt := {}
  ev : EvSt := {}
  port : PortSt := {}
  time : TimeSt := {}
  mains : MainsSt := {}
  pipe : PipeSt := {}
  meter : MeterSt := {}
  leg : LegSt := {}
  bal : BalSt := {}
  dist : DistSt := {}
  plc : PlcSt := {}
  radio : RadioSt := {}
  key : KeySt := {}
  pwr : PwrSt := {}
  ftl : FtlSt := {}
  fwu : FwuSt := {}
  disp : DispSt := {}
  fault : FaultSt := {}
  deriving DecidableEq, Repr

/-- The proof area of a new unit (R382): the record that initialised the recorder at manufacture, SEQ 0, with code 0x8046 and
agent 17. Its device time is not stated; 0 stands for it. -/
def Rec.first : Rec := ⟨0, 0, 0x8046, 17 * 128, 0, []⟩

/-- The part right after power-on reset, as manufactured: every register at its reset value, nothing stored but the recorder's
first record, no command waiting. -/
def State.reset : State := { ev := { proof := [Rec.first], roll := [Rec.first] } }

end Sys2Proof.Machine
end

