-- ==== Sys2Proof/Machine/Ops.lean ====
section
/-! DEFINITION. The shared operations: sparse tables, fields, elapsed and device time, events, egress queues, responses. -/

namespace Sys2Proof.Machine

/-- What a meaning answers. -/
abbrev Out := Host.Outcome State Fault Refusal

/-! ## Sparse tables -/

/-- The value at a key of a table. -/
def lookupK {α : Type} (k : Nat) : List (Nat × α) → Option α
  | [] => none
  | (j, v) :: t => if k = j then some v else lookupK k t

/-- A table with a key set; the keys stay in rising order. -/
def insertK {α : Type} (k : Nat) (v : α) : List (Nat × α) → List (Nat × α)
  | [] => [(k, v)]
  | (j, w) :: t =>
    if k < j then (k, v) :: (j, w) :: t
    else if k = j then (k, v) :: t
    else (j, w) :: insertK k v t

/-- A table without a key. -/
def eraseK {α : Type} (k : Nat) (l : List (Nat × α)) : List (Nat × α) :=
  l.filter (fun e => e.1 != k)

/-- A table keeps its keys strictly rising. -/
def risingKeys {α : Type} : List (Nat × α) → Bool
  | [] => true
  | [_] => true
  | (j, _) :: (k, w) :: t => decide (j < k) && risingKeys ((k, w) :: t)

/-- An element put before the first that it does not follow. -/
def insBy {α : Type} (le : α → α → Bool) (a : α) : List α → List α
  | [] => [a]
  | b :: t => if le a b then a :: b :: t else b :: insBy le a t

/-- A list in order. -/
def sortBy {α : Type} (le : α → α → Bool) (l : List α) : List α := l.foldr (insBy le) []

/-- A list without repeats: the first of equal elements stays. -/
def uniq : List Nat → List Nat
  | [] => []
  | a :: t => a :: (uniq t).filter (fun b => b != a)

/-! ## Bytes and numbers -/

/-- `n` bytes of a number, most significant first (R6, on a wire). -/
def be : Nat → Nat → Bytes
  | 0, _ => []
  | n + 1, x => BitVec.ofNat 8 (x / 256 ^ n) :: be n x

/-- `n` bytes of a number, least significant first (R6, in a store). -/
def le : Nat → Nat → Bytes
  | 0, _ => []
  | n + 1, x => BitVec.ofNat 8 x :: le n (x / 256)

/-- The number that bytes spell, most significant first. -/
def ofBe (b : Bytes) : Nat := b.foldl (fun a x => a * 256 + x.toNat) 0

/-- The number that bytes spell, least significant first. -/
def ofLe (b : Bytes) : Nat := b.foldr (fun x a => x.toNat + 256 * a) 0

/-- `n` bytes from an offset. -/
def sub (b : Bytes) (o n : Nat) : Bytes := (b.drop o).take n

/-- The field of `n` bytes at an offset, most significant first. -/
def beAt (b : Bytes) (o n : Nat) : Nat := ofBe (sub b o n)

/-- The two's complement of an integer in `n` bytes. -/
def tc (n : Nat) (i : Int) : Nat := (i % (256 ^ n : Nat)).toNat

/-- The integer that `n` bytes of two's complement stand for. -/
def ofTc (n x : Nat) : Int := if x * 2 < 256 ^ n then x else (x : Int) - (256 ^ n : Nat)

/-- Zero bytes. -/
def zeros (n : Nat) : Bytes := List.replicate n 0

/-- Bytes padded with zeros, or cut, to a length. -/
def fit (n : Nat) (b : Bytes) : Bytes := (b ++ zeros (n - b.length)).take n

/-- A bit of a number. -/
def bit (x n : Nat) : Bool := x.testBit n

/-- A Boolean as a field value. -/
def b2n (b : Bool) : Nat := if b then 1 else 0

/-- A number with a bit set or cleared. -/
def setBit (x n : Nat) (b : Bool) : Nat :=
  if b then (if bit x n then x else x + 2 ^ n) else (if bit x n then x - 2 ^ n else x)

/-- The largest value of a 32-bit counter. -/
def max32 : Nat := 4294967295

/-- Nanoseconds in a second. -/
def nsS : Nat := 1000000000

/-! ## Fields (R8) -/

/-- The sparse store with a field set: an entry at its reset value is not listed. -/
def putField (k r v : Nat) (l : List FVal) : List FVal :=
  if v = r then eraseK k l else insertK k v l

/-- The value of instance `i` of a field. -/
def State.geti (s : State) (f : Fld) (i : Nat) : Nat :=
  (lookupK (f.key i) s.reg.fields).getD (f.resetAt i)

/-- The value of a field. -/
def State.get (s : State) (f : Fld) : Nat := s.geti f 0

/-- A one-bit field as a Boolean. -/
def State.on (s : State) (f : Fld) : Bool := s.get f != 0

/-- Instance `i` of a field set to a value of its width. An instance that the register does not have is not written (R9). -/
def State.seti (s : State) (f : Fld) (i v : Nat) : State :=
  { s with reg := { s.reg with
      fields := if i < f.cnt then putField (f.key i) (f.resetAt i) (v % 2 ^ f.w) s.reg.fields else s.reg.fields } }

/-- A field set. -/
def State.set (s : State) (f : Fld) (v : Nat) : State := s.seti f 0 v

/-- A saturating counter increased. -/
def State.inci (s : State) (f : Fld) (i n : Nat) : State :=
  s.seti f i (min (2 ^ f.w - 1) (s.geti f i + n))

/-- A saturating counter increased by one. -/
def State.inc (s : State) (f : Fld) : State := s.inci f 0 1

/-! ## Ports and roles (R275, R363) -/

/-- The port code of ORIGIN. -/
def portCode : Port → Nat
  | .none => 0 | .uplink0 => 1 | .uplink1 => 2 | .service => 3 | .seal => 4
  | .config => 5 | .sd => 6 | .plc => 7 | .radio => 8 | .t1s => 9

/-- The role bound to a port, as coded in PORT_ROLE. The configuration memory's role has no code there and reads 0. -/
def State.role (s : State) : Port → Nat
  | .none => 0
  | .uplink0 => s.get F.PORT_ROLE_UPL0
  | .uplink1 => s.get F.PORT_ROLE_UPL1
  | .service => s.get F.PORT_ROLE_SVC
  | .seal => s.get F.PORT_ROLE_SEAL
  | .config => 0
  | .sd => s.get F.PORT_ROLE_SD
  | .plc => s.get F.PORT_ROLE_PLC
  | .radio => s.get F.PORT_ROLE_RADIO
  | .t1s => s.get F.PORT_ROLE_T1S

/-- Restricted mode (R277). -/
def State.restricted (s : State) : Bool := s.get F.PORT_STATUS_CAUSES != 0

/-- The role bound to an egress port's kind (R217, R275). -/
def State.egRole (s : State) (p : Nat) : Nat :=
  if p = 0 then s.role .uplink0 else if p = 1 then s.role .uplink1 else if p < 10 then s.role .t1s
  else if p < 13 then s.role .plc else s.role .radio

/-- The clock domain of an egress port's medium (R442). -/
def mediumDom (p : Nat) : Dom := if p < 2 then .UPL else if p < 10 then .T1S else if p < 13 then .PLC else .RF

/-- Whether a port sends and receives at all: a port bound to NONE does neither (R275), in restricted mode the downstream media
do neither (R277), from an activation instant to the restart no new frame starts and frames that arrive are lost (R397), and a domain
whose PLL lost lock is held stopped (R446). -/
def State.live (s : State) (p : Nat) : Bool :=
  s.egRole p != 0 && (decide (p < 2) || !s.restricted) && !s.fwu.halted && !s.pwr.noPll.contains (mediumDom p)

/-- Where an event comes from (R363). -/
structure Org where
  port : Port := .none
  agent : Nat := 0
  inj : Bool := false
  deriving DecidableEq, Repr

/-- An internal agent's origin. -/
def Org.ag (n : Nat) : Org := { agent := n }

/-- ORIGIN as a number, without HELD (R363). What an injection causes names the injection's writer and agent 20 (R465). -/
def State.origin (s : State) (o : Org) : Nat :=
  match s.ev.mark with
  | some p => portCode p + 16 * s.role p + 128 * 20 + 32768
  | none => portCode o.port + 16 * s.role o.port + 128 * o.agent + (if o.inj then 32768 else 0)

/-! ## Time that passes -/

/-- The servo's rate correction in ppm (R32, R41): it never exceeds TIME_SLEWMAX, whatever that holds now. -/
def State.ppm (s : State) : Int :=
  let m : Int := s.get F.TIME_SLEWMAX_PPM
  max (-m) (min m s.time.rate)

/-- The rate of a slew in ppm (R36): TIME_SLEWMAX in the slew's direction. -/
def State.slewPpm (s : State) : Int :=
  if s.time.slew < 0 then -(s.get F.TIME_SLEWMAX_PPM : Int) else s.get F.TIME_SLEWMAX_PPM

/-- Elapsed ns until a slew is complete: the first at which device time has taken all of it (R36). -/
def State.slewEnd (s : State) : Nat :=
  let m : Int := s.get F.TIME_SLEWMAX_PPM
  if 0 < s.time.slew then ((s.time.slew * 1000000 - s.time.acc + m - 1) / m).toNat
  else if s.time.slew < 0 then ((s.time.acc - (s.time.slew + 1) * 1000000) / m + 1).toNat
  else 0

/-- `d` ns of elapsed time at one rate in ppm: device time with the fraction that is left over. -/
def TimeSt.run (x : TimeSt) (d : Nat) (ppm : Int) : TimeSt :=
  let y : Int := d * ppm + x.acc
  { x with clk := x.clk + d, dev := ((x.dev : Int) + d + y / 1000000).toNat, acc := y % 1000000 }

/-- The second at which PPS_OUT last rose (R446), once device time stands at an instant: it rises as each whole second is crossed. -/
def State.ppsAfter (s : State) (dev : Nat) : Option Nat :=
  if s.on F.CLK_IO_PPSOUT ∧ dev / nsS ≠ s.time.dev / nsS then some (dev / nsS) else s.time.pps

/-- `d` ns of elapsed time pass: device time runs at the slew's rate while a slew lasts, which takes its part of it, and else at the
servo's (R32, R36, R41). -/
def State.adv (s : State) (d : Nat) : State :=
  let n := s.slewEnd
  let x := if s.time.slew = 0 then s.time.run d s.ppm
    else if d < n then
      let x := s.time.run d s.slewPpm
      { x with slew := s.time.slew - ((x.dev : Int) - s.time.dev - d) }
    else { (s.time.run n s.slewPpm).run (d - n) s.ppm with slew := 0 }
  { s with time := { x with pps := s.ppsAfter x.dev } }

/-- Elapsed time runs on to an instant, if it lies ahead. -/
def State.advTo (s : State) (t : Nat) : State := s.adv (t - s.time.clk)

/-- Elapsed ns until device time has gained `r` ns at a rate: the fraction carried counts. -/
def gainTime (r : Nat) (ppm acc : Int) : Nat := ((r * 1000000 - acc + (1000000 + ppm) - 1) / (1000000 + ppm)).toNat

/-- Elapsed ns until device time reaches an instant (R25, R36, R41). -/
def State.untilDev (s : State) (t : Nat) : Nat :=
  let r := t - s.time.dev
  if s.time.slew = 0 then gainTime r s.ppm s.time.acc
  else
    let n := s.slewEnd
    let d := gainTime r s.slewPpm s.time.acc
    if d < n then d
    else
      let x := s.time.run n s.slewPpm
      n + gainTime (t - x.dev) s.ppm x.acc

/-- Device time runs on to an instant, if it lies ahead, for as much elapsed time as it takes. What the last ns carries beyond the
instant stays in the fraction. -/
def State.advDev (s : State) (t : Nat) : State :=
  if t ≤ s.time.dev then s
  else
    let s' := s.adv (s.untilDev t)
    { s' with time := { s'.time with dev := t, pps := s.ppsAfter t, acc := s'.time.acc + ((s'.time.dev : Int) - t) * 1000000 } }

/-- Device seconds. -/
def State.secs (s : State) : Nat := s.time.dev / nsS

/-- Device nanoseconds within the second. -/
def State.nanos (s : State) : Nat := s.time.dev % nsS

/-- A time value on a wire (R26). -/
def timeBytes (t : Nat) : Bytes := be 8 (t / nsS) ++ be 4 (t % nsS)

/-! ## Free values -/

/-- The next free number, and the state that has drawn it. -/
def State.draw (s : State) : Nat × State := (Config.freeVal s.free, { s with free := s.free + 1 })

/-- The next free integer, and the state that has drawn it. -/
def State.drawInt (s : State) : Int × State := (Config.freeInt s.free, { s with free := s.free + 1 })

/-- `n` free bytes, and the state that has drawn them. -/
def State.drawBytes (s : State) (n : Nat) : Bytes × State :=
  (fit n (Config.freeBytes s.free n), { s with free := s.free + 1 })

/-! ## Egress queues (R217 to R220) -/

/-- The size in 64-bit words of a queue block (R217). -/
def queueWords (id : Nat) : Nat :=
  if id = 0 then 32768 else if id = 1 then 65536 else if id = 2 then 32768 else if id = 3 then 393216
  else if id = 4 then 393216 else if id = 5 then 2048
  else if id < 14 then (match (id - 6) % 4 with | 0 => 1024 | 3 => 4096 | _ => 2048)
  else if id < 70 then (match (id - 14) % 4 with | 0 => 2048 | 3 => 2048 | _ => 1024)
  else 1024

/-- The words a packet of `n` payload bytes takes (R213). -/
def pktWords (n : Nat) : Nat := 1 + (n + 7) / 8

/-- Whether a packet leaves an uplink protected (R280, R281). -/
def EgBody.prot : EgBody → Bool
  | .hcp _ _ b _ => b
  | .mpkt _ => false
  | _ => true

/-- The payload bytes that a packet takes of its queue (R213): the frame without FCS, and on an uplink without what MACsec adds. -/
def EgPkt.size (p : EgPkt) : Nat :=
  match p.body with
  | .hcp _ _ b _ => p.len - (if b then 36 else 4)
  | .ptp _ _ => p.len - 36
  | .ip _ _ => p.len - 36
  | _ => p.len

/-- The words in use of a list of packets. -/
def pktsWords (l : List EgPkt) : Nat := (l.map (fun p => pktWords p.size)).sum

/-- The egress queue of an identifier. -/
def State.egq (s : State) (id : Nat) : EgQ :=
  (s.port.egress.find? (fun q => q.id == id)).getD { id := id }

/-- The egress queue of an identifier replaced. -/
def State.setEgq (s : State) (q : EgQ) : State :=
  { s with port := { s.port with egress := q :: s.port.egress.filter (fun x => x.id != q.id) } }

/-- The bytes of a DRAM ring (R219). -/
def ringBytes (cls : Nat) : Nat := if cls = 2 then 8388608 else 67108864

/-- What becomes of a class-3 packet at a full queue and ring (R220): its producer waits, or drops it. -/
inductive FullAct where
  | wait | drop
  deriving DecidableEq, Repr

/-- A packet offered to the egress queue of a port in its class, where `lg` logs an event: taken, spilled, held back or
dropped (R210, R219, R220). -/
def enqWith (lg : State → Nat → List (Nat × Nat) → State) (p : Nat) (pk : EgPkt) (full : FullAct) (s : State) : State :=
  let id := 14 + 4 * p + pk.cls
  let q := s.egq id
  let pk := if q.q.isEmpty then { pk with headT := s.time.clk } else pk
  let n := queueWords id
  let used := pktsWords q.q
  let fits := decide (used + pktWords 1536 ≤ n)
  if pk.cls = 0 then
    if fits then s.setEgq { q with q := q.q ++ [pk] }
    else lg (s.inc F.QOS_C0DROP) 0x5102 [(1, id)]
  else if pk.cls = 1 then
    if fits && q.wait.isEmpty then s.setEgq { q with q := q.q ++ [pk] } else s.setEgq { q with wait := q.wait ++ [pk] }
  else
    let wm := if pk.cls = 2 then s.get F.QOS_EGWM_WM2 else s.get F.QOS_EGWM_WM3
    let high := decide (used * 100 > wm * n)
    let dram := s.on F.SYS_STATUS_FULLREADY
    if q.ring.isEmpty && q.wait.isEmpty && fits && (!high || !dram) then s.setEgq { q with q := q.q ++ [pk] }
    else if dram && q.wait.isEmpty && decide ((q.ring.map (fun x => x.len + 8)).sum + pk.len + 8 ≤ ringBytes pk.cls) then
      let s1 := s.setEgq { q with ring := q.ring ++ [pk], spilled := q.spilled + 1 }
      if q.ring.isEmpty then lg s1 0x5105 [(1, id)] else s1
    else if pk.cls = 2 then s.inc F.QOS_DROP2
    else match full with
      | .wait => s.setEgq { q with wait := q.wait ++ [pk] }
      | .drop => s.inc F.QOS_DROP3

/-! ## Events (R362 to R377, R493) -/

/-- A payload (R364): fields in order, without gaps; a last field that does not fit keeps its low-order bytes. -/
def payloadOf : Nat → List (Nat × Nat) → Bytes
  | room, [] => zeros room
  | room, (n, v) :: t => if n ≤ room then be n v ++ payloadOf (room - n) t else be room v

/-- A payload as a store holds it (R6, R364): each field least significant byte first. -/
def payloadLe : Nat → List (Nat × Nat) → Bytes
  | room, [] => zeros room
  | room, (n, v) :: t => if n ≤ room then le n v ++ payloadLe (room - n) t else le room v

/-- A record's bytes on a wire (R362). -/
def Rec.wire (r : Rec) : Bytes :=
  be 8 r.secs ++ be 4 r.ns ++ be 2 r.code ++ be 2 r.origin ++ be 4 r.seq ++ payloadOf 12 r.fl

/-- The codes that are never rate limited (R373). -/
def neverLimited (c : Nat) : Bool :=
  (decide (0x3000 ≤ c) && decide (c ≤ 0x3FFF)) || (decide (0x7001 ≤ c) && decide (c ≤ 0x700F)) ||
  (decide (0x8040 ≤ c) && decide (c ≤ 0x804F)) || (decide (0xC000 ≤ c) && decide (c ≤ 0xCFFF))

/-- The override entry of a code (R372, R494): depth and period. -/
def rateEntry (code : Nat) : Nat → Bytes → Option (Nat × Nat)
  | 0, _ => none
  | n + 1, b =>
    if b.length < 8 then none
    else if beAt b 0 2 = code ∧ beAt b 2 1 ≠ 0 then some (beAt b 2 1, beAt b 4 2)
    else rateEntry code n (b.drop 8)

/-- Depth and period of a code's bucket (R372). -/
def State.bucketOf (s : State) (code : Nat) : Nat × Nat :=
  (rateEntry code 256 s.reg.rateTab).getD (s.get F.EVREC_RATE_DEPTH, s.get F.EVREC_RATE_PERIOD)

/-- The bucket of a code as it stands. -/
def State.bucket (s : State) (code : Nat) : Bucket :=
  (s.ev.buckets.find? (fun b => b.code == code)).getD ⟨code, 0, 0, 0, s.time.clk⟩

/-- A bucket put back; a full bucket with nothing to report has no entry. -/
def State.setBucket (s : State) (b : Bucket) : State :=
  let rest := s.ev.buckets.filter (fun x => x.code != b.code)
  { s with ev := { s.ev with buckets := if b.missing = 0 ∧ b.supp = 0 then rest else b :: rest } }

/-- A record written into the areas (R367 to R369). -/
def State.store (s : State) (r : Rec) : State :=
  { s with ev := { s.ev with
      proof := if s.ev.proof.length < 8192 ∧ r.seq = s.ev.proof.length then s.ev.proof ++ [r] else s.ev.proof
      roll := if s.ev.roll.length < 65536 then s.ev.roll ++ [r] else s.ev.roll.drop 1 ++ [r]
      long := if s.on F.EVREC_CTRL_LONG_EN then s.ev.long ++ [r] else s.ev.long } }

/-- How long SVC_TXD takes for one copy: 33 B of 10 bits at the rate of PORT_UART.BAUD (R290). -/
def State.uartTime (s : State) : Nat :=
  let b := s.get F.PORT_UART_BAUD
  330 * nsS / (if b = 0 then 115200 else if b = 1 then 460800 else 921600)

/-- The UART copy of a record (R290): it waits until the copies before it have left the line; a full queue drops it. -/
def State.uartCopy (s : State) (r : Rec) : State :=
  if s.on F.PORT_UART_EN then
    let waiting := s.ev.uart.filter (fun x => decide (s.time.clk < x.1))
    if waiting.length < Config.uartDepth then
      let start := waiting.foldl (fun a x => max a x.1) s.time.clk
      { s with ev := { s.ev with uart := waiting ++ [(start + s.uartTime, r)] } }
    else { s with ev := { s.ev with uart := waiting, uartDrop := s.ev.uartDrop + 1 } }
  else s

/-- A record taken from the intake queue (R366, R375): into the holding queue during a freeze, else into the areas. -/
def State.fileRec (s : State) (r : Rec) : State :=
  if s.ev.freeze.isSome then { s with ev := { s.ev with hold := s.ev.hold ++ [r] } } else s.store r

/-- The records that may still stand in the intake queue: one leaves it within 2 µs (R366). -/
def State.backlog (s : State) : Nat := s.ev.intake - (s.time.clk - s.ev.inAt) / 2000

/-- A record enters the intake queue of 256 (R366). -/
def State.intakeIn (s : State) : State :=
  { s with ev := { s.ev with
      intake := min 256 (s.backlog + 1)
      inAt := if s.backlog = 0 then s.time.clk else s.ev.inAt + (s.time.clk - s.ev.inAt) / 2000 * 2000 } }

/-- Why an event that comes now would be lost (R377), if it would: 0 the holding queue full, 1 the intake queue full. -/
def State.noRoom (s : State) : Option Nat :=
  if s.ev.freeze.isSome ∧ 1024 ≤ s.ev.hold.length then some 0
  else if 256 ≤ s.backlog ∧ Config.intakeFull s.ev.total = true then some 1
  else none

/-- The record of a lost record that closes (R377). -/
def LostRec.toRec (l : LostRec) (org : Nat) : Rec :=
  ⟨l.secs, l.ns, 0x8041, org, l.seq, [(4, l.cnt), (4, l.last), (1, l.cause), (1, 0), (2, 0)]⟩

/-- The HELD bit of ORIGIN during a freeze (R363, R375). -/
def State.heldBit (s : State) : Nat := if s.ev.freeze.isSome then 8192 else 0

/-- The open lost record closes where the queues have room again (R377); what became a record. -/
def State.closeLost (s : State) : State × List Rec :=
  match s.ev.lost, s.noRoom with
  | some l, none =>
    let r := l.toRec (s.origin (.ag 17) + s.heldBit)
    ((({ s with ev := { s.ev with lost := none } } : State).fileRec r).uartCopy r, [r])
  | _, _ => (s, [])

/-- An event lost (R377): the first opens the lost record, which takes the next SEQ; each further one counts in it. -/
def State.lose (s : State) (cause : Nat) : State :=
  let s1 := s.inc F.EVREC_LOST
  match s1.ev.lost with
  | none => { s1 with ev := { s1.ev with total := s1.ev.total + 1
                                         lost := some ⟨s1.ev.total % 4294967296, s.secs, s.nanos, 1, s.secs, cause⟩ } }
  | some l => { s1 with ev := { s1.ev with lost := some { l with cnt := l.cnt + 1, last := s.secs } } }

/-- An accepted event takes the next SEQ and becomes a record (R365, R366), or is lost (R377); what became a record, a lost record that
closes first. -/
def State.accept (s : State) (code : Nat) (fl : List (Nat × Nat)) (org : Nat) : State × List Rec :=
  match s.noRoom with
  | some cause => (s.lose cause, [])
  | none =>
    let x := s.closeLost
    let s1 := x.1
    let r : Rec := ⟨s.secs, s.nanos, code, org + s.heldBit, s1.ev.total % 4294967296, fl⟩
    let s2 : State := { s1.intakeIn with ev := { s1.intakeIn.ev with total := s1.ev.total + 1 } }
    ((s2.fileRec r).uartCopy r, x.2 ++ [r])

/-- An HCP frame (R292). -/
def hcpFrame (type cls flags code reqid : Nat) (ref : Bytes) (status : Nat) (body : Bytes) : Bytes :=
  be 2 0x4843 ++ be 1 1 ++ be 1 type ++ be 1 cls ++ be 1 flags ++ be 2 code ++ be 4 reqid ++ be 1 ref.length ++ be 1 0 ++
  be 2 status ++ ref ++ body

/-- The length on an uplink of a frame with a UDP payload (R298): destination address to FCS, SecTAG and ICV included. -/
def uplinkLen (prot : Bool) (payload : Nat) : Nat := (if prot then 98 else 66) + payload

/-- The ns that bytes take on a medium at a rate in bit/s. -/
def wireNs (rate bytes : Nat) : Nat := (bytes * 8 * nsS + rate - 1) / max 1 rate

/-- A verify (0) or respond (1) frame placed on an uplink (R211): below MACsec and the queues. -/
def State.mpacket (s : State) (u kind : Nat) : State :=
  { s with port := { s.port with out := insertK u { cls := 3, len := 64, body := .mpkt kind, sent := some (s.time.dev, 0) } s.port.out } }

/-- A source raised for EVT_N (R366). -/
def State.raiseSrc (s : State) (n : Nat) : State := { s with ev := { s.ev with raised := setBit s.ev.raised n true } }

/-- A notification of the subscription's uplink (R300): numbered, kept for its acknowledgement and queued. -/
def notifyWith (lg : State → Nat → List (Nat × Nat) → State) (code cls : Nat) (body : Bytes) (s : State) : State :=
  match s.port.sub with
  | none => s
  | some b =>
    let seq := if b.up = 0 then s.port.nseq0 + 1 else s.port.nseq1 + 1
    let fr := hcpFrame 2 cls 0 code (seq % 4294967296) [] 0 body
    let s1 : State := { s with port := { s.port with
      nseq0 := if b.up = 0 then seq else s.port.nseq0
      nseq1 := if b.up = 0 then s.port.nseq1 else seq
      notifs := s.port.notifs ++ [⟨b.up, code, seq, s.get F.PORT_HCP_NRETRY, cls, fr, s.time.clk⟩] } }
    enqWith lg b.up { cls := cls, len := uplinkLen true fr.length, body := .hcp b.src b.sport true fr } .wait s1

/-- The time in which a code's bucket gains one token (R372). -/
def State.perToken (s : State) (code : Nat) : Nat := (s.bucketOf code).2 * 1000000

/-- The tokens that a bucket has gained by now (R372). -/
def State.gained (s : State) (code : Nat) : Nat := (s.time.clk - (s.bucket code).since) / s.perToken code

/-- The tokens gained so far put into a code's bucket; the first of them is spent on the summary record of the events suppressed,
where there are any (R372, R374). What became a record. -/
def State.settle (s : State) (code : Nat) : State × List Rec :=
  let b := s.bucket code
  let n := s.gained code
  if n = 0 then (s, [])
  else
    let since := b.since + n * s.perToken code
    if b.supp = 0 then (s.setBucket { b with missing := b.missing - n, since := since }, [])
    else (s.setBucket { b with missing := b.missing - (n - 1), supp := 0, first := 0, since := since }).accept 0x8040
      [(2, code), (2, 0), (4, b.supp), (4, b.first)] (s.origin (.ag 17))

/-- One event at a bucket (R372, R374): the token is taken, or the event is suppressed and counted. -/
def State.draws (s : State) (code : Nat) : State × Bool :=
  let b := s.bucket code
  if b.missing < (s.bucketOf code).1 then (s.setBucket { b with missing := b.missing + 1 }, true)
  else ((s.setBucket { b with supp := b.supp + 1, first := if b.supp = 0 then s.secs else b.first }).inc F.EVREC_SUPP, false)

/-- The rate limit's decision (R372 to R374): the state with the token taken or the event counted, whether the event passes, and the
summary record that came before it. -/
def State.token (s : State) (code : Nat) : State × Bool × List Rec :=
  if s.on F.EVREC_CTRL_RATE_EN && !neverLimited code then
    let x := s.settle code
    let y := x.1.draws code
    (y.1, y.2, x.2)
  else (s, true, [])

/-- The source of a record raised, where its code has one (R366). -/
def State.raiseFor (s : State) (r : Rec) : State :=
  match eventSource r.code with
  | some n => s.raiseSrc n
  | none => s

/-- An event logged without a notification: rate limit, record, source (R366). It gives the records that came of it. -/
def State.logRec (s : State) (code : Nat) (fl : List (Nat × Nat)) (org : Nat) : State × List Rec :=
  let y := s.token code
  let x := if y.2.1 then y.1.accept code fl org else (y.1, [])
  ((y.2.2 ++ x.2).foldl State.raiseFor x.1, y.2.2 ++ x.2)

/-- The end of the proof area (R367): once its last record is written, event 0x8044. -/
def proofWith (lg : State → Nat → List (Nat × Nat) → State) (s : State) : State :=
  if s.ev.proof.length = 8192 ∧ ¬ s.on F.EVREC_STATUS_PROOFFULL then lg (s.set F.EVREC_STATUS_PROOFFULL 1) 0x8044 [] else s

/-- The EVENT notification of a record whose source is subscribed (R300). -/
def tellWith (lg : State → Nat → List (Nat × Nat) → State) (s : State) (r : Rec) : State :=
  match eventSource r.code, s.port.sub with
  | some n, some b =>
    if bit b.mask n && bit b.kinds 0 then notifyWith lg 0x8001 (if 0x3000 ≤ r.code ∧ r.code ≤ 0x3FFF then 1 else 3) r.wire s else s
  | _, _ => s

/-- An event logged, with the notifications of R300 to a given depth: an event that the sending of a notification raises is
itself logged at the depth below. -/
def logD : Nat → Org → State → Nat → List (Nat × Nat) → State
  | 0, o, s, code, fl => (s.logRec code fl (s.origin o)).1
  | d + 1, o, s, code, fl =>
    let x := s.logRec code fl (s.origin o)
    proofWith (logD d (.ag 17)) (x.2.foldl (tellWith (logD d (.ag 9))) x.1)

/-- What follows records that came into being outside the logging of an event (R366, R367): sources, notifications, the end of the proof
area. -/
def State.announce (s : State) (rs : List Rec) : State :=
  proofWith (logD 2 (.ag 17)) (rs.foldl (tellWith (logD 2 (.ag 9))) (rs.foldl State.raiseFor s))

/-- An event logged (R366). The payload is a list of sizes and values. -/
def State.log (s : State) (code : Nat) (fl : List (Nat × Nat)) (o : Org) : State := logD 2 o s code fl

/-- A packet offered to an egress port. -/
def State.enq (s : State) (p : Nat) (pk : EgPkt) (full : FullAct) : State :=
  enqWith (logD 2 (.ag 9)) p pk full s

/-- A notification of a kind (R300): sent only where the subscription names the kind. -/
def State.notify (s : State) (kind code cls : Nat) (body : Bytes) : State :=
  match s.port.sub with
  | some b => if bit b.kinds kind then notifyWith (logD 2 (.ag 9)) code cls body s else s
  | none => s

/-- The open window of an event and key (R493). -/
def State.win (s : State) (code key : Nat) : Option LogWin :=
  s.ev.wins.find? (fun w => w.code == code && w.key == key && decide (s.time.clk < w.endAt))

/-- The windows with one opened. -/
def State.openWin (s : State) (w : LogWin) : State :=
  { s with ev := { s.ev with wins := w :: s.ev.wins.filter (fun x => !(x.code == w.code && x.key == w.key)) } }

/-- An event limited to once in a period (R493): logged at the occurrence that opens its window. -/
def State.logOnce (s : State) (code key period : Nat) (fl : List (Nat × Nat)) (o : Org) : State :=
  match s.win code key with
  | some _ => s
  | none => (s.openWin ⟨code, key, s.time.clk + period, false, 1, o.agent⟩).log code fl o

/-- The payload of a counting event at the end of its window: the key by the event's own fields, then the count. -/
def countPayload (code key n : Nat) : List (Nat × Nat) :=
  if code = 0x2003 ∨ code = 0x5101 ∨ code = 0x7011 then [(1, key), (4, n)]
  else [(4, n)]

/-- A window is over (R493): a counting event is logged with every occurrence within it. -/
def State.windowOver (s : State) (code key : Nat) : State :=
  match s.ev.wins.find? (fun w => w.code == code && w.key == key) with
  | none => s
  | some w =>
    let s1 : State := { s with ev := { s.ev with wins := s.ev.wins.filter (fun x => !(x.code == code && x.key == key)) } }
    if w.counting then s1.log code (countPayload code key w.cnt) (.ag w.agent) else s1

/-- An event with a count of occurrences (R493): counted in its window, and logged when the window ends; a window that ended before is
over first. -/
def State.logCount (s : State) (code key period n : Nat) (o : Org) : State :=
  match s.win code key with
  | some w => s.openWin { w with cnt := w.cnt + n }
  | none => (s.windowOver code key).openWin ⟨code, key, s.time.clk + period, true, n, o.agent⟩

/-! ## Words read from a queue block (R216) -/

/-- Packets taken from a queue block: its pointers move on (R212). -/
def State.took (s : State) (id words pkts : Nat) : State :=
  let q := (s.port.qctr.find? (fun x => x.id == id)).getD ⟨id, 0, 0⟩
  { s with port := { s.port with qctr := ⟨id, q.words + words, q.pkts + pkts⟩ :: s.port.qctr.filter (fun x => x.id != id) } }

/-- What the check of a packet finds. -/
inductive Found where
  | fine | discard | flush
  deriving DecidableEq, Repr

/-- A queue of class 0 (R217). -/
def class0Queue (id : Nat) : Bool :=
  id == 0 || id == 5 || id == 6 || id == 10 || (decide (14 ≤ id) && decide (id < 70) && (id - 14) % 4 == 0)

/-- C0FAULT set from a finding until 100 µs after it (R216), in a class-0 queue, the post table (94) or a pinned key entry (95). -/
def State.c0Finding (s : State) (id : Nat) : State :=
  let s1 := (s.set F.QOS_STATUS_C0FAULT 1).inc F.QOS_C0FAULTS
  { s1 with port := { s1.port with c0Fault := some (s.time.clk + 100000), memBad := insertK id s.time.clk s1.port.memBad } }

/-- What an injection by a writer causes (R465): every event within is marked. -/
def State.marked (s : State) (w : Port) (f : State → State) : State :=
  let s1 := f { s with ev := { s.ev with mark := some w } }
  { s1 with ev := { s1.ev with mark := s.ev.mark } }

/-- What an injection may have caused, where it did. -/
def State.markedIf (s : State) (w : Option Port) (f : State → State) : State :=
  match w with
  | some p => s.marked p f
  | none => f s

/-- An event logged as the effect of an injection by a writer (R465). -/
def State.logMarked (s : State) (w : Port) (code : Nat) (fl : List (Nat × Nat)) (o : Org) : State := s.marked w (fun x => x.log code fl o)

/-- The counts of a queue block. -/
def State.ctr (s : State) (id : Nat) : QCtr := (s.port.qctr.find? (fun x => x.id == id)).getD ⟨id, 0, 0⟩

/-- A length word (R214): PSEQ counts the packets committed, this one included. -/
def lengthWord (n cls : Nat) (outprof inj : Bool) (pseq : Nat) : Nat :=
  n + 65536 + 2 ^ 32 * cls + 2 ^ 34 * b2n outprof + 2 ^ 35 * b2n inj + 2 ^ 48 * (pseq % 65536)

/-- The largest packet M of a queue block (R217). -/
def queueMax (id : Nat) : Nat := if id = 5 then 256 else if id = 4 ∨ 70 ≤ id then 1024 else 1536

/-- The check of a length word as it is read (R216): MARK, LEN and PSEQ. -/
def lengthGood (w m pseq : Nat) : Bool :=
  w / 65536 % 65536 == 1 && decide (0 < w % 65536) && decide (w % 65536 ≤ m) && w / 2 ^ 48 % 65536 == pseq % 65536

/-- A queue flushed (R216): RDPTR goes to WRPTR past every packet that stood in it. -/
def State.qFlush (s : State) (id : Nat) (lens : List Nat) (by_ : Option Port) : State :=
  let words := (lens.map pktWords).sum
  let s1 := (({ s with port := { s.port with poison := s.port.poison.filter (fun x => x.id != id) } } : State).inci F.QOS_QCE_UNCORR id
    1).took id words lens.length
  let s2 := if class0Queue id then s1.c0Finding id else s1
  s2.markedIf by_ (fun x => x.log 0x5104 [(1, id), (4, words)] (.ag 9))

/-- The oldest packet of a queue block taken, with the check of its words and what R216 does on a finding. `lens` are the lengths of the
packets that the block holds, oldest first. RDPTR advances past the packet, or on a flush to WRPTR. -/
def State.qTake (s : State) (id : Nat) (lens : List Nat) : State × Found :=
  match lens with
  | [] => (s, .fine)
  | n :: _ =>
    if !lengthGood (lengthWord n 0 false false ((s.ctr id).pkts + 1)) (queueMax id) ((s.ctr id).pkts + 1) then
      (s.qFlush id lens none, .flush)
    else
      match s.port.poison.find? (fun p => p.id == id && p.ahead == 0) with
      | none =>
        (({ s with port := { s.port with poison := s.port.poison.map (fun x =>
          if x.id = id then { x with ahead := x.ahead - 1 } else x) } } : State).took id (pktWords n) 1, .fine)
      | some p =>
        let later := (s.port.poison.erase p).map (fun x => if x.id = id then { x with ahead := x.ahead - 1 } else x)
        let s1 : State := { s with port := { s.port with poison := later } }
        if p.kind = 0 then ((s1.inci F.QOS_QCE_CORR id 1).took id (pktWords n) 1, .fine)
        else if p.kind = 1 then
          let s2 := (s1.inci F.QOS_QCE_UNCORR id 1).took id (pktWords n) 1
          (if class0Queue id then s2.c0Finding id else s2, .discard)
        else (s1.qFlush id lens (some p.org), .flush)

/-! ## Responses (R292 to R299) -/

/-- The status codes of R299. -/
def stOK : Nat := 0
def stBADFRAME : Nat := 0x10
def stBADCLASS : Nat := 0x11
def stROLE : Nat := 0x12
def stRESTRICTED : Nat := 0x13
def stRETRY : Nat := 0x14
def stBUSY : Nat := 0x15
def stBADRANGE : Nat := 0x16
def stLOCKED : Nat := 0x17
def stBADSTATE : Nat := 0x20
def stNOSLOT : Nat := 0x21
def stDIRFULL : Nat := 0x22
def stBADTOPO : Nat := 0x23
def stBADCAL : Nat := 0x24
def stBADTIME : Nat := 0x25
def stNOTACTIVE : Nat := 0x26
def stNOTCURT : Nat := 0x27
def stNOTFOUND : Nat := 0x28
def stBADXFER : Nat := 0x29
def stBADHASH : Nat := 0x2A
def stBADKEY : Nat := 0x2B

/-- The store of kept responses that a port uses (R294). -/
def keptStore : Port → Nat
  | .uplink0 => 0
  | .uplink1 => 1
  | _ => 2

/-- A kept response put into its store, the oldest discarded beyond the limit (R294). -/
def State.keep (s : State) (k : Kept) : State :=
  let lim := if k.store = 2 then 64 else 4096
  let mine := s.port.kept.filter (fun x => x.store == k.store)
  let rest := s.port.kept.filter (fun x => x.store != k.store)
  { s with port := { s.port with kept := rest ++ (mine ++ [k]).drop (mine.length + 1 - lim) } }

/-- A frame answered at the port where its request arrived (R292, R289). -/
def State.sendResp (s : State) (r : Req) (fr : Bytes) (pair : Bool) : State :=
  match r.port with
  | .uplink0 | .uplink1 =>
    let u := if r.port = .uplink0 then 0 else 1
    let cls := if r.outprof then 1 else r.cls
    s.enq u { cls := cls, outprof := r.outprof, len := uplinkLen r.prot fr.length, body := .hcp r.src r.sport r.prot fr
              pairT := if pair && cls == 0 then some (s.port.c0At.getD (s.time.clk, 0, 0)) else none } .wait
  | .seal =>
    let q := s.port.sealOut ++ [fr]
    { s with port := { s.port with sealOut := q.drop (q.length - 16) } }
  | _ => s

/-- A request answered with a status and a body: the response is sent and, unless the status is RETRY, kept (R292, R294). -/
def State.respond (s : State) (r : Req) (code status : Nat) (body : Bytes) : State :=
  let fr := hcpFrame 1 r.cls (b2n r.outprof) code r.reqid r.ref status body
  let s1 := s.sendResp r fr true
  if status = stRETRY then s1
  else s1.keep ⟨keptStore r.port, if r.port = .seal then 0 else r.src, if r.port = .seal then 0 else r.sport, r.reqid,
    r.cls, fr, r.prot, s.time.clk⟩

/-- The kept response that a request's key matches (R294). -/
def State.keptFor (s : State) (r : Req) : Option Kept :=
  s.port.kept.find? (fun k => k.store == keptStore r.port && k.reqid == r.reqid &&
    (k.store == 2 || (k.src == r.src && k.sport == r.sport)) &&
    decide (s.time.clk < k.at_ + s.get F.PORT_HCP_CACHES * nsS))

/-! ## What every command leaves (R42, R277, R313, R430) -/

/-- The strobe groups with a pending shadow (R430). -/
def pendMask (l : List Shadow) : Nat :=
  (List.range 16).foldl (fun m g => if l.any (fun x => x.sg == g) then m + 2 ^ g else m) 0

/-- The foremost cause of restricted mode (R277). -/
def foremost (causes : Nat) : Nat :=
  if bit causes 0 then 1 else if bit causes 1 then 2 else if bit causes 2 then 3 else 0

/-- The status fields that the manual ties to other state, drawn from it after every command: TIME_STATUS.TRUSTED (R42),
PORT_STATUS and SYS_STATUS.RESTRICTED (R277), KEY_STATUS.GENLEFT (R313), SYS_PEND (R430). -/
def State.mirror (s : State) : State :=
  let s := s.set F.TIME_STATUS_TRUSTED (b2n (s.get F.TIME_STATUS_STATE == 2))
  let s := s.set F.PORT_STATUS_CAUSE (foremost (s.get F.PORT_STATUS_CAUSES))
  let s := s.set F.PORT_STATUS_RESTRICTED (b2n s.restricted)
  let s := s.set F.SYS_STATUS_RESTRICTED (b2n s.restricted)
  let s := s.set F.KEY_STATUS_GENLEFT (15 - s.get F.KEY_STATUS_GEN)
  s.set F.SYS_PEND_GROUPS (pendMask s.reg.shadows)

/-- A command's outcome: the next state, with the status fields drawn. -/
def ok (s : State) : Out := .next s.mirror

end Sys2Proof.Machine
end

