-- ==== Sys2Proof/Machine/Civil.lean ====
section
/-! DEFINITION. Civil dates of the proleptic Gregorian calendar, for UTC and local time (R43, R136 to R141, R148). -/

namespace Sys2Proof.Machine

/-- Days from 1970-01-01 to a date. -/
def daysOf (y m d : Nat) : Nat :=
  let y' := if m ≤ 2 then y - 1 else y
  let era := y' / 400
  let yoe := y' % 400
  let doy := (153 * (if m > 2 then m - 3 else m + 9) + 2) / 5 + d - 1
  era * 146097 + (yoe * 365 + yoe / 4 - yoe / 100 + doy) - 719468

/-- The date of a day counted from 1970-01-01: year, month, day. -/
def dateOf (n : Nat) : Nat × Nat × Nat :=
  let z := n + 719468
  let era := z / 146097
  let doe := z % 146097
  let yoe := (doe - doe / 1460 + doe / 36524 - doe / 146096) / 365
  let doy := doe - (365 * yoe + yoe / 4 - yoe / 100)
  let mp := (5 * doy + 2) / 153
  let d := doy - (153 * mp + 2) / 5 + 1
  let m := if mp < 10 then mp + 3 else mp - 9
  (yoe + era * 400 + (if m ≤ 2 then 1 else 0), m, d)

/-- The weekday of a day, 1 Monday to 7 Sunday (1970-01-01 was a Thursday). -/
def wdayOf (n : Nat) : Nat := (n + 3) % 7 + 1

/-- A leap year. -/
def isLeap (y : Nat) : Bool := (y % 4 == 0 && y % 100 != 0) || y % 400 == 0

/-- The days of a month. -/
def monthDays (y m : Nat) : Nat :=
  if m = 2 then (if isLeap y then 29 else 28) else if m = 4 ∨ m = 6 ∨ m = 9 ∨ m = 11 then 30 else 31

/-- The first day of the month after a date. -/
def nextMonth (y m : Nat) : Nat := if m = 12 then daysOf (y + 1) 1 1 else daysOf y (m + 1) 1

end Sys2Proof.Machine
end

