-- ==== Sys2Proof/Machine/Crypto.lean ====
section
/-! DEFINITION. The cryptographic functions of the standards that the manual names: SHA-2, HMAC and the KDF of R311,
SipHash-2-4 (R100), CRC-32C (R113, R124), AES with GCM, CBC, CMAC and key wrap (R63, R72, R320), the curves of R62, R76 and
R312. They are the standards' functions; the manual states no more of them than their names (PRESUMED). -/

namespace Sys2Proof.Machine

/-! ## SHA-2 -/

/-- The round constants of SHA-256 (FIPS 180-4). -/
def sha256K : List (BitVec 32) :=
  [0x428a2f98, 0x71374491, 0xb5c0fbcf, 0xe9b5dba5, 0x3956c25b, 0x59f111f1, 0x923f82a4, 0xab1c5ed5] ++
  [0xd807aa98, 0x12835b01, 0x243185be, 0x550c7dc3, 0x72be5d74, 0x80deb1fe, 0x9bdc06a7, 0xc19bf174] ++
  [0xe49b69c1, 0xefbe4786, 0x0fc19dc6, 0x240ca1cc, 0x2de92c6f, 0x4a7484aa, 0x5cb0a9dc, 0x76f988da] ++
  [0x983e5152, 0xa831c66d, 0xb00327c8, 0xbf597fc7, 0xc6e00bf3, 0xd5a79147, 0x06ca6351, 0x14292967] ++
  [0x27b70a85, 0x2e1b2138, 0x4d2c6dfc, 0x53380d13, 0x650a7354, 0x766a0abb, 0x81c2c92e, 0x92722c85] ++
  [0xa2bfe8a1, 0xa81a664b, 0xc24b8b70, 0xc76c51a3, 0xd192e819, 0xd6990624, 0xf40e3585, 0x106aa070] ++
  [0x19a4c116, 0x1e376c08, 0x2748774c, 0x34b0bcb5, 0x391c0cb3, 0x4ed8aa4a, 0x5b9cca4f, 0x682e6ff3] ++
  [0x748f82ee, 0x78a5636f, 0x84c87814, 0x8cc70208, 0x90befffa, 0xa4506ceb, 0xbef9a3f7, 0xc67178f2]

/-- The round constants of SHA-384 and SHA-512 (FIPS 180-4). -/
def sha512K : List (BitVec 64) :=
  [0x428a2f98d728ae22, 0x7137449123ef65cd, 0xb5c0fbcfec4d3b2f, 0xe9b5dba58189dbbc] ++
  [0x3956c25bf348b538, 0x59f111f1b605d019, 0x923f82a4af194f9b, 0xab1c5ed5da6d8118] ++
  [0xd807aa98a3030242, 0x12835b0145706fbe, 0x243185be4ee4b28c, 0x550c7dc3d5ffb4e2] ++
  [0x72be5d74f27b896f, 0x80deb1fe3b1696b1, 0x9bdc06a725c71235, 0xc19bf174cf692694] ++
  [0xe49b69c19ef14ad2, 0xefbe4786384f25e3, 0x0fc19dc68b8cd5b5, 0x240ca1cc77ac9c65] ++
  [0x2de92c6f592b0275, 0x4a7484aa6ea6e483, 0x5cb0a9dcbd41fbd4, 0x76f988da831153b5] ++
  [0x983e5152ee66dfab, 0xa831c66d2db43210, 0xb00327c898fb213f, 0xbf597fc7beef0ee4] ++
  [0xc6e00bf33da88fc2, 0xd5a79147930aa725, 0x06ca6351e003826f, 0x142929670a0e6e70] ++
  [0x27b70a8546d22ffc, 0x2e1b21385c26c926, 0x4d2c6dfc5ac42aed, 0x53380d139d95b3df] ++
  [0x650a73548baf63de, 0x766a0abb3c77b2a8, 0x81c2c92e47edaee6, 0x92722c851482353b] ++
  [0xa2bfe8a14cf10364, 0xa81a664bbc423001, 0xc24b8b70d0f89791, 0xc76c51a30654be30] ++
  [0xd192e819d6ef5218, 0xd69906245565a910, 0xf40e35855771202a, 0x106aa07032bbd1b8] ++
  [0x19a4c116b8d2d0c8, 0x1e376c085141ab53, 0x2748774cdf8eeb99, 0x34b0bcb5e19b48a8] ++
  [0x391c0cb3c5c95a63, 0x4ed8aa4ae3418acb, 0x5b9cca4f7763e373, 0x682e6ff3d6b2b8a3] ++
  [0x748f82ee5defb2fc, 0x78a5636f43172f60, 0x84c87814a1f0ab72, 0x8cc702081a6439ec] ++
  [0x90befffa23631e28, 0xa4506cebde82bde9, 0xbef9a3f7b2c67915, 0xc67178f2e372532b] ++
  [0xca273eceea26619c, 0xd186b8c721c0c207, 0xeada7dd6cde0eb1e, 0xf57d4f7fee6ed178] ++
  [0x06f067aa72176fba, 0x0a637dc5a2c898a6, 0x113f9804bef90dae, 0x1b710b35131c471b] ++
  [0x28db77f523047d84, 0x32caab7b40c72493, 0x3c9ebe0a15c9bebc, 0x431d67c49c100d4c] ++
  [0x4cc5d4becb3e42b6, 0x597f299cfc657e2a, 0x5fcb6fab3ad6faec, 0x6c44198c4a475817]

/-- The initial value of SHA-256. -/
def sha256H : List (BitVec 32) :=
  [0x6a09e667, 0xbb67ae85, 0x3c6ef372, 0xa54ff53a, 0x510e527f, 0x9b05688c, 0x1f83d9ab, 0x5be0cd19]

/-- The initial value of SHA-512. -/
def sha512H : List (BitVec 64) :=
  [0x6a09e667f3bcc908, 0xbb67ae8584caa73b, 0x3c6ef372fe94f82b, 0xa54ff53a5f1d36f1] ++
  [0x510e527fade682d1, 0x9b05688c2b3e6c1f, 0x1f83d9abfb41bd6b, 0x5be0cd19137e2179]

/-- The initial value of SHA-384. -/
def sha384H : List (BitVec 64) :=
  [0xcbbb9d5dc1059ed8, 0x629a292a367cd507, 0x9159015a3070dd17, 0x152fecd8f70e5939] ++
  [0x67332667ffc00b31, 0x8eb44a8768581511, 0xdb0c2e0d64f98fa7, 0x47b5481dbefa4fa4]

/-- The padded message of SHA-2 with blocks of `blk` bytes and a length field of `lf` bytes. -/
def shaPad (blk lf : Nat) (m : Bytes) : Bytes :=
  let z := (blk - (m.length + 1 + lf) % blk) % blk
  m ++ [0x80] ++ zeros z ++ be lf (8 * m.length)

/-- Chunks of `n` bytes, by fuel. -/
def chunks (n : Nat) : Nat → Bytes → List Bytes
  | 0, _ => []
  | f + 1, b => if b.isEmpty then [] else b.take n :: chunks n f (b.drop n)

/-- The message schedule, newest word first. -/
def shaSched {w : Nat} (s0 s1 : BitVec w → BitVec w) : Nat → List (BitVec w) → List (BitVec w)
  | 0, l => l
  | n + 1, l => shaSched s0 s1 n ((s1 (l.getD 1 0) + l.getD 6 0 + s0 (l.getD 14 0) + l.getD 15 0) :: l)

/-- One block of SHA-2. -/
def shaBlock {w : Nat} (b0 b1 : BitVec w → BitVec w) (ks ws h : List (BitVec w)) : List (BitVec w) :=
  let r := (ks.zip ws).foldl (fun (v : List (BitVec w)) kw =>
    match v with
    | [a, b, c, d, e, f, g, hh] =>
      let t1 := hh + b1 e + ((e &&& f) ^^^ (~~~e &&& g)) + kw.1 + kw.2
      let t2 := b0 a + ((a &&& b) ^^^ (a &&& c) ^^^ (b &&& c))
      [t1 + t2, a, b, c, d + t1, e, f, g]
    | _ => v) h
  (h.zip r).map (fun p => p.1 + p.2)

/-- SHA-256. -/
def sha256 (m : Bytes) : Bytes :=
  let bs := chunks 64 (m.length / 64 + 2) (shaPad 64 8 m)
  let s0 := fun (x : BitVec 32) => x.rotateRight 7 ^^^ x.rotateRight 18 ^^^ (x >>> 3)
  let s1 := fun (x : BitVec 32) => x.rotateRight 17 ^^^ x.rotateRight 19 ^^^ (x >>> 10)
  let b0 := fun (x : BitVec 32) => x.rotateRight 2 ^^^ x.rotateRight 13 ^^^ x.rotateRight 22
  let b1 := fun (x : BitVec 32) => x.rotateRight 6 ^^^ x.rotateRight 11 ^^^ x.rotateRight 25
  let h := bs.foldl (fun h b =>
    let ws := (chunks 4 16 b).map (fun c => BitVec.ofNat 32 (ofBe c))
    shaBlock b0 b1 sha256K (shaSched s0 s1 48 ws.reverse).reverse h) sha256H
  (h.map (fun x => be 4 x.toNat)).flatten

/-- SHA-384 or SHA-512, by initial value. -/
def sha512With (h0 : List (BitVec 64)) (m : Bytes) : Bytes :=
  let bs := chunks 128 (m.length / 128 + 2) (shaPad 128 16 m)
  let s0 := fun (x : BitVec 64) => x.rotateRight 1 ^^^ x.rotateRight 8 ^^^ (x >>> 7)
  let s1 := fun (x : BitVec 64) => x.rotateRight 19 ^^^ x.rotateRight 61 ^^^ (x >>> 6)
  let b0 := fun (x : BitVec 64) => x.rotateRight 28 ^^^ x.rotateRight 34 ^^^ x.rotateRight 39
  let b1 := fun (x : BitVec 64) => x.rotateRight 14 ^^^ x.rotateRight 18 ^^^ x.rotateRight 41
  let h := bs.foldl (fun h b =>
    let ws := (chunks 8 16 b).map (fun c => BitVec.ofNat 64 (ofBe c))
    shaBlock b0 b1 sha512K (shaSched s0 s1 64 ws.reverse).reverse h) h0
  (h.map (fun x => be 8 x.toNat)).flatten

/-- SHA-512. -/
def sha512 (m : Bytes) : Bytes := sha512With sha512H m

/-- SHA-384. -/
def sha384 (m : Bytes) : Bytes := (sha512With sha384H m).take 48

/-! ## HMAC and the KDF of R311 -/

/-- HMAC-SHA-256. -/
def hmac256 (k m : Bytes) : Bytes :=
  let k0 := fit 64 (if k.length > 64 then sha256 k else k)
  sha256 (k0.map (fun x => x ^^^ 0x5c) ++ sha256 (k0.map (fun x => x ^^^ 0x36) ++ m))

/-- The ASCII bytes of a label. -/
def ascii (l : String) : Bytes := l.toList.map (fun c => BitVec.ofNat 8 c.toNat)

/-- KDF(K, label, context, L) of R311, with L in bits. -/
def kdf (k : Bytes) (label : String) (ctx : Bytes) (bits : Nat) : Bytes :=
  let n := (bits + 255) / 256
  ((List.range n).map (fun i => hmac256 k (be 4 (i + 1) ++ ascii label ++ [0] ++ ctx ++ be 4 bits))).flatten.take (bits / 8)

/-! ## SipHash-2-4 and CRC-32C -/

/-- One SipRound. -/
def sipRound (v : BitVec 64 × BitVec 64 × BitVec 64 × BitVec 64) : BitVec 64 × BitVec 64 × BitVec 64 × BitVec 64 :=
  let (a, b, c, d) := v
  let a := a + b
  let b := b.rotateLeft 13 ^^^ a
  let a := a.rotateLeft 32
  let c := c + d
  let d := d.rotateLeft 16 ^^^ c
  let a := a + d
  let d := d.rotateLeft 21 ^^^ a
  let c := c + b
  let b := b.rotateLeft 17 ^^^ c
  let c := c.rotateLeft 32
  (a, b, c, d)

/-- SipHash-2-4 of an 8-byte message (R100). -/
def sipHash8 (k m : Bytes) : Nat :=
  let k0 := BitVec.ofNat 64 (ofLe (sub k 0 8))
  let k1 := BitVec.ofNat 64 (ofLe (sub k 8 8))
  let one := fun (v : BitVec 64 × BitVec 64 × BitVec 64 × BitVec 64) (w : BitVec 64) =>
    let (a, b, c, d) := sipRound (sipRound (v.1, v.2.1, v.2.2.1, v.2.2.2 ^^^ w))
    (a ^^^ w, b, c, d)
  let v := (k0 ^^^ 0x736f6d6570736575, k1 ^^^ 0x646f72616e646f6d, k0 ^^^ 0x6c7967656e657261, k1 ^^^ 0x7465646279746573)
  let v := one (one v (BitVec.ofNat 64 (ofLe m))) 0x0800000000000000
  let (a, b, c, d) := sipRound (sipRound (sipRound (sipRound (v.1, v.2.1, v.2.2.1 ^^^ 0xff, v.2.2.2))))
  (a ^^^ b ^^^ c ^^^ d).toNat

/-- CRC-32C. -/
def crc32c (m : Bytes) : Nat :=
  let step := fun (c : BitVec 32) => if c.getLsbD 0 then (c >>> 1) ^^^ 0x82f63b78 else c >>> 1
  let f := m.foldl (fun (c : BitVec 32) x => (List.range 8).foldl (fun c _ => step c) (c ^^^ x.zeroExtend 32)) 0xffffffff
  (f ^^^ 0xffffffff).toNat

/-! ## AES -/

/-- The S-box of AES (FIPS 197). -/
def aesSbox : List Nat :=
  [0x63, 0x7c, 0x77, 0x7b, 0xf2, 0x6b, 0x6f, 0xc5, 0x30, 0x01, 0x67, 0x2b, 0xfe, 0xd7, 0xab, 0x76] ++
  [0xca, 0x82, 0xc9, 0x7d, 0xfa, 0x59, 0x47, 0xf0, 0xad, 0xd4, 0xa2, 0xaf, 0x9c, 0xa4, 0x72, 0xc0] ++
  [0xb7, 0xfd, 0x93, 0x26, 0x36, 0x3f, 0xf7, 0xcc, 0x34, 0xa5, 0xe5, 0xf1, 0x71, 0xd8, 0x31, 0x15] ++
  [0x04, 0xc7, 0x23, 0xc3, 0x18, 0x96, 0x05, 0x9a, 0x07, 0x12, 0x80, 0xe2, 0xeb, 0x27, 0xb2, 0x75] ++
  [0x09, 0x83, 0x2c, 0x1a, 0x1b, 0x6e, 0x5a, 0xa0, 0x52, 0x3b, 0xd6, 0xb3, 0x29, 0xe3, 0x2f, 0x84] ++
  [0x53, 0xd1, 0x00, 0xed, 0x20, 0xfc, 0xb1, 0x5b, 0x6a, 0xcb, 0xbe, 0x39, 0x4a, 0x4c, 0x58, 0xcf] ++
  [0xd0, 0xef, 0xaa, 0xfb, 0x43, 0x4d, 0x33, 0x85, 0x45, 0xf9, 0x02, 0x7f, 0x50, 0x3c, 0x9f, 0xa8] ++
  [0x51, 0xa3, 0x40, 0x8f, 0x92, 0x9d, 0x38, 0xf5, 0xbc, 0xb6, 0xda, 0x21, 0x10, 0xff, 0xf3, 0xd2] ++
  [0xcd, 0x0c, 0x13, 0xec, 0x5f, 0x97, 0x44, 0x17, 0xc4, 0xa7, 0x7e, 0x3d, 0x64, 0x5d, 0x19, 0x73] ++
  [0x60, 0x81, 0x4f, 0xdc, 0x22, 0x2a, 0x90, 0x88, 0x46, 0xee, 0xb8, 0x14, 0xde, 0x5e, 0x0b, 0xdb] ++
  [0xe0, 0x32, 0x3a, 0x0a, 0x49, 0x06, 0x24, 0x5c, 0xc2, 0xd3, 0xac, 0x62, 0x91, 0x95, 0xe4, 0x79] ++
  [0xe7, 0xc8, 0x37, 0x6d, 0x8d, 0xd5, 0x4e, 0xa9, 0x6c, 0x56, 0xf4, 0xea, 0x65, 0x7a, 0xae, 0x08] ++
  [0xba, 0x78, 0x25, 0x2e, 0x1c, 0xa6, 0xb4, 0xc6, 0xe8, 0xdd, 0x74, 0x1f, 0x4b, 0xbd, 0x8b, 0x8a] ++
  [0x70, 0x3e, 0xb5, 0x66, 0x48, 0x03, 0xf6, 0x0e, 0x61, 0x35, 0x57, 0xb9, 0x86, 0xc1, 0x1d, 0x9e] ++
  [0xe1, 0xf8, 0x98, 0x11, 0x69, 0xd9, 0x8e, 0x94, 0x9b, 0x1e, 0x87, 0xe9, 0xce, 0x55, 0x28, 0xdf] ++
  [0x8c, 0xa1, 0x89, 0x0d, 0xbf, 0xe6, 0x42, 0x68, 0x41, 0x99, 0x2d, 0x0f, 0xb0, 0x54, 0xbb, 0x16]

/-- The S-box applied. -/
def subByte (x : Byte) : Byte := BitVec.ofNat 8 (aesSbox.getD x.toNat 0)

/-- The inverse S-box applied. -/
def invSubByte (x : Byte) : Byte := BitVec.ofNat 8 (aesSbox.findIdx (fun y => y == x.toNat))

/-- Multiplication by x in the AES field. -/
def xtime (x : Byte) : Byte := if x.getLsbD 7 then (x <<< 1) ^^^ 0x1b else x <<< 1

/-- Multiplication by a small constant in the AES field. -/
def gmulB (c : Nat) (x : Byte) : Byte :=
  let x2 := xtime x
  let x4 := xtime x2
  let x8 := xtime x4
  (if bit c 0 then x else 0) ^^^ (if bit c 1 then x2 else 0) ^^^ (if bit c 2 then x4 else 0) ^^^ (if bit c 3 then x8 else 0)

/-- Bytes combined by exclusive or. -/
def xorB (a b : Bytes) : Bytes := (a.zip b).map (fun p => p.1 ^^^ p.2)

/-- The expanded key as 4-byte words, newest first. -/
def aesExpand (nk : Nat) : Nat → Nat → Byte → List Bytes → List Bytes
  | 0, _, _, l => l
  | n + 1, i, rc, l =>
    let t := l.headD []
    let t' := if i % nk = 0 then
        match (t.drop 1 ++ t.take 1).map subByte with
        | a :: r => (a ^^^ rc) :: r
        | [] => []
      else if nk > 6 ∧ i % nk = 4 then t.map subByte else t
    aesExpand nk n (i + 1) (if i % nk = 0 then xtime rc else rc) (xorB (l.getD (nk - 1) []) t' :: l)

/-- The round keys of a key of 16 or 32 bytes. -/
def aesKeys (k : Bytes) : List Bytes :=
  let nk := k.length / 4
  let ws := (aesExpand nk (4 * (nk + 7) - nk) nk 1 (chunks 4 8 k).reverse).reverse
  (List.range (nk + 7)).map (fun i => (ws.drop (4 * i)).take 4 |>.flatten)

/-- ShiftRows by a step (1, or 3 for the inverse). -/
def shiftRows (step : Nat) (b : Bytes) : Bytes :=
  (List.range 16).map (fun i => b.getD ((i + 4 * step * (i % 4)) % 16) 0)

/-- MixColumns with the coefficients of the first row. -/
def mixColumns (m : List Nat) (b : Bytes) : Bytes :=
  (List.range 16).map (fun i =>
    let c := 4 * (i / 4)
    (List.range 4).foldl (fun a j => a ^^^ gmulB (m.getD ((j + 4 - i % 4) % 4) 0) (b.getD (c + j) 0)) 0)

/-- AES encryption of one block. -/
def aesEnc (k b : Bytes) : Bytes :=
  let ks := aesKeys k
  let n := ks.length - 1
  let s := xorB b (ks.getD 0 [])
  let s := (List.range (n - 1)).foldl (fun s i =>
    xorB (mixColumns [2, 3, 1, 1] (shiftRows 1 (s.map subByte))) (ks.getD (i + 1) [])) s
  xorB (shiftRows 1 (s.map subByte)) (ks.getD n [])

/-- AES decryption of one block. -/
def aesDec (k b : Bytes) : Bytes :=
  let ks := aesKeys k
  let n := ks.length - 1
  let s := xorB b (ks.getD n [])
  let s := (List.range (n - 1)).foldl (fun s i =>
    mixColumns [14, 11, 13, 9] (xorB ((shiftRows 3 s).map invSubByte) (ks.getD (n - 1 - i) []))) s
  xorB ((shiftRows 3 s).map invSubByte) (ks.getD 0 [])

/-- Multiplication in the field of GCM. -/
def ghMul (x y : Nat) : Nat :=
  ((List.range 128).foldl (fun (zv : Nat × Nat) i =>
    let z := if bit x (127 - i) then zv.1 ^^^ zv.2 else zv.1
    let v := if bit zv.2 0 then (zv.2 / 2) ^^^ (0xe1 * 2 ^ 120) else zv.2 / 2
    (z, v)) (0, y)).1

/-- GHASH. -/
def ghash (h : Nat) (m : Bytes) : Nat :=
  (chunks 16 (m.length / 16 + 1) m).foldl (fun a b => ghMul (a ^^^ ofBe (fit 16 b)) h) 0

/-- Zero bytes up to a whole block. -/
def pad16 (b : Bytes) : Bytes := b ++ zeros ((16 - b.length % 16) % 16)

/-- AES-CTR as GCM uses it, from a counter block with a 12-byte nonce. -/
def gcmCtr (k nonce m : Bytes) : Bytes :=
  let n := (m.length + 15) / 16
  xorB m ((List.range n).map (fun i => aesEnc k (nonce ++ be 4 (i + 2)))).flatten

/-- The GCM tag of a ciphertext under a 12-byte nonce. -/
def gcmTag (k nonce aad c : Bytes) : Bytes :=
  let h := ofBe (aesEnc k (zeros 16))
  let s := ghash h (pad16 aad ++ pad16 c ++ be 8 (8 * aad.length) ++ be 8 (8 * c.length))
  xorB (be 16 s) (aesEnc k (nonce ++ be 4 1))

/-- AES-GCM sealing: ciphertext and tag. -/
def gcmSeal (k nonce aad p : Bytes) : Bytes × Bytes :=
  let c := gcmCtr k nonce p
  (c, gcmTag k nonce aad c)

/-- AES-GCM opening, with a tag of any length. -/
def gcmOpen (k nonce aad c tag : Bytes) : Option Bytes :=
  if (gcmTag k nonce aad c).take tag.length = tag then some (gcmCtr k nonce c) else none

/-- AES-CBC decryption. -/
def cbcDec (k iv c : Bytes) : Bytes :=
  ((chunks 16 (c.length / 16 + 1) c).foldl (fun (a : Bytes × Bytes) b =>
    (b, a.2 ++ xorB (aesDec k b) a.1)) (iv, [])).2

/-- Doubling of a CMAC subkey. -/
def cmacDbl (b : Bytes) : Bytes :=
  let x := ofBe b
  be 16 ((2 * x % 2 ^ 128) ^^^ (if bit x 127 then 0x87 else 0))

/-- AES-CMAC. -/
def cmac (k m : Bytes) : Bytes :=
  let k1 := cmacDbl (aesEnc k (zeros 16))
  let n := if m.isEmpty then 1 else (m.length + 15) / 16
  let last := m.drop (16 * (n - 1))
  let lastB := if last.length = 16 then xorB last k1 else xorB (fit 16 (last ++ [0x80])) (cmacDbl k1)
  ((chunks 16 n (m.take (16 * (n - 1)))) ++ [lastB]).foldl (fun a b => aesEnc k (xorB a b)) (zeros 16)

/-- AES key unwrap of NIST SP 800-38F with the default initial value. -/
def keyUnwrap (kek w : Bytes) : Option Bytes :=
  let n := w.length / 8 - 1
  let r := (List.range (6 * n)).foldl (fun (a : Bytes × List Bytes) j =>
    let t := 6 * n - j
    let i := (t - 1) % n
    let b := aesDec kek (be 8 (ofBe a.1 ^^^ t) ++ a.2.getD i [])
    (b.take 8, a.2.set i (b.drop 8))) (w.take 8, chunks 8 n (w.drop 8))
  if r.1 = List.replicate 8 0xa6 then some r.2.flatten else none

/-! ## Curves -/

/-- Modular power, by the bits of the exponent. -/
def powMod (p : Nat) : Nat → Nat → Nat → Nat
  | 0, _, _ => 1
  | n + 1, b, e => if e = 0 then 1 else
    let h := powMod p n (b * b % p) (e / 2)
    if e % 2 = 1 then b * h % p else h

/-- The modular inverse for a prime modulus. -/
def invMod (p a : Nat) : Nat := powMod p 600 (a % p) (p - 2)

/-- A short Weierstrass curve with a = -3: field, b, order, generator, bytes of a coordinate. -/
structure WCurve where
  p : Nat
  b : Nat
  n : Nat
  gx : Nat
  gy : Nat
  len : Nat

/-- P-256. -/
def p256 : WCurve := ⟨0xffffffff00000001000000000000000000000000ffffffffffffffffffffffff,
  0x5ac635d8aa3a93e7b3ebbd55769886bc651d06b0cc53b0f63bce3c3e27d2604b,
  0xffffffff00000000ffffffffffffffffbce6faada7179e84f3b9cac2fc632551,
  0x6b17d1f2e12c4247f8bce6e563a440f277037d812deb33a0f4a13945d898c296,
  0x4fe342e2fe1a7f9b8ee7eb4a7c0f9e162bce33576b315ececbb6406837bf51f5, 32⟩

/-- P-384. -/
def p384 : WCurve :=
  ⟨0xfffffffffffffffffffffffffffffffffffffffffffffffffffffffffffffffeffffffff0000000000000000ffffffff,
  0xb3312fa7e23ee7e4988e056be3f82d19181d9c6efe8141120314088f5013875ac656398d8a2ed19d2a85c8edd3ec2aef,
  0xffffffffffffffffffffffffffffffffffffffffffffffffc7634d81f4372ddf581a0db248b0a77aecec196accc52973,
  0xaa87ca22be8b05378eb1c71ef320ad746e1d3b628ba79b9859f741e082542a385502f25dbf55296c3a545e3872760ab7,
  0x3617de4a96262c6f5d9e98bf9292dc29f8f41dbd289a147ce9da3113b5f0b8c00a60b1ce1d7e819d7a431d7c90ea0e5f, 48⟩

/-- A point, none at infinity. -/
abbrev WPoint := Option (Nat × Nat)

/-- A point lies on the curve. -/
def WCurve.has (c : WCurve) (x y : Nat) : Bool :=
  decide (x < c.p) && decide (y < c.p) && decide (y * y % c.p = (x * x * x + (c.p - 3) * x + c.b) % c.p)

/-- Addition of points. -/
def WCurve.add (c : WCurve) : WPoint → WPoint → WPoint
  | none, q => q
  | q, none => q
  | some (x1, y1), some (x2, y2) =>
    if x1 = x2 ∧ (y1 + y2) % c.p = 0 then none
    else
      let l := if x1 = x2 then (3 * x1 * x1 + c.p - 3) * invMod c.p (2 * y1) % c.p
        else (y2 + c.p - y1) * invMod c.p (x2 + c.p - x1) % c.p
      let x3 := (l * l + 2 * c.p - x1 - x2) % c.p
      some (x3, (l * (x1 + c.p - x3) + c.p - y1) % c.p)

/-- A multiple of a point, by the bits of the scalar. -/
def WCurve.mul (c : WCurve) : Nat → Nat → WPoint → WPoint
  | 0, _, _ => none
  | f + 1, k, q => if k = 0 then none else
    let h := c.mul f (k / 2) (c.add q q)
    if k % 2 = 1 then c.add q h else h

/-- The point that a compressed encoding (0x02 or 0x03, then x) stands for. -/
def WCurve.decompress (c : WCurve) (b : Bytes) : WPoint :=
  let x := ofBe (b.drop 1)
  let y := powMod c.p 600 ((x * x * x + (c.p - 3) * x + c.b) % c.p) ((c.p + 1) / 4)
  let y := if y % 2 = (b.headD 0).toNat % 2 then y else (c.p - y) % c.p
  if (b.headD 0 = 2 ∨ b.headD 0 = 3) ∧ b.length = c.len + 1 ∧ c.has x y then some (x, y) else none

/-- ECDSA verification of a digest under a compressed key; r and s outside 1 to n - 1 fail (R62, R77). -/
def ecdsaVerify (c : WCurve) (key digest sig : Bytes) : Bool :=
  let r := ofBe (sig.take c.len)
  let s := ofBe (sig.drop c.len)
  match c.decompress key with
  | none => false
  | some q =>
    if r = 0 ∨ s = 0 ∨ c.n ≤ r ∨ c.n ≤ s then false
    else
      let e := ofBe digest
      let w := invMod c.n s
      match c.add (c.mul 400 (e * w % c.n) (some (c.gx, c.gy))) (c.mul 400 (r * w % c.n) (some q)) with
      | none => false
      | some (x, _) => decide (x % c.n = r)

/-- ECDSA signing of a digest with a scalar and a nonce. -/
def ecdsaSign (c : WCurve) (d k : Nat) (digest : Bytes) : Bytes :=
  match c.mul 400 k (some (c.gx, c.gy)) with
  | none => []
  | some (x, _) =>
    let r := x % c.n
    be c.len r ++ be c.len (invMod c.n k * (ofBe digest + r * d) % c.n)

/-- The field of Ed25519. -/
def edP : Nat := 2 ^ 255 - 19

/-- The order of the base point of Ed25519. -/
def edL : Nat := 2 ^ 252 + 27742317777372353535851937790883648493

/-- The curve constant d of Ed25519. -/
def edD : Nat := (edP - 121665) * invMod edP 121666 % edP

/-- Addition on the twisted Edwards curve. -/
def edAdd (a b : Nat × Nat) : Nat × Nat :=
  let p := edP
  let t := edD * (a.1 * b.1 % p * (a.2 * b.2 % p) % p) % p
  ((a.1 * b.2 + b.1 * a.2) * invMod p (1 + t) % p, (a.2 * b.2 + a.1 * b.1) * invMod p (1 + p - t) % p)

/-- A multiple of a point of the Edwards curve. -/
def edMul : Nat → Nat → Nat × Nat → Nat × Nat
  | 0, _, _ => (0, 1)
  | f + 1, k, q => if k = 0 then (0, 1) else
    let h := edMul f (k / 2) (edAdd q q)
    if k % 2 = 1 then edAdd q h else h

/-- The point that 32 bytes encode (RFC 8032); a y of the field's size or more is not canonical. -/
def edDecode (b : Bytes) : Option (Nat × Nat) :=
  let v := ofLe b
  let y := v % 2 ^ 255
  let p := edP
  let u := (y * y + p - 1) % p
  let w := (edD * (y * y % p) + 1) % p
  let x2 := u * invMod p w % p
  let x := powMod p 600 x2 ((p + 3) / 8)
  let x := if x * x % p = x2 then x else x * powMod p 600 2 ((p - 1) / 4) % p
  if y < p ∧ b.length = 32 ∧ x * x % p = x2 ∧ ¬ (x = 0 ∧ bit v 255) then
    some (if x % 2 = b2n (bit v 255) then x else p - x, y)
  else none

/-- The base point of Ed25519. -/
def edB : Nat × Nat := ((edDecode (le 32 (4 * invMod edP 5 % edP))).getD (0, 1))

/-- Single Ed25519 verification by the cofactored equation of R77. -/
def edVerify (key msg sig : Bytes) : Bool :=
  match edDecode key, edDecode (sig.take 32) with
  | some a, some r =>
    let s := ofLe (sig.drop 32)
    let k := ofLe (sha512 (sig.take 32 ++ key ++ msg)) % edL
    decide (s < edL) && decide (edMul 300 (8 * s) edB = edMul 300 8 (edAdd r (edMul 300 k a)))
  | _, _ => false

end Sys2Proof.Machine
end

