-- ==== Sys2Proof/Machine/Calendar.lean ====
section
/-! DEFINITION. Tariff calendars: the image of R136, its checks of R137, and the evaluation of R139 to R141, R148 and R492. -/

namespace Sys2Proof.Machine

/-! ## The image -/

/-- A two-byte signed field. -/
def s16 (b : Bytes) (o : Nat) : Int := ofTc 2 (beAt b o 2)

/-- A daylight rule from 6 bytes (R136). -/
def ruleOf (b : Bytes) (o : Nat) : DRule :=
  ⟨beAt b o 1, beAt b (o + 1) 1, beAt b (o + 2) 1, beAt b (o + 3) 1 == 0, beAt b (o + 4) 2⟩

/-- The range of a daylight rule's fields. -/
def ruleOk (b : Bytes) (o : Nat) : Bool :=
  let m := beAt b o 1
  let w := beAt b (o + 1) 1
  let d := beAt b (o + 2) 1
  decide (1 ≤ m ∧ m ≤ 12 ∧ 1 ≤ w ∧ w ≤ 5 ∧ 1 ≤ d ∧ d ≤ 7) && decide (beAt b (o + 3) 1 ≤ 1) && decide (beAt b (o + 4) 2 ≤ 1439)

/-- A date that exists in a year that is not a leap year (R137). -/
def dateOk (m d : Nat) : Bool := decide (1 ≤ m) && decide (m ≤ 12) && decide (1 ≤ d) && decide (d ≤ monthDays 2001 m)

/-- The switch points of a day profile: minute of day and tariff. -/
def switchPts (b : Bytes) : List SwPt :=
  (List.range (beAt b 0 1)).map (fun i => (beAt b (4 + 4 * i) 1 * 60 + beAt b (5 + 4 * i) 1, beAt b (6 + 4 * i) 1))

/-- Minutes in strictly ascending order. -/
def ascending : List SwPt → Bool
  | a :: b :: t => decide (a.1 < b.1) && ascending (b :: t)
  | _ => true

/-- A day profile's 68 bytes are in range (R136, R137). -/
def dayOk (b : Bytes) : Bool :=
  let n := beAt b 0 1
  let used := (List.range n).all (fun i =>
    let o := 4 + 4 * i
    decide (beAt b o 1 ≤ 23) && decide (beAt b (o + 1) 1 ≤ 59) && decide (1 ≤ beAt b (o + 2) 1) &&
      decide (beAt b (o + 2) 1 ≤ 8) && decide (beAt b (o + 3) 1 = 0))
  decide (1 ≤ n) && decide (n ≤ 16) && decide (beAt b 1 3 = 0) && used && decide (ofBe (b.drop (4 + 4 * n)) = 0) &&
    ascending (switchPts b) && ((switchPts b).head?.map (fun p => p.1 == 0)).getD false

/-- No element equals a later one. -/
def distinct {α : Type} [DecidableEq α] : List α → Bool
  | [] => true
  | a :: t => !t.contains a && distinct t

/-- A calendar image parsed, or none where R137 refuses it (its lead time apart). -/
def parseCal (b : Bytes) : Option Cal :=
  let ns := beAt b 3 1
  let nw := beAt b 4 1
  let nd := beAt b 5 1
  let np := beAt b 6 2
  let oW := 40 + 4 * ns
  let oD := oW + 8 * nw
  let oP := oD + 68 * nd
  let std := s16 b 24
  let dst := s16 b 26
  let seasons := (List.range ns).map (fun i => (beAt b (40 + 4 * i) 1, beAt b (41 + 4 * i) 1, beAt b (42 + 4 * i) 1))
  let weeks := (List.range nw).map (fun i => (List.range 7).map (fun j => beAt b (oW + 8 * i + j) 1))
  let dayB := (List.range nd).map (fun i => sub b (oD + 68 * i) 68)
  let special := (List.range np).map (fun i =>
    (beAt b (oP + 6 * i) 2, beAt b (oP + 6 * i + 2) 1, beAt b (oP + 6 * i + 3) 1, beAt b (oP + 6 * i + 4) 1))
  let good :=
    decide (40 ≤ b.length) && decide (beAt b 0 2 = 0x5443) && decide (beAt b 2 1 = 1) &&
    decide (1 ≤ ns ∧ ns ≤ 8 ∧ 1 ≤ nw ∧ nw ≤ 16 ∧ 1 ≤ nd ∧ nd ≤ 32 ∧ np ≤ 256) &&
    decide (b.length = oP + 6 * np) && decide (beAt b 8 2 < 1024) &&
    decide (1 ≤ beAt b 10 1 ∧ beAt b 10 1 ≤ 28 ∧ beAt b 11 1 ≤ 23) &&
    decide (-720 ≤ std ∧ std ≤ 840 ∧ std % 15 = 0) && decide (-60 ≤ dst ∧ dst ≤ 120 ∧ dst % 15 = 0) &&
    (decide (dst = 0) || (ruleOk b 28 && ruleOk b 34)) &&
    seasons.all (fun x => dateOk x.1 x.2.1 && decide (x.2.2 < nw)) &&
    (List.range ns).all (fun i => decide (beAt b (43 + 4 * i) 1 = 0)) &&
    weeks.all (fun w => w.all (fun d => decide (d < nd))) &&
    (List.range nw).all (fun i => decide (beAt b (oW + 8 * i + 7) 1 = 0)) &&
    dayB.all dayOk &&
    special.all (fun x => dateOk x.2.1 x.2.2.1 && decide (x.2.2.2 < nd)) &&
    (List.range np).all (fun i => decide (beAt b (oP + 6 * i + 5) 1 = 0)) &&
    distinct (special.map (fun x => (x.1, x.2.1, x.2.2.1)))
  if good then
    some { scheme := beAt b 8 2, calid := beAt b 12 4, pday := beAt b 10 1, phour := beAt b 11 1, activate := beAt b 16 8,
           std := std, dst := dst, start := ruleOf b 28, stop := ruleOf b 34, seasons := seasons, weeks := weeks,
           days := dayB.map switchPts, special := special, image := b }
  else none

/-! ## UTC -/

/-- TAI - UTC in force at a device second (R43): the past changes, else the offset in force. -/
def State.utcOfs (s : State) (t : Nat) : Nat :=
  match s.time.utcHist.find? (fun h => decide (t < h.1)) with
  | some h => h.2.1
  | none => s.get F.TIME_UTCOFS_CUR

/-- A device second that is a positive leap second, 23:59:60: the second before an offset greater by one at the start of a UTC day. -/
def State.isLeapSec (s : State) (t : Nat) : Bool :=
  s.time.utcHist.any (fun h => decide (t + 1 = h.1) && decide (h.2.2 = h.2.1 + 1) && decide ((h.1 - h.2.2) % 86400 = 0)) ||
  (match s.time.leap with
   | some (e, n) => decide (t + 1 = e) && decide (n = s.get F.TIME_UTCOFS_CUR + 1)
   | none => false)

/-- UTC seconds of a device second; a positive leap second evaluates as 23:59:59 (R139). -/
def State.utc (s : State) (t : Nat) : Nat := (if s.isLeapSec t then t - 1 else t) - s.utcOfs t

/-- The device second of a UTC second. -/
def State.ofUtc (s : State) (u : Nat) : Nat := u + s.utcOfs (u + s.get F.TIME_UTCOFS_CUR)

/-! ## Local time (R139, R140) -/

/-- The day of a rule in a year: the n-th or last weekday of the month. -/
def ruleDay (r : DRule) (y : Nat) : Nat :=
  let d1 := daysOf y r.month 1
  let first := d1 + (r.wday + 7 - wdayOf d1) % 7
  if r.week < 5 then first + 7 * (r.week - 1)
  else
    let last := d1 + monthDays y r.month - 1
    last - (wdayOf last + 7 - r.wday) % 7

/-- A rule's instant in a year, in UTC seconds. -/
def ruleAt (c : Cal) (r : DRule) (y : Nat) : Int :=
  (ruleDay r y * 86400 + r.minute * 60 : Nat) - (if r.utc then 0 else c.std * 60)

/-- The span of daylight time that begins in a year (R140). -/
def dstSpan (c : Cal) (y : Nat) : Int × Int :=
  (ruleAt c c.start y, ruleAt c c.stop (if c.start.month > c.stop.month then y + 1 else y))

/-- The year of a UTC second. -/
def yearOf (u : Nat) : Nat := (dateOf (u / 86400)).1

/-- Daylight time is in force at a UTC second (R140). -/
def dstOn (c : Cal) (u : Nat) : Bool :=
  decide (c.dst ≠ 0) && [yearOf u - 1, yearOf u, yearOf u + 1].any (fun y =>
    let (a, b) := dstSpan c y
    decide (a ≤ (u : Int)) && decide ((u : Int) < b))

/-- Local seconds of a UTC second. -/
def localOf (c : Cal) (u : Nat) : Nat := ((u : Int) + (c.std + (if dstOn c u then c.dst else 0)) * 60).toNat

/-- The day profile of a local day (R139). -/
def dayProfile (c : Cal) (day : Nat) : List SwPt :=
  let (y, m, d) := dateOf day
  let sp := fun yy => c.special.find? (fun x => x.1 == yy && x.2.1 == m && x.2.2.1 == d)
  let ix := match sp y, sp 0 with
    | some x, _ => x.2.2.2
    | none, some x => x.2.2.2
    | none, none =>
      let key := fun (x : Nat × Nat × Nat) => x.1 * 32 + x.2.1
      let latest := fun (l : List (Nat × Nat × Nat)) =>
        l.foldl (fun (a : Option (Nat × Nat × Nat)) x => match a with
          | none => some x
          | some b => if key b ≤ key x then some x else some b) none
      let w := match latest (c.seasons.filter (fun x => decide (key x ≤ m * 32 + d))) with
        | some x => x.2.2
        | none => ((latest c.seasons).map (fun x => x.2.2)).getD 0
      (c.weeks.getD w []).getD (wdayOf day - 1) 0
  c.days.getD ix []

/-- The tariff by local time alone: the last switch point at or before the local time of day (R139). -/
def tariffRaw (c : Cal) (u : Nat) : Nat :=
  let l := localOf c u
  ((dayProfile c (l / 86400)).foldl (fun a p => if p.1 * 60 ≤ l % 86400 then p.2 else a) 1)

/-- The instant at which local time fell back, where a UTC second lies in the second occurrence of a repeated span (R141). -/
def repeatFrom (c : Cal) (u : Nat) : Option Nat :=
  let back := fun (y : Nat) => if c.dst > 0 then (dstSpan c y).2 else (dstSpan c y).1
  ([yearOf u - 1, yearOf u, yearOf u + 1].find? (fun y =>
    decide (c.dst ≠ 0) && decide (back y ≤ (u : Int)) && decide ((u : Int) < back y + c.dst.natAbs * 60))).map
      (fun y => (back y).toNat)

/-- The tariff of a calendar at a UTC second (R139 to R141). -/
def Cal.tariff (c : Cal) (u : Nat) : Nat :=
  match repeatFrom c u with
  | some e => tariffRaw c (e - 1)
  | none => tariffRaw c u

/-- The calendars of a scheme. -/
def State.calSet (s : State) (k : Nat) : CalSet := (lookupK k s.leg.cals).getD {}

/-- The tariff in force for a scheme at a device second (R129, R142): the calendar active at that time, its predecessor
before it, tariff 1 where the scheme held none. -/
def State.tariffAt (s : State) (k t : Nat) : Nat :=
  let cs := s.calSet k
  match cs.active with
  | none => 1
  | some a =>
    if cs.since ≤ t then a.tariff (s.utc t)
    else match cs.previous with
      | some p => p.tariff (s.utc t)
      | none => 1

/-! ## Period closes (R148) -/

/-- Whether a UTC second is the local period close of a calendar: PDAY, PHOUR; the first instant after a skipped span; the
first occurrence in a repeated span. -/
def Cal.closesAt (c : Cal) (u : Nat) : Bool :=
  let l := localOf c u
  let before := localOf c (u - 1)
  let hit := fun (x : Nat) => decide ((dateOf (x / 86400)).2.2 = c.pday) && decide (x % 86400 = c.phour * 3600)
  let skipped := (List.range ((l - before) / 60)).any (fun i => hit (before + 1 + i * 60))
  (hit l && (repeatFrom c u).isNone) || (decide (before + 1 < l) && skipped)

/-- Whether a device second closes the billing period of a scheme, or of the slots that go by BILL_PERIOD (0xFFFF). -/
def State.periodClose (s : State) (k t : Nat) : Bool :=
  match (s.calSet k).active with
  | some c => c.closesAt (s.utc t)
  | none =>
    let u := s.utc t
    decide ((dateOf (u / 86400)).2.2 = s.get F.BILL_PERIOD_DAY) && decide (u % 86400 = s.get F.BILL_PERIOD_HOUR * 3600)

end Sys2Proof.Machine
end

