-- ==== Sys2Proof/Machine/Gate.lean ====
section
/-! DEFINITION. The gate of the Head-End Command Protocol: the command table of R296, the order of checks of R276, R277, R293,
R294 and R23, and the one way a command runs and is answered. -/

namespace Sys2Proof.Machine

/-- A row of the command table: class, whether OPERATOR and METROLOGY may send it (R296), whether restricted mode lets it
pass on the uplinks (R277), and whether boot state lets it pass unprotected (R281). -/
structure HcpRow where
  code : Nat
  cls : Nat
  oper : Bool
  metro : Bool
  restr : Bool := false
  boot : Bool := false
  deriving DecidableEq, Repr

/-- The command table of R296. CALLOAD's METROLOGY role holds while CALLOCK is 1; its OPERATOR role then
meets status LOCKED in the command (R299). -/
def hcpTable : List HcpRow :=
  [⟨0x0001, 2, true, true, true, true⟩, ⟨0x0002, 2, true, true, true, false⟩, ⟨0x0003, 2, true, false, true, false⟩,
   ⟨0x0010, 2, true, false, false, false⟩, ⟨0x0011, 2, true, false, false, false⟩] ++
  ((List.range 14).map (fun i => ⟨0x0100 + i, 2, true, false, false, false⟩)) ++
  ((List.range 4).map (fun i => ⟨0x0180 + i, 2, true, false, false, false⟩)) ++
  [⟨0x0200, 2, true, true, false, false⟩, ⟨0x0201, 2, true, false, false, false⟩,
   ⟨0x0300, 0, true, false, false, false⟩, ⟨0x0301, 0, true, false, false, false⟩,
   ⟨0x0302, 2, true, false, false, false⟩] ++
  ((List.range 5).map (fun i => ⟨0x0310 + i, 2, true, false, false, false⟩)) ++
  [⟨0x0330, 2, true, false, false, false⟩, ⟨0x0331, 3, true, false, false, false⟩,
   ⟨0x0400, 2, true, false, false, false⟩, ⟨0x0401, 2, true, false, true, false⟩,
   ⟨0x0500, 2, true, false, false, true⟩, ⟨0x0501, 2, true, false, false, true⟩,
   ⟨0x0502, 2, true, false, true, true⟩, ⟨0x0503, 2, true, false, false, false⟩,
   ⟨0x0600, 3, true, false, true, false⟩, ⟨0x0601, 2, true, false, true, false⟩,
   ⟨0x0610, 3, true, false, true, false⟩, ⟨0x0620, 3, true, false, true, false⟩,
   ⟨0x0630, 3, true, false, true, false⟩, ⟨0x0800, 2, false, true, false, false⟩,
   ⟨0x0801, 2, false, true, false, false⟩, ⟨0x0900, 2, true, true, false, false⟩,
   ⟨0x0901, 3, true, true, false, false⟩, ⟨0x0902, 2, true, true, false, false⟩,
   ⟨0x0903, 2, true, true, false, false⟩, ⟨0x0904, 2, true, true, false, false⟩]

/-- The row of a code. -/
def hcpRow (code : Nat) : Option HcpRow := hcpTable.find? (fun r => r.code == code)

/-- What a command's body gives: the state, the status, the response body, and whether it changed any state (R381). -/
structure HRes where
  st : State
  status : Nat := stOK
  body : Bytes := []
  changed : Bool := true

/-- A refusal with a status, which changes nothing. -/
def HRes.no (s : State) (status : Nat) (body : Bytes := []) : HRes := ⟨s, status, body, false⟩

/-- Whether a command is permitted to the role of its arriving port (R276, R296). -/
def roleAllows (s : State) (r : HcpRow) (role : Nat) : Bool :=
  if r.code = 0x0200 then
    role == 1 || (role == 2 && s.on F.TARIFF_LCTRL_CALLOCK)
  else (role == 1 && r.oper) || (role == 2 && r.metro)

/-- A request refused for role (R22, R276): counted, logged, answered. -/
def State.refuseRole (s : State) (r : Req) (code : Nat) : State :=
  ((s.inc F.PORT_REFUSED).log 0x7010 [(1, portCode r.port), (1, s.role r.port), (4, code)] { port := r.port, agent := 12 }).respond
    r code stROLE []

/-- An HCP port: one that carries requests (R275, R289). -/
def hcpPort : Port → Bool
  | .uplink0 => true
  | .uplink1 => true
  | .seal => true
  | _ => false

/-! ## Boot state (R281, R314, R320, R323) -/

/-- Whether the fuse root can be read (R314). -/
def State.rootOpen (s : State) : Bool := !s.on F.KEY_STATUS_FUSEGATED

/-- Whether a sealed key is held that the storage key in force unseals (R320, R323, R333). -/
def State.unseals (s : State) (x : Option Sealed) : Bool := s.rootOpen && x.any (fun k => k.gen == s.get F.KEY_STATUS_GEN)

/-- Seed `h`, where one is held that the storage key in force unseals (R320, R323, R330, R333). -/
def State.seedOf (s : State) (h : Nat) : Option Bytes :=
  if s.rootOpen && !s.on F.KEY_STATUS_FLAT then
    match lookupK h s.key.seeds with
    | some x => if x.gen = s.get F.KEY_STATUS_GEN then some x.key else none
    | none => none
  else none

/-- A key derived by the engine: the count of the running second, shown in KEY_DRATE once the second is over (R336). -/
def State.derived (s : State) : State :=
  if s.key.derSec = s.secs then { s with key := { s.key with derN := s.key.derN + 1 } }
  else
    let last := if s.key.derSec + 1 = s.secs then s.key.derN else 0
    (({ s with key := { s.key with derSec := s.secs, derN := 1 } } : State)).set F.KEY_DRATE last

/-- The group master keys of the six receive channels (R315, R316, R321): derived where none is held yet, and anew where KEY_PLC changed; without
the seed those that are held stay. -/
def State.takeGmks (s : State) (anew : Bool) : State :=
  if !anew && !s.key.gmks.isEmpty then s
  else match s.seedOf (s.get F.KEY_PLC_SEED) with
    | none => s
    | some k =>
      let s1 := (List.range 6).foldl (fun (t : State) _ => t.derived) s
      { s1 with key := { s1.key with gmks := (List.range 6).map (fun r => (r, kdf k "PLCGMK" (be 1 r ++ be 1 (s.get F.KEY_PLC_GMKNUM)) 128)) } }

/-- Whether a key can be installed on an uplink (R280, R281): its seed is imported, or in flat key mode the flat key is. -/
def State.canInstall (s : State) (u : Nat) : Bool :=
  if s.on F.KEY_STATUS_FLAT then s.unseals s.key.flat
  else s.unseals (lookupK (s.geti F.UPLINK_MSCFG_SEED u) s.key.seeds)

/-- Whether a secure association of an uplink is installed. -/
def State.secured (s : State) (u : Nat) : Bool := if u = 0 then s.port.sec0.installed else s.port.sec1.installed

/-- Boot state of an uplink (R281): no key is installed for it. -/
def State.boot (s : State) (u : Nat) : Bool := !s.secured u && !s.canInstall u

/-- Whether an unprotected request passes (R281): in boot state, with BOOTOK, one of the four commands. -/
def State.bootPass (s : State) (p : Port) (boot : Bool) : Bool :=
  let u := if p = .uplink1 then 1 else 0
  boot && s.boot u && s.geti F.UPLINK_MSCFG_BOOTOK u == 1

/-- The checks that stand before a command (R294, R293, R276, R277, R281, R23), in their order: none where the request
passes, else the state after it was answered or dropped. -/
def hcpGate (r : Req) (code : Nat) (s : State) : Option State :=
  if s.role r.port = 0 ∨ hcpPort r.port = false then some s
  else match s.keptFor r with
  | some k =>
    some ((if k.store = 2 then s else s.inci F.UPLINK_CACHEHIT k.store 1).sendResp { r with prot := k.prot } k.frame true)
  | none =>
    match hcpRow code with
    | none => some (s.respond r code stBADFRAME [])
    | some row =>
      if r.cls ≠ row.cls then some (s.respond r code stBADCLASS [])
      else if roleAllows s row (s.role r.port) = false then some (s.refuseRole r code)
      else if s.restricted && !row.restr && r.port != .seal then
        some ((s.inc F.PORT_REFUSED).respond r code stRESTRICTED [])
      else if !r.prot && r.port != .seal && !s.bootPass r.port row.boot then some s
      else if row.cls ≠ 0 ∧ ¬ s.on F.SYS_STATUS_FULLREADY then some (s.respond r code stRETRY [])
      else none

/-- The ingress queue that holds a request (R217); none at the seal port. -/
def reqQueue (r : Req) : Option Nat :=
  let c := if r.outprof then 1 else r.cls
  match r.port with
  | .uplink0 => some (6 + c)
  | .uplink1 => some (10 + c)
  | _ => none

/-- The payload bytes that a request takes of its queue: its HCP frame (R292). -/
def HcpIn.size (h : HcpIn) : Nat := 16 + h.req.ref.length + h.body.length

/-- The lengths of the requests for an HCP ingress queue, oldest first. -/
def State.hcpLens (s : State) (id : Nat) : List Nat :=
  (s.port.hcpIn.filter (fun h => reqQueue h.req == some id)).map HcpIn.size

/-- Of packets offered in turn to a block of `n` words with `used` in use, those that it has taken: a producer begins one only with room for the
largest, and those behind it wait (R213, R220). -/
def takenOf (n : Nat) : Nat → List Nat → List Nat
  | _, [] => []
  | used, x :: t => if used + pktWords 1536 ≤ n then x :: takenOf n (used + pktWords x) t else []

/-- The lengths of the requests that an HCP ingress queue holds. -/
def State.hcpHeld (s : State) (id : Nat) : List Nat := takenOf (queueWords id) 0 (s.hcpLens id)

/-- The words that requests for an HCP ingress queue take. -/
def State.hcpWords (s : State) (id : Nat) : Nat := ((s.hcpLens id).map pktWords).sum

/-- The class in which a request is served (R21): a demoted one goes in class 1 (R208). -/
def servedCls (r : Req) : Nat := if r.outprof then 1 else r.cls

/-- Whether a waiting request is behind another (R21, R212): one of a lower class number waits at any port, or one of its class before it
in its own queue. -/
def State.behind (s : State) (h : HcpIn) : Bool :=
  s.port.hcpIn.any (fun x => decide (servedCls x.req < servedCls h.req)) ||
  (s.port.hcpIn.takeWhile (fun x => x != h)).any (fun x => x.req.port == h.req.port && servedCls x.req == servedCls h.req)

/-- The request taken from its ingress queue, where a frame brought it (R217), with its check (R216). One that is behind another waits,
and so does a queued one that is not the request named in every field. It tells whether the request runs. A request that no frame has queued comes directly. -/
def State.takeReq (s : State) (r : Req) (code : Nat) : State × Bool :=
  let same := fun (h : HcpIn) => h.req.port == r.port && h.req.reqid == r.reqid && h.req.src == r.src && h.req.sport == r.sport &&
    h.code == code
  match s.port.hcpIn.find? same with
  | none => ({ s with port := { s.port with c0At := none, reqAt := none } }, true)
  | some h =>
    if h.req ≠ r ∨ s.behind h = true then (s, false) else
    let s1 : State := { s with port := { s.port with
      hcpIn := s.port.hcpIn.eraseP same, c0At := some (h.at_, h.len, (reqQueue h.req).getD 0), reqAt := some h.stamp } }
    match reqQueue h.req with
    | none => (s1, true)
    | some id => match s1.qTake id (s.hcpHeld id) with
      | (s2, .flush) =>
        -- what waited behind a full class-1 queue was not in it
        let n := (s.hcpHeld id).length - 1
        let gone := (s2.port.hcpIn.filter (fun x => reqQueue x.req == some id)).take n
        ({ s2 with port := { s2.port with hcpIn := s2.port.hcpIn.filter (fun x => !gone.contains x) } }, false)
      | (s2, x) => (s2, x == .fine)

/-- The change journal's record of a command (R381). -/
def State.journalCmd (s : State) (r : Req) (code : Nat) : State :=
  s.log 0xC004 [(2, code), (2, 0), (4, r.head), (4, r.reqid)] { port := r.port, agent := 12 }

/-- A command runs: the gate, its body, the journal record, the response (R296, R381). -/
def hcpRun (r : Req) (code : Nat) (f : State → HRes) (s : State) : State :=
  match s.takeReq r code with
  | (s1, true) => match hcpGate r code s1 with
    | some s2 => s2
    | none =>
      let h := f s1
      let s2 := if h.status = stOK ∧ h.changed = true then h.st.journalCmd r code else h.st
      s2.respond r code h.status h.body
  | (s1, false) => s1

end Sys2Proof.Machine
end

