-- ==== Sys2Proof/Machine/LimitTable.lean ====
section
/-! DEFINITION. The radio's limit table (R261, R262). -/

namespace Sys2Proof.Machine

/-- A field of row `r` of the table: `n` bytes at an offset. -/
def State.rowField (s : State) (r o n : Nat) : Nat := beAt s.radio.table (32 * r + o) n

/-- A row's centre frequency in Hz. -/
def State.rowFreq (s : State) (r : Nat) : Nat := s.rowField r 0 4

/-- Whether a row serves transmission in a mode (0 S, 1 T, 2 C). -/
def State.rowTx (s : State) (r mode : Nat) : Bool :=
  s.radio.rows.contains r && bit (s.rowField r 4 1) 1 && bit (s.rowField r 4 1) (2 + mode)

/-- Whether a row is disabled (R262): its frequency, a field's range, the reserve, or no use named. -/
def State.rowBad (s : State) (r : Nat) : Bool :=
  let f := s.rowFreq r
  let c := s.get F.RADIO_WIN_CENTER * 1000
  let inBand := if s.get F.RADIO_CTRL_BAND = 1 then decide (902000000 ≤ f) && decide (f ≤ 928000000)
    else decide (863000000 ≤ f) && decide (f ≤ 876000000)
  let use := s.rowField r 4 1
  !inBand || decide (c + 1900000 < f) || decide (f + 1900000 < c) || decide (32 ≤ use) || s.rowField r 7 1 == 0 ||
    decide (s.rowField r 12 2 < s.rowField r 10 2) || s.rowField r 24 8 != 0 || decide (s.rowField r 16 4 < s.rowField r 20 4) ||
    use % 4 == 0

/-- Every row checked (R262): disabled rows are logged, and RADIO_STATUS.NOTABLE follows. Without a table no
row is enabled. The code of the cause is not stated and is free. -/
def State.checkRows (s : State) : State :=
  if s.radio.table.isEmpty then s
  else
    let s1 : State := { s with radio := { s.radio with rows := (List.range 16).filter (fun r => !s.rowBad r) } }
    let s2 := (List.range 16).foldl (fun (x : State) r =>
      if s1.rowBad r then
        let (c, x1) := x.draw
        x1.log 0x6120 [(1, r), (1, c % 256)] (.ag 11)
      else x) s1
    s2.set F.RADIO_STATUS_NOTABLE (b2n (!s2.radio.rows.any (fun r => bit (s2.rowField r 4 1) 1)))

end Sys2Proof.Machine
end

