-- ==== Sys2Proof/Machine/Panel.lean ====
section
/-! DEFINITION. The display engine (R403 to R419): drive voltage and temperature, passes, requests and coalescing, banners, supply
warnings and restoration. The firmware parts stand first, since the compensation table is part D's (R383, R384). -/

namespace Sys2Proof.Machine

/-! ## Parts and banks (R383 to R385) -/

/-- The kinds in the order of R401, with their largest images in bytes. -/
def partKinds : List (Nat × Nat) :=
  [(0x4C, 1572864), (0x41, 4194304), (0x50, 262144), (0x57, 262144), (0x56, 262144), (0x44, 1048576)]

/-- The base image of a kind (R384). -/
def romPart (k : Nat) : FwPart := ⟨k, Config.romVersion k, Config.romImage k, true⟩

/-- The running bank. -/
def State.runBank (s : State) : List FwPart := if s.fwu.actcnt % 2 = 0 then s.fwu.bank0 else s.fwu.bank1

/-- The part of a kind in a list, else its base image. -/
def partIn (l : List FwPart) (k : Nat) : FwPart := (l.find? (fun p => p.kind == k)).getD (romPart k)

/-- The running part of a kind. -/
def State.running (s : State) (k : Nat) : FwPart := partIn s.runBank k

/-! ## Temperature and drive (R404 to R407) -/

/-- A value interpolated between two points, `r` tenths of the way, to the nearest. -/
def lerp (a b r : Nat) : Nat := ((a * (10 - r) + b * r) * 2 + 10) / 20

/-- Whether the display engine accepts the compensation table of an image of part D (R407): every point in its range. -/
def tableOk (img : Bytes) : Bool :=
  (List.range 14).all (fun i => let p := Config.compPoint img i
    decide (p.1 ≤ 340) && decide (200 ≤ p.2) && decide (p.2 ≤ 1200))

/-- Wanted VDRV (0.1 V) and row time (µs) at a temperature, from the compensation table of part D; none outside a usable span
(R406, R407), and under a table that is not accepted. -/
def State.comp (s : State) (t : Int) : Option (Nat × Nat) :=
  if t < -40 ∨ 90 < t ∨ tableOk (s.running 0x44).image = false then none
  else
    let n := (t + 40).toNat
    let img := (s.running 0x44).image
    let p := Config.compPoint img (n / 10)
    if n % 10 = 0 then (if p.1 = 0 then none else some p)
    else
      let q := Config.compPoint img (n / 10 + 1)
      if p.1 = 0 ∨ q.1 = 0 then none else some (lerp p.1 q.1 (n % 10), lerp p.2 q.2 (n % 10))

/-- The source of a pass (R405): `some true` the pump, `some false` VHV, none while SRC 1 lacks VHV. -/
def State.driveSrc (s : State) : Option Bool :=
  if s.get F.DISP_SUPPLY_SRC = 2 then some true
  else if s.disp.vhv then some false
  else if s.get F.DISP_SUPPLY_SRC = 0 then some true
  else none

/-- The smallest span that covers two. -/
def cover (a b : Nat × Nat) : Nat × Nat := (min a.1 b.1, max a.2 b.2)

/-- A span that may be absent, with another. -/
def coverO (a : Option (Nat × Nat)) (b : Nat × Nat) : Nat × Nat := match a with | some x => cover x b | none => b

/-- The state of the engine in DISP_STATUS (R422). -/
def State.showDisp (s : State) : State :=
  let s1 := (s.set F.DISP_STATUS_BUSY (b2n s.disp.pass.isSome)).set F.DISP_STATUS_PENDING (b2n s.disp.pend.isSome)
  match s.disp.pass with
  | some p => ((s1.set F.DISP_PASS_FIRST p.first).set F.DISP_PASS_LAST p.last).set F.DISP_PASS_ROW p.row
  | none => s1

/-- The clock of the DISP domain runs or stops (R416, R442). -/
def State.dispClock (s : State) (on : Bool) : State := s.set F.CLK_STATUS_RUN (setBit (s.get F.CLK_STATUS_RUN) 8 on)

/-- A pass deferred (R405, R407). -/
def State.defer (s : State) (q : Nat × Nat) : State :=
  ({ s with disp := { s.disp with deferred := some (coverO s.disp.deferred q), pass := none, out := none, coldAt := s.time.clk } } : State).showDisp

/-- The six levels of a drive amplitude by the bias divisor b (R404), as numerators over b: V0 to V5 in 0.1 V. -/
def levels (vd b : Nat) : Nat × List Nat := (b, [vd * b, vd * (b - 1), vd * (b - 2), 2 * vd, vd, 0])

/-- The drive amplitude of a pass in 0.1 V (R405, R406): the wanted one, clamped with event 0xA003. The voltage of VHV is free, from 17 V to 36 V. -/
def State.drive (s : State) (wanted : Nat) (pump : Bool) : State × Nat :=
  let (x, s1) := s.draw
  let lim := min (if pump then 240 else min 340 (150 + x % 191)) (s.get F.DISP_BIAS_VMAX)
  if lim < wanted then ((s1.set F.DISP_STATUS_VCLAMP 1).log 0xA003 [(4, wanted), (4, lim)] (.ag 19), lim)
  else (s1.set F.DISP_STATUS_VCLAMP 0, wanted)

/-- A pass over a span at a panel temperature (R406 to R410): deferred, or begun with its bias settle unless the supplies are up from
a pass that ended less than 1 ms before. -/
def State.passAt (s : State) (t : Int) (q : Nat × Nat) : State :=
  match s.comp t, s.driveSrc with
  | none, _ => ((s.defer q).set F.DISP_STATUS_COLD 1).log 0xA004 [(4, tc 4 t)] (.ag 19)
  | some _, none => ((s.defer q).set F.DISP_STATUS_COLD 0).set F.DISP_STATUS_NOVHV 1
  | some (v, rowt), some pump =>
    let (s1', vd) := s.drive v pump
    let (w, s1) := s1'.draw
    let up := s.disp.endAt.any (fun e => decide (s.time.clk < e + 1000000))
    -- the stopped domain wakes within 60 µs (R416, R442) before the settle
    let wake := if s.on F.DISP_STATUS_OFF then w % 60001 else 0
    let dur := if up then rowt * 1000 else wake + 5000000
    let p : Pass := { first := q.1, last := q.2, row := q.1, settle := !up, rowt := rowt, pump := pump, at_ := s.time.clk + dur }
    let s2 : State := { s1 with disp := { s1.disp with
      pass := some p, deferred := none, frame := (s1.disp.frame + 1) % 4294967296
      pflags := setBit s1.disp.pflags 0 true, pfirst := q.1, plast := q.2, endAt := none, taps := levels vd (s.get F.DISP_BIAS_B) } }
    let s3 := ((s2.set F.DISP_STATUS_PUMP (b2n pump)).set F.DISP_STATUS_COLD 0).set F.DISP_STATUS_NOVHV 0
    ((((s3.set F.DISP_VDRV_V vd).set F.DISP_VDRV_TEMP (tc 1 t)).set F.DISP_STATUS_OFF 0).dispClock true).showDisp

/-- The panel temperature measured (R406): the sensor's reading is free; from the junction DISP_TEMP.OFS is taken. -/
def State.panelTemp (s : State) : Int × State :=
  let (t, s1) := s.drawInt
  (if s.on F.DISP_TEMP_SRC then t else t - s.get F.DISP_TEMP_OFS, s1)

/-! ## Banners and pixels (R415, R419) -/

/-- The banner that is to be shown (R419). -/
def State.bannerDue (s : State) : Nat :=
  if s.on F.TAMPER_STATUS_LATCH then 1
  else if s.on F.BILL_STATUS_HALTED then 2
  else if s.restricted then 3
  else if s.disp.restoring ≠ 0 then 4 else 0

/-- The committed buffer (R412). -/
def State.plate (s : State) : Bytes := fit 2400 (if s.disp.cur = 0 then s.disp.img0 else s.disp.img1)

/-- The pixels of a common: the banner over commons 0 to 15 while one is shown, else the plate. -/
def State.pixels (s : State) (r : Nat) : Bytes :=
  if s.bannerDue ≠ 0 ∧ r < 16 then fit 25 (Config.bannerRow s.bannerDue r) else sub s.plate (25 * r) 25

/-- The width of a pulse of pixel (r, s) in 1/64 (R411): 56 and its trim of the uniformity map, 8 without one. -/
def State.pulse (s : State) (r c : Nat) : Nat :=
  56 + (if s.disp.map.isEmpty then 8 else beAt s.disp.map (r * 100 + c / 2) 1 / 16 ^ (c % 2) % 16)

/-- What drives a common (R410, R411, R415): which half comes first, its pixels, and the width of their pulses. -/
def State.rowOut (s : State) (r : Nat) : RowOut :=
  ⟨r, (r + s.disp.frame) % 2 == 0, s.pixels r, (List.range 200).map (s.pulse r)⟩

/-- The drive of the pass's common begins: its pixels are read at this instant (R415). -/
def State.driveRow (s : State) (p : Pass) : State :=
  let s1 : State := { s with disp := { s.disp with pass := some p, out := some (s.rowOut p.row), glass := insertK p.row (s.pixels p.row) s.disp.glass } }
  (if p.row = 15 then { s1 with disp := { s1.disp with banner := s.bannerDue } } else s1).showDisp

/-- A pass started (R406, R409): the temperature is measured, and without a settle the first common's drive begins. -/
def State.startPass (s : State) (q : Nat × Nat) : State :=
  let (t, s1) := s.panelTemp
  let s2 := s1.passAt t q
  match s2.disp.pass with
  | some p => if p.settle then s2 else s2.driveRow p
  | none => s2

/-! ## Requests (R414, R416, R417) -/

/-- A request for a span (R414): nothing is driven while EN is 0 or during a supply warning, and the request is held (R416, R417). A pass
deferred for VHV is tried again with it. -/
def State.request (s : State) (q : Nat × Nat) : State :=
  if !s.on F.DISP_CTRL_EN || s.on F.PWR_STATUS_WARN then { s with disp := { s.disp with held := some (coverO s.disp.held q) } }
  else match s.disp.pass with
  | some p =>
    if p.first ≤ q.2 ∧ q.1 ≤ p.last then
      let a := cover (p.first, p.last) (coverO s.disp.pend (coverO s.disp.again q))
      ({ s with disp := { s.disp with again := some a, pend := none } } : State).showDisp
    else ({ s with disp := { s.disp with pend := some (coverO s.disp.pend q) } } : State).showDisp
  | none =>
    match s.disp.deferred with
    | some d => if s.on F.DISP_STATUS_NOVHV then s.startPass (cover d q) else { s with disp := { s.disp with deferred := some (cover d q) } }
    | none => s.startPass q

/-- A change of the banner to be shown requests a pass over [0, 15] (R419). -/
def State.bannerCheck (s : State) : State :=
  if s.bannerDue = s.disp.due then s
  else (({ s with disp := { s.disp with due := s.bannerDue } } : State)).request (0, 15)

/-- The drive parked and off (R416). -/
def State.dispOff (s : State) : State :=
  let s1 : State := { s with disp := { s.disp with
    pass := none, out := none, endAt := none, pflags := if s.disp.restoring = 0 then setBit s.disp.pflags 0 false else s.disp.pflags } }
  ((s1.set F.DISP_STATUS_OFF 1).dispClock false).showDisp

/-- A pass that has driven its last common ends (R414, R416, R418). -/
def State.passEnd (s : State) : State :=
  let s1 : State := (({ s with disp := { s.disp with pass := none, out := none, endAt := some s.time.clk } } : State).inc F.DISP_NPASS).showDisp
  let next := fun (t : State) => match t.disp.pass, t.disp.pend with
    | some _, _ => t
    | none, some q => ({ t with disp := { t.disp with pend := none } } : State).startPass q
    | none, none =>
      if t.on F.DISP_CTRL_OFFIDLE then t.dispOff
      else { t with disp := { t.disp with pflags := if t.disp.restoring = 0 then setBit t.disp.pflags 0 false else t.disp.pflags } }
  if s.disp.restoring = 1 then ({ s1 with disp := { s1.disp with restoring := 2 } } : State).startPass (0, 95)
  else if s.disp.restoring = 2 then
    let s2 : State := { s1 with disp := { s1.disp with restoring := 0, pflags := setBit s1.disp.pflags 0 false } }
    next (({ s2 with disp := { s2.disp with due := s2.bannerDue } } : State).request (0, 15))
  else next s1

/-- The pass stopped by a supply warning after a common (R417). -/
def State.passStop (s : State) (p : Pass) (row : Nat) : State :=
  let s1 : State := { s with disp := { s.disp with
    pass := none, out := none, endAt := none, stopped := some { p with row := row }, introw := row % 256
    pfirst := p.first, plast := p.last, pflags := 3 } }
  ((s1.inc F.DISP_NSTOP).showDisp).log 0xA002 [(1, row)] (.ag 19)

/-- VHV lost under a pass (R408): the pump takes over and the pass begins again, or the pass is deferred. -/
def State.vhvLost (s : State) (p : Pass) : State :=
  let q := coverO s.disp.again (p.first, p.last)
  let s1 : State := { s with disp := { s.disp with pass := none, out := none, again := none, endAt := none } }
  if s.get F.DISP_SUPPLY_SRC = 0 then (s1.log 0xA005 [(1, 1)] (.ag 19)).startPass q
  else (s1.defer q).set F.DISP_STATUS_NOVHV 1

/-- BIAS_SETTLE_END (R409). -/
def execBiasSettleEnd (s : State) : Out :=
  ok (match s.disp.pass with
    | none => s
    | some p =>
      if !p.settle || s.pwr.noPll.contains .DISP then s
      else
        let s1 := s.advTo p.at_
        if s1.on F.PWR_STATUS_WARN then s1.passStop p (p.first + 255)
        else if !p.pump && !s1.disp.vhv then s1.vhvLost p
        else s1.driveRow { p with settle := false, at_ := s1.time.clk + p.rowt * 1000 })

/-- ROW_COMPLETE (R408, R409, R414, R417): the common's row time ends. -/
def execRowComplete (s : State) : Out :=
  ok (match s.disp.pass with
    | none => s
    | some p =>
      if p.settle || s.pwr.noPll.contains .DISP then s
      else
        let s1 := s.advTo p.at_
        if s1.on F.PWR_STATUS_WARN then s1.passStop p p.row
        else if !s1.on F.DISP_CTRL_EN then
          let q := coverO s1.disp.pend (coverO s1.disp.again (p.first, p.last))
          ({ s1 with disp := { s1.disp with again := none, pend := none, held := some (coverO s1.disp.held q) } } : State).dispOff
        else if !p.pump && !s1.disp.vhv then s1.vhvLost p
        else match s1.disp.again with
        | some q =>
          let s2 : State := { s1 with disp := { s1.disp with pass := none, again := none, endAt := some s1.time.clk } }
          (s2.inc F.DISP_NRESTART).startPass q
        | none =>
          if p.last ≤ p.row then s1.passEnd
          else s1.driveRow { p with row := p.row + 1, at_ := s1.time.clk + p.rowt * 1000 })

/-- The supply recovers (R417): the stopped pass goes on at common INTROW + 1 after a bias settle; held requests follow. -/
def State.dispRecover (s : State) : State :=
  let s1 : State := match s.disp.stopped with
    | none => s
    | some p =>
      let nxt := if s.disp.introw = 255 then p.first else (p.row % 256) + 1
      let s0 : State := { s with disp := { s.disp with stopped := none, pflags := 1 } }
      if p.last < nxt then s0.passEnd
      else
        let q : Pass := { p with row := nxt, settle := true, at_ := s.time.clk + 5000000 }
        ({ s0 with disp := { s0.disp with pass := some q } } : State).showDisp
  match s1.disp.held with
  | some q => ({ s1 with disp := { s1.disp with held := none } } : State).request q
  | none => s1

/-- The display at class 0 ready (R418, R419): an interrupted pass is restored; else a banner that differs from the one drawn is
requested. -/
def State.dispRestore (s : State) : State :=
  if bit s.disp.pflags 0 then
    let s1 := s.log 0xA001 [(1, s.disp.introw), (1, s.disp.pfirst), (1, s.disp.plast)] (.ag 19)
    let s2 : State := { s1 with disp := { s1.disp with restoring := 1, pflags := 1 } }
    ({ s2 with disp := { s2.disp with due := s2.bannerDue } } : State).request (0, 15)
  else
    let s1 : State := { s with disp := { s.disp with due := s.bannerDue } }
    if s.bannerDue = s.disp.banner then s1 else s1.request (0, 15)

/-- DISP_CTRL.EN changes (R416): what was held while it was 0 is driven; with no pass running the drive goes off. -/
def State.dispEnable (s : State) (was : Bool) : State :=
  if !was && s.on F.DISP_CTRL_EN then
    match s.disp.held with
    | some q => ({ s with disp := { s.disp with held := none } } : State).request q
    | none => s
  else if was && !s.on F.DISP_CTRL_EN && s.disp.pass.isNone then s.dispOff
  else s

/-- COLD_RETRY (R407): the temperature measured again 60 s after the last time, for a pass deferred for temperature. -/
def execColdRetry (temp : Int) (s : State) : Out :=
  ok (match s.disp.deferred with
    | none => s
    | some q =>
      if !s.on F.DISP_STATUS_COLD || s.on F.PWR_STATUS_WARN || !s.on F.DISP_CTRL_EN then s
      else
        let s1 := s.advTo (s.disp.coldAt + 60 * nsS)
        match s1.comp temp with
        | none => { s1 with disp := { s1.disp with coldAt := s1.time.clk } }
        | some _ =>
          let s2 := s1.passAt temp q
          match s2.disp.pass with
          | some p => if p.settle then s2 else s2.driveRow p
          | none => s2)

/-- VHV_LOW (R408): DISP_VHV falls below 17 V; a pass that draws it stops at the end of its common. -/
def execVhvLow (s : State) : Out := ok { s with disp := { s.disp with vhv := false } }

/-- VHV_RETURN (R405): DISP_VHV is at least 17 V again, and a pass deferred for it runs. -/
def execVhvReturn (s : State) : Out :=
  let s1 : State := { s with disp := { s.disp with vhv := true } }
  ok (match s.disp.deferred with
    | some q =>
      if s.on F.DISP_STATUS_NOVHV && !s.on F.PWR_STATUS_WARN && s.on F.DISP_CTRL_EN then
        (({ s1 with disp := { s1.disp with deferred := none } } : State).set F.DISP_STATUS_NOVHV 0).startPass q
      else s1
    | none => s1)

end Sys2Proof.Machine
end

