-- ==== Sys2Proof/Machine/Registers.lean ====
section
/-! DEFINITION. The register engine: reads and writes by field type (R8 to R10, R489), roles (R288, R289, R275, R277), certified
mode (R334, R335), block locks (R431), complement pairs (R424 to R427), triplicated fields (R428), shadows, strobes and
crossings (R429, R430, R442), and the change journal's 0xC001 (R381). -/

namespace Sys2Proof.Machine

/-- The bits of a field within a register value. -/
def Fld.of (f : Fld) (v : Nat) : Nat := v / 2 ^ f.bit % 2 ^ f.w

/-- A register's stored word: every field at its place; WO fields read zero (R8). -/
def State.rawWord (s : State) (r : RegDef) (i : Nat) : Nat :=
  (r.flds.map (fun f => if f.ty = .WO then 0 else s.geti f i * 2 ^ f.bit)).sum

/-- The length code of an RWP register's complement alias (R424): the register and instance an alias stands for. -/
def findAlias (a : Nat) : Option (RegDef × Nat) :=
  if a < 0x40008000 then none
  else match findReg (a - 0x8000) with
    | some (r, i) => if r.prot = .pair ∧ blockOf (a - 0x8000) = blockOf a then some (r, i) else none
    | none => none

/-- The address of instance `i` of a register. -/
def RegDef.at_ (r : RegDef) (i : Nat) : Nat := r.addr + r.stride * i

/-- A pending value of a field, if one waits (R10). -/
def State.pendingOf (s : State) (f : Fld) (i : Nat) : Option Nat :=
  (s.reg.shadows.find? (fun x => x.addr == f.addr + f.stride * i)).bind (fun x => lookupK (f.key i) x.vals)

/-- A field's value in force or pending (R284). -/
def State.forceOrPend (s : State) (f : Fld) (i v : Nat) : Bool :=
  s.geti f i == v || s.pendingOf f i == some v

/-- Whether a value lies in a field's range (R489), with the ranges that other state narrows: T1S_PLCA.NCNT and T1S_CTRL.QUAL
(R284), BAL_GAP (FULL at most MAX), PWR_CTRL.MON bit 1 (R456), EVREC_FREEZE.SECS (R382), RADIO_WIN.CENTER by band (R274). -/
def State.inRange (s : State) (f : Fld) (i v word : Nat) : Bool :=
  if f = F.T1S_PLCA_NCNT then
    decide (1 ≤ v) && (decide (v ≤ 8) || (decide (v ≤ 32) &&
      (bit (s.get F.T1S_CTRL_QUAL) i || ((s.pendingOf F.T1S_CTRL_QUAL 0).map (fun q => bit q i)).getD false)))
  else if f = F.PWR_CTRL_MON then !bit v 1
  else if f = F.EVREC_FREEZE_SECS then decide (v ≤ 10)
  else if f = F.BAL_GAP_FULL then decide (1 ≤ v) && decide (v ≤ 720) && decide (v ≤ F.BAL_GAP_MAX.of word)
  else if f = F.BAL_GAP_MAX then decide (1 ≤ v) && decide (v ≤ 720) && decide (F.BAL_GAP_FULL.of word ≤ v)
  else if f = F.RADIO_WIN_CENTER then
    let us := (s.pendingOf F.RADIO_CTRL_BAND 0).getD (s.get F.RADIO_CTRL_BAND) == 1
    if us then decide (904000 ≤ v) && decide (v ≤ 926000) else decide (865000 ≤ v) && decide (v ≤ 874000)
  else (decide (f.lo ≤ v) && decide (v ≤ f.hi)) || (f.zero && v == 0)

/-- The bits of T1S_CTRL.QUAL that a write may not clear (R284): those of segments whose NCNT, in force or pending, is above 8. -/
def State.qualHeld (s : State) : Nat :=
  (List.range 8).foldl (fun m n =>
    if bit (s.get F.T1S_CTRL_QUAL) n &&
        (decide (8 < s.geti F.T1S_PLCA_NCNT n) || ((s.pendingOf F.T1S_PLCA_NCNT n).map (fun v => decide (8 < v))).getD false)
    then m + 2 ^ n else m) 0

/-! ## Who may write (R275, R277, R288, R289, R334, R335, R459) -/

/-- The selector registers of R288, by address. -/
def selectorAddrs : List Nat :=
  [F.EVREC_SEL_SEQ.addr, F.TARIFF_SEL_SCHEME.addr, F.METER_PEEK_SLOT.addr, F.METER_FIND_GO.addr, F.METER_FINDL_ID.addr,
   F.METER_FINDH.addr, F.QOS_QSEL_QUEUE.addr, F.BAL_NSEL_NODE.addr, F.DIST_CSEL_CAMP.addr, F.TARIFF_BPEEK_SLOT.addr,
   F.FTL_GSEL_REQ.addr, F.FWU_PSEL_PART.addr]

/-- A selector register, whose writes are never journalled (R381). -/
def isSelector (r : RegDef) : Bool := selectorAddrs.contains r.addr

/-- The timeplate registers of an entry (R48). -/
def isTp (r : RegDef) : Bool :=
  r.addr == F.TIME_TPCFG_KIND.addr || r.addr == F.TIME_TPW0.addr || r.addr == F.TIME_TPW1.addr ||
  r.addr == F.TIME_TPW2.addr || r.addr == F.TIME_TPPER.addr

/-- A register of the FAULT block. -/
def isFault (r : RegDef) : Bool := blockOf r.addr == some 25

/-- A tamper setting of R335. -/
def isTamperCfg (r : RegDef) : Bool :=
  r.addr == F.TAMPER_ARM_ARM.addr || r.addr == F.TAMPER_INCFG_EN.addr || r.addr == F.TAMPER_MESH_EN.addr

/-- A legal parameter (R118): the RWP registers of BILL and TARIFF. -/
def isLegal (r : RegDef) : Bool := (blockOf r.addr == some 9 || blockOf r.addr == some 10) && r.prot == .pair

/-- Whether a port may write a field of a register (R288, R289); internal agents and the configuration image write all. -/
def mayWrite (p : Port) (r : RegDef) (i : Nat) (f : Fld) : Bool :=
  match p with
  | .service =>
    isFault r || (f.ty == .WO && f != F.BILL_CHKCMD_RECOMPUTE) || f.ty == .W1C || isSelector r ||
    (isTp r && decide (64 ≤ i)) || r.addr == F.PLC_CAL_RUN.addr || r.addr == F.RADIO_CAL_RUN.addr
  | .seal =>
    !isFault r && (isLegal r || f == F.BILL_CHKCMD_RECOMPUTE || r.addr == F.KEY_CERT_BLOW.addr ||
      r.addr == F.DISP_PLATE_COMMON.addr || isTamperCfg r || f.ty == .W1C || isSelector r)
  | .none => true
  | .config => true
  | _ => false

/-- Why a write is refused before it is applied, if it is. -/
inductive WRef where
  | role | lock | cert
  deriving DecidableEq, Repr

/-- CERT_MODE in force (R334). -/
def State.cert (s : State) : Bool := s.on F.KEY_STATUS_CERT

/-- A locked block refuses writes to RW, RWS, RWP and RWT fields from every requester but the seal port (R431). -/
def State.lockRefuses (s : State) (p : Port) (r : RegDef) : Bool :=
  match blockOf r.addr with
  | some b => bit (s.get F.SYS_LOCK_LOCK) b && p != .seal && p != .none && !isSelector r &&
      r.flds.any (fun f => f.ty == .RW || f.ty == .RWS || f.ty == .RWP || f.ty == .RWT)
  | none => false

/-- The refusal of a write by role, certified mode or lock, in that order (R427). Only the seal port writes into the legal partition (R16,
R120). -/
def State.writeRefusal (s : State) (p : Port) (r : RegDef) (i v : Nat) : Option WRef :=
  let isRole := r.addr == F.PORT_ROLE_UPL0.addr
  if p = .service ∧ s.restricted then some .role
  else if (p = .service ∨ p = .seal) ∧ !r.flds.any (mayWrite p r i) then some .role
  else if isTp r ∧ i < 64 ∧ p ≠ .none then some .role
  else if isRole ∧ (p ≠ .config ∨ s.on F.SYS_STATUS_FULLREADY) then some .role
  else if (r.addr = F.KEY_CERT_BLOW.addr ∨ r.addr = F.DISP_PLATE_COMMON.addr) ∧ p ≠ .seal then some .role
  else if (isLegal r ∨ r.addr = F.BILL_CHKCMD_RECOMPUTE.addr) ∧ p ≠ .seal then some .role
  else if s.cert ∧ isTamperCfg r ∧ p ≠ .seal ∧ p ≠ .none then some .cert
  else if s.cert ∧ r.addr = F.METER_CTRL_NONE_OK.addr ∧ bit v 0 then some .cert
  else if s.cert ∧ r.addr = F.PIPE_CTRL_EN.addr ∧ !bit v 2 then some .cert
  else if s.cert ∧ r.addr = F.TAMPER_ARM_ARM.addr ∧ v / 256 % 64 ≠ 63 then some .cert
  else if s.cert ∧ r.addr = F.FAULT_CTRL_LIVE.addr ∧ bit v 0 then some .cert
  else if s.lockRefuses p r then some .lock
  else none

/-! ## Hooks: what applying a register's fields does at that instant -/

/-- The longest PLCA cycle of a segment in ns (R285). -/
def State.plcaCycle (s : State) (n : Nat) : Nat :=
  let b := 12240 + s.geti F.T1S_PLCA_BTMR n
  100 * (20 + (s.geti F.T1S_PLCA_NCNT n - 1) * max (s.geti F.T1S_PLCA_TOTMR n) ((s.geti F.T1S_PLCA_NBC n + 1) * b) +
    (s.geti F.T1S_PLCA_MAXBC n + 1) * b)

/-- Segments whose enable changed start or stop their beacon (R284, event 0x6202). -/
def State.beacons (s : State) (old : Nat) : State :=
  (List.range 8).foldl (fun s n =>
    let e := bit (s.get F.T1S_CTRL_EN) n
    if e = bit old n then s
    else (s.set F.T1S_STATUS_BEACON (setBit (s.get F.T1S_STATUS_BEACON) n e)).log 0x6202 [(1, n), (1, b2n e)] (.ag 12)) s

/-- A domain that becomes tracked has no prediction, and its runs begin anew (R30, R39, R40). One that stops being tracked loses its lock
by the announces it no longer takes (R33). -/
def State.trackHook (s : State) (d : Nat) (was now : Bool) : State :=
  if was || !now then s
  else
    let x := if d = 0 then s.time.d0 else s.time.d1
    let y := { x with pred := none, run4 := [], run16 := 0, cand := false, ptp := {} }
    { s with time := if d = 0 then { s.time with d0 := y } else { s.time with d1 := y } }

/-- Masks withdrawn from every publishing channel, with the cause of 0x6020 (R242). -/
def State.withdraw (s : State) (cause : Nat) : State :=
  (List.range 6).foldl (fun s r =>
    if bit (s.get F.PLC_STATUS_PUBLISH) r then
      (s.set F.PLC_STATUS_PUBLISH (setBit (s.get F.PLC_STATUS_PUBLISH) r false)).log 0x6020 [(1, r), (1, cause)] (.ag 10)
    else s) s

/-- Masks published again by every running channel, where the conditions of R242 hold. -/
def State.restoreMasks (s : State) : State :=
  if s.on F.PLC_CTRL_HATCH_EN && s.get F.MAINS_STATUS_STATE == 2 then
    (List.range 6).foldl (fun s r =>
      if bit (s.get F.PLC_CTRL_RXEN) r && !bit (s.get F.PLC_STATUS_PUBLISH) r then
        (s.set F.PLC_STATUS_PUBLISH (setBit (s.get F.PLC_STATUS_PUBLISH) r true)).log 0x6020 [(1, r), (1, 2)] (.ag 10)
      else s) s
  else s

/-- A change of HATCH_EN (R242), or of RXEN: a channel that does not run publishes no masks. -/
def State.hatchHook (s0 : State) (old : Bool) : State :=
  let s := s0.set F.PLC_STATUS_PUBLISH (s0.get F.PLC_STATUS_PUBLISH &&& s0.get F.PLC_CTRL_RXEN)
  if old && !s.on F.PLC_CTRL_HATCH_EN then s.withdraw 1
  else if !old && s.on F.PLC_CTRL_HATCH_EN then s.restoreMasks else s

/-- The records missing from the long roll up to a SEQ (R370). -/
def State.longGap (s : State) (next : Nat) : State :=
  match s.ev.long.getLast? with
  | some r => if (r.seq + 1) % 4294967296 = next % 4294967296 then s
      else s.log 0x8043 [(4, (r.seq + 1) % 4294967296), (4, (next + 4294967295) % 4294967296)] (.ag 17)
  | none => s

/-- The long roll taken up again at a start (R370): every record of the roll area later than the last durable one follows it; what the
roll area no longer holds is reported. -/
def State.longResume (s : State) : State :=
  match s.ev.long.getLast? with
  | some r =>
    let later := s.ev.roll.filter (fun x => let d := (x.seq + 4294967296 - r.seq) % 4294967296; decide (0 < d) && decide (d < 2147483648))
    let first := (later.head?.map (fun x => x.seq)).getD s.ev.total
    let s1 : State := { s with ev := { s.ev with long := s.ev.long ++ later } }
    if (r.seq + 1) % 4294967296 = first % 4294967296 then s1
    else s1.log 0x8043 [(4, (r.seq + 1) % 4294967296), (4, (first + 4294967295) % 4294967296)] (.ag 17)
  | none => s

/-- What taking effect does (R30, R43, R135, R284, R285, R316, R370, R372, R416, R456). `old` is the state before the fields were set. -/
def State.onApply (old s : State) (addr : Nat) : State :=
  if addr = F.EVREC_CTRL_LONG_EN.addr then
    let s := if !old.on F.EVREC_CTRL_RATE_EN && s.on F.EVREC_CTRL_RATE_EN then
      ({ s with ev := { s.ev with buckets := (s.ev.buckets.filter (fun b => b.supp != 0)).map (fun b => { b with missing := 0, since := s.time.clk }) } } : State) else s
    if !old.on F.EVREC_CTRL_LONG_EN && s.on F.EVREC_CTRL_LONG_EN then
      if s.on F.SYS_STATUS_C0READY then s.longGap s.ev.total else s.longResume
    else s
  else if addr = F.TIME_CTRL_DOM0_EN.addr then
    (s.trackHook 0 (old.on F.TIME_CTRL_DOM0_EN) (s.on F.TIME_CTRL_DOM0_EN)).trackHook 1 (old.on F.TIME_CTRL_DOM1_EN)
      (s.on F.TIME_CTRL_DOM1_EN)
  else if addr = F.TIME_UTCOFS_CFG.addr then
    let was := s.get F.TIME_UTCOFS_CUR
    let now := s.get F.TIME_UTCOFS_CFG
    if s.on F.TIME_UTCOFS_FROMPTP || was == now then s
    else { s.set F.TIME_UTCOFS_CUR now with time := { s.time with utcHist := s.time.utcHist ++ [(s.time.dev / nsS, was, now)] } }
  else if addr = F.T1S_CTRL_EN.addr then s.beacons (old.get F.T1S_CTRL_EN)
  else if F.T1S_PLCA_NCNT.addr ≤ addr ∧ addr < F.T1S_PLCA_NCNT.addr + 256 ∧ (addr - F.T1S_PLCA_NCNT.addr) % 32 = 0 then
    let n := (addr - F.T1S_PLCA_NCNT.addr) / 32
    s.seti F.T1S_CYCMAX n (s.plcaCycle n)
  else if F.TAMPER_INCFG_EN.addr ≤ addr ∧ addr < F.TAMPER_INCFG_EN.addr + 32 then
    -- R329, R334: in certified mode the seal counts as broken while no input has SEAL set
    if s.on F.KEY_STATUS_CERT && !(List.range 8).any (fun n => s.geti F.TAMPER_INCFG_SEAL n == 1) then s.set F.TAMPER_STATUS_SEALBRK 1
    else s
  else if addr = F.KEY_PLC_SEED.addr then
    if old.get F.KEY_PLC_SEED = s.get F.KEY_PLC_SEED ∧ old.get F.KEY_PLC_GMKNUM = s.get F.KEY_PLC_GMKNUM then s else s.takeGmks true
  else if addr = F.RADIO_CTRL_BAND.addr ∨ addr = F.RADIO_WIN_CENTER.addr then
    if old.get F.RADIO_CTRL_BAND = s.get F.RADIO_CTRL_BAND ∧ old.get F.RADIO_WIN_CENTER = s.get F.RADIO_WIN_CENTER then s
    else s.checkRows
  else if addr = F.DISP_CTRL_EN.addr then s.dispEnable (old.on F.DISP_CTRL_EN)
  else if addr = F.PLC_CTRL_RXEN.addr then s.hatchHook (old.on F.PLC_CTRL_HATCH_EN)
  else if addr = F.MAINS_CTRL_EN.addr then
    -- R56: NOMINAL sets the starting frequency of the loop; before the first crossing the clock counts at it
    if s.on F.MAINS_CTRL_EN && s.get F.MAINS_STATUS_STATE == 0 then
      let f := if s.on F.MAINS_CTRL_NOMINAL then 3932160 else 3276800
      { s with mains := { s.mains with
        ang := s.mains.ang + (s.time.clk - s.mains.at_) * s.mains.freq / nsS, at_ := s.time.clk, freq := f, base := f } }
    else s
  else if addr = F.QOS_CTRL_PREEMPT.addr then
    -- R211: without verification preemption counts as active; where it is off it is not
    let m := s.get F.QOS_CTRL_PREEMPT
    let s1 := s.set F.QOS_STATUS_PREACT (if s.on F.QOS_CTRL_VERIFY then s.get F.QOS_STATUS_PREACT &&& m else m)
    -- the exchange with the partner begins where preemption is set to be verified on a link that is up
    [0, 1].foldl (fun (t : State) u =>
      if bit m u && t.on F.QOS_CTRL_VERIFY && !bit (t.get F.QOS_STATUS_PREACT) u && t.geti F.UPLINK_STATUS_LINK u == 1 &&
        !(bit (old.get F.QOS_CTRL_PREEMPT) u && old.on F.QOS_CTRL_VERIFY) then t.mpacket u 0 else t) s1
  else if addr = F.DIST_RESUME_KWPS.addr then
    if s.dist.rq.isEmpty then s
    else
      -- R193: what has accrued stays; where it covers the awaited post's step already, the instant at which it did stands
      let b := old.get F.DIST_RESUME_KWPS * 1000
      let m := ((s.dist.cur.bind (fun x => s.dist.posts.find? (fun p => p.slot == x))).map (fun p =>
        (if p.pmax = 0 then old.get F.DIST_RESDEF_W else p.pmax) - p.climit)).getD 0
      let full := s.dist.tokAt + (m * nsS - s.dist.tokens + b - 1) / b
      { s with dist := { s.dist with
        tokens := s.dist.tokens + b * (s.time.clk - s.dist.tokAt), tokAt := s.time.clk
        fullAt := if s.dist.fullAt.isSome then s.dist.fullAt else if full ≤ s.time.clk then some full else none } }
  else if addr = F.PWR_INRUSH_STEPA.addr then
    -- R456: the value in force from the next power-good, in the always-on domain with a copy in the state store
    let x := (s.get F.PWR_INRUSH_STEPA, s.get F.PWR_INRUSH_STEPUS)
    { s with pwr := { s.pwr with inAon := some x, inStore := some x } }
  else if addr = F.BILL_DEMAND_LEN.addr then
    let l := s.get F.BILL_DEMAND_LEN
    let n := s.get F.BILL_DEMAND_NSUB
    -- R135: a write that changes nothing is no change
    if l = old.get F.BILL_DEMAND_LEN ∧ n = old.get F.BILL_DEMAND_NSUB then s
    else
      let run := s.on F.BILL_STATUS_RUN
      { s with leg := { s.leg with
        demandPend := some (l, n), taken := []
        hist := s.leg.hist ++ [⟨if run then s.leg.upto else s.pipe.serN, s.time.dev, run, .demand l n⟩] } }
  else s

/-! ## Applying values -/

/-- The origin of a write's journal record: those of FAULT writes are marked (R465). -/
def writeOrg (p : Port) (r : RegDef) : Org := if isFault r then { port := p, agent := 20, inj := true } else { port := p }

/-- Values put into the store, by key: each is a field of the register at `addr`. -/
def State.putVals (s : State) (r : RegDef) (i : Nat) (vals : List FVal) : State :=
  r.flds.foldl (fun s f => match lookupK (f.key i) vals with
    | some v => s.seti f i v
    | none => s) s

/-- A register's fields set at one instant: hooks, then the journal record unless nothing changed, or the writer is the
configuration image, or the register is a selector (R381). -/
def State.applyVals (s : State) (p : Port) (r : RegDef) (i : Nat) (vals : List FVal) : State :=
  if vals.isEmpty then s else
  let s1 := State.onApply s (s.putVals r i vals) (r.at_ i)
  let w0 := s.rawWord r i
  let w1 := s1.rawWord r i
  if w0 = w1 ∨ p = .config ∨ p = .none ∨ isSelector r then s1
  else s1.log 0xC001 [(4, r.at_ i), (4, w0), (4, w1)] (writeOrg p r)

/-- A captured or pending shadow applied. -/
def State.applyShadow (s : State) (x : Shadow) : State :=
  match findReg x.addr with
  | some (r, i) => s.applyVals x.port r i (x.vals.filter (fun v => r.flds.any (fun f => f.ty == .RWS && f.key i == v.1)))
  | none => s

/-- A domain's clock runs: its bit in CLK_STATUS.RUN (R442). -/
def domIx : Dom → Nat
  | .SYS => 0 | .DDR => 1 | .NAND => 2 | .UPL => 3 | .PTP => 4 | .PLC => 5 | .RF => 6 | .T1S => 7 | .DISP => 8
  | .MAINS => 9 | .AON => 10 | .SVC => 11

/-- Whether a domain's clock runs. -/
def State.runs (s : State) (d : Dom) : Bool := bit (s.get F.CLK_STATUS_RUN) (domIx d)

/-- Whether a domain's stop condition of R442 holds; the domains without one never stop. -/
def State.stopCond (s : State) : Dom → Bool
  | .UPL => s.geti F.UPLINK_CFG_EN 0 == 0 && s.geti F.UPLINK_CFG_EN 1 == 0
  | .PLC => s.get F.PLC_CTRL_RXEN == 0 && s.get F.PLC_CTRL_TXEN == 0
  | .RF => s.get F.RADIO_CTRL_RXEN == 0 && s.get F.RADIO_CTRL_TXEN == 0
  | .T1S => s.get F.T1S_CTRL_EN == 0
  | .DISP => s.on F.DISP_STATUS_OFF
  | .MAINS => !s.on F.MAINS_CTRL_EN
  | _ => false

/-- A domain woken by an access (R444), while it stands still; one whose PLL is lost stays stopped (R446). The time of the access is
kept: the domain stops again CLK_IDLE.MS after the last. -/
def State.wake (s : State) (d : Dom) : State :=
  if s.pwr.noPll.contains d || (s.runs d && !s.stopCond d) then s
  else
    { (s.set F.CLK_STATUS_RUN (setBit (s.get F.CLK_STATUS_RUN) (domIx d) true)) with
      pwr := { s.pwr with
        woken := (d, s.time.clk) :: s.pwr.woken.filter (fun x => x.1 != d), wakeBad := s.pwr.wakeBad.filter (fun x => x != d) } }

/-- A pending write of RADIO_CTRL that a strobe does not take (R274): it changes BAND and would not leave RXEN and TXEN at 0. The
whole register's shadow waits, since its fields never part (R10). -/
def State.bandHolds (s : State) (x : Shadow) : Bool :=
  let v := fun (f : Fld) => (lookupK (f.key 0) x.vals).getD (s.get f)
  x.addr == F.RADIO_CTRL_BAND.addr && v F.RADIO_CTRL_BAND != s.get F.RADIO_CTRL_BAND &&
    (v F.RADIO_CTRL_RXEN == 1 || v F.RADIO_CTRL_TXEN == 1)

/-- A strobe group fires (R430, R54): the SYS domain's values apply at once, the others are captured and cross. -/
def State.fireGroup (s : State) (g : Nat) : State :=
  let takes := fun (x : Shadow) => x.sg == g && !s.bandHolds x
  let mine := s.reg.shadows.filter takes
  let now := mine.filter (fun x => x.dom == .SYS)
  let later := mine.filter (fun x => x.dom != .SYS)
  let s1 : State := { s with reg := { s.reg with
    shadows := s.reg.shadows.filter (fun x => !takes x), xing := s.reg.xing ++ later } }
  now.foldl (fun s x => s.applyShadow x) s1

/-- The groups of a mask fire, in order. -/
def State.fireMask (s : State) (m : Nat) : State :=
  (List.range 16).foldl (fun s g => if bit m g then s.fireGroup g else s) s

/-! ## One write -/

/-- What a write gave: the state, whether it was refused (0xE1), whether it had an effect (R436). -/
structure WRes where
  st : State
  refused : Bool := false
  effect : Bool := true

/-- What a written register does at once: WO fields and selectors. The port, the register's address, the value. -/
abbrev Act := Port → Nat → Nat → State → State

/-- The new shadow of a register after a write (R10, R489): fields in range take the value; one out of range keeps the
shadow value it had. -/
def State.newShadow (s : State) (p : Port) (r : RegDef) (i v : Nat) (fs : List Fld) : Option Shadow :=
  let vals := fs.filterMap (fun f =>
    if s.inRange f i (f.of v) v then
      let x := if f = F.T1S_CTRL_QUAL then f.of v ||| s.qualHeld else f.of v
      some (f.key i, x)
    else (s.pendingOf f i).map (fun x => (f.key i, x)))
  match fs.head? with
  | some f => if vals.isEmpty then none else some ⟨r.at_ i, vals, f.sg, f.dom, p⟩
  | none => none

/-- The value an RWP or RW field takes: SYS_LOCK keeps bits written 0 (R440), TAMPER_ARM bit 13 is fixed at 1 (R328),
KEY_CERT.BLOW is never unblown and only blown while the latch is clear (R334), requested runs stay pending (R238, R273, R467), RADIO and other fields take the bits as they are. -/
def State.taken (s : State) (f : Fld) (v : Nat) : Nat :=
  if f = F.SYS_LOCK_LOCK then s.get F.SYS_LOCK_LOCK ||| v
  else if f = F.TAMPER_ARM_ARM then setBit v 13 true
  else if f = F.KEY_CERT_BLOW then (if s.on F.TAMPER_STATUS_LATCH then s.get f else max v (s.get f))
  else if f = F.PLC_CAL_RUN ∨ f = F.RADIO_CAL_RUN ∨ f = F.FAULT_ST_BURIN ∨ f = F.FAULT_ST_KEY then s.get f ||| v
  else v

/-- The values that a write leaves in a register's W1C fields (R8). -/
def State.cleared (s : State) (p : Port) (r : RegDef) (i v : Nat) : List FVal :=
  (r.flds.filter (fun f => f.ty == .W1C && mayWrite p r i f)).map
    (fun f => (f.key i, s.geti f i - (s.geti f i &&& f.of v)))

/-- A write applied by field type (R8, R489): ranges, W1C, RW, RWT and completed RWP fields now, RWS fields into the
shadow, then the register's own action. FAULT_INJ is its action's alone (R460). -/
def State.applyWrite (s : State) (act : Act) (p : Port) (r : RegDef) (i v : Nat) : WRes :=
  if r.addr = F.FAULT_INJ_DET.addr then { st := act p (r.at_ i) v s } else
  let fs := r.flds.filter (fun f => mayWrite p r i f)
  let settable := fs.filter (fun f => f.ty != .RO)
  let bad := settable.any (fun f => !s.inRange f i (f.of v) v) ||
    (r.addr == F.T1S_CTRL_EN.addr && s.qualHeld &&& F.T1S_CTRL_QUAL.of v != s.qualHeld)
  let okF := settable.filter (fun f => s.inRange f i (f.of v) v)
  let nowVals := (okF.filter (fun f => f.ty == .RW || f.ty == .RWP || f.ty == .RWT)).map
    (fun f => (f.key i, s.taken f (f.of v)))
  let triKeys := (okF.filter (fun f => f.ty == .RWT)).map (fun f => f.key i)
  let s0 : State := { s with reg := { s.reg with tri := s.reg.tri.filter (fun t => !triKeys.contains t.key) } }
  let s1 := State.putVals (s0.applyVals p r i nowVals) r i (s.cleared p r i v)
  let s2 := match s1.newShadow p r i v (settable.filter (fun f => f.ty == .RWS)) with
    | some x => { s1 with reg := { s1.reg with shadows := s1.reg.shadows.filter (fun y => y.addr != x.addr) ++ [x] } }
    | none => s1
  let s3 := if bad then s2.log 0x1030 [(4, r.at_ i)] { port := p } else s2
  let s4 := if isLegal r ∧ s3.rawWord r i ≠ s.rawWord r i then
      -- BILL_DEMAND carries the values in force besides (R156)
      let now := if r.addr = F.BILL_DEMAND_LEN.addr then s3.rawWord r i % 256 + 256 * s3.leg.common.len + 4096 * s3.leg.common.nsub
        else s3.rawWord r i
      s3.log 0x3140 [(4, r.at_ i), (4, now)] { port := p, agent := 6 } else s3
  let wo := okF.filter (fun f => f.ty == .WO)
  let wv := (wo.map (fun f => f.of v * 2 ^ f.bit)).sum
  let s5 := if wo.isEmpty || p == .config || p == .none || isSelector r then s4
    else s4.log 0xC001 [(4, r.at_ i), (4, 0), (4, wv)] (writeOrg p r)
  let s6 := if okF.isEmpty then s5 else act p (r.at_ i) v s5
  { st := s6, effect := !bad }

/-- A refused write, logged by its own rule (R22, R288, R334, R431). -/
def State.refuseWrite (s : State) (p : Port) (a : Nat) : WRef → State
  | .role => s.log 0x7010 [(1, portCode p), (1, s.role p), (4, a)] { port := p }
  | .cert => s.log 0x700B [(4, a)] { port := p, agent := 13 }
  | .lock => s.log 0x0020 [(1, portCode p), (4, a)] { port := p }

/-- A write that has passed the pair rule: role, certified mode and lock (R427), then the fields. -/
def State.checkedWrite (s : State) (act : Act) (p : Port) (r : RegDef) (i v : Nat) : WRes :=
  match s.writeRefusal p r i v with
  | some w =>
    let s1 := s.refuseWrite p (r.at_ i) w
    -- R431: a lock refuses the fields it names, and a field of type W1C beside them still clears
    { st := if w = .lock then s1.putVals r i (s1.cleared p r i v) else s1, refused := true, effect := false }
  | none => s.applyWrite act p r i v

/-- A discarded pair (R425): counted and logged with its cause, as an injection's effect where one corrupted it. -/
def State.pairDiscardBy (s : State) (w : Option Port) (p : Port) (a cause : Nat) : State :=
  let fl := [(4, a), (1, cause), (1, portCode p)]
  match w with
  | some o => (s.inc F.SYS_PAIRERR).logMarked o 0xC0F1 fl { port := p }
  | none => (s.inc F.SYS_PAIRERR).log 0xC0F1 fl { port := p }

/-- A discarded pair (R425). -/
def State.pairDiscard (s : State) (p : Port) (a cause : Nat) : State := s.pairDiscardBy none p a cause

/-! ## Injections at the registers (R457, R461, R465) -/

/-- FAULT_ADDR (R469). -/
def State.faultAddr (s : State) : Nat := s.get F.FAULT_ADDRL + 4294967296 * s.get F.FAULT_ADDRH

/-- Whether a held occurrence forces an injection point now (R457). -/
def State.forces (s : State) (det arg : Nat) : Bool :=
  s.fault.holdEnd.isSome && s.get F.FAULT_STATUS_DET == det && s.get F.FAULT_INJ_ARG == arg

/-- An event of the running injection (R465). -/
def State.faultLog (s : State) (code : Nat) (fl : List (Nat × Nat)) : State := s.logMarked s.fault.org code fl (.ag 20)

/-- An injection ends (R461): event 0xB003 with the occurrences fired. -/
def State.faultFinish (s : State) : State :=
  let s1 := (s.set F.FAULT_STATUS_ACTIVE 0).set F.FAULT_STATUS_LEFT 0
  let s2 : State := { s1 with fault := { s1.fault with armed := false, waits := false, holdEnd := none, gapEnd := none } }
  s2.faultLog 0xB003 [(1, s.get F.FAULT_STATUS_DET), (4, s.fault.fired), (1, s.get F.FAULT_STATUS_PATHOK)]

/-- An occurrence fires (R461): counted, event 0xB001. -/
def State.faultFired (s : State) : State :=
  let s1 : State := { s.inc F.FAULT_INJCNT with fault := { s.fault with fired := s.fault.fired + 1, waits := false, gapEnd := none } }
  s1.faultLog 0xB001 [(1, s.get F.FAULT_STATUS_DET), (1, s.get F.FAULT_INJ_ARG), (4, s.fault.fired + 1), (1, s.get F.FAULT_CTRL_LIVE)]

/-- An occurrence used up (R457): fewer are left. -/
def State.faultUsed (s : State) : State :=
  let s1 := s.set F.FAULT_STATUS_LEFT (s.get F.FAULT_STATUS_LEFT - 1)
  { s1 with fault := { s1.fault with armed := false, holdEnd := none } }

/-- Whether the second write of a pair to an address is to be corrupted (DET 24 of R457). -/
def State.pairForced (s : State) (a : Nat) : Bool :=
  s.on F.FAULT_STATUS_ACTIVE && s.fault.armed && s.get F.FAULT_STATUS_DET == 24 && s.faultAddr == a

/-- The pair that DET 24 corrupted: the occurrence is used up, and the next fires. -/
def State.pairForcedEnd (s : State) : State :=
  let s1 := s.faultUsed
  if s1.get F.FAULT_STATUS_LEFT = 0 then s1.faultFinish
  else if s1.on F.PWR_STATUS_WARN then { s1 with fault := { s1.fault with waits := true } }
  else ({ s1 with fault := { s1.fault with armed := true } } : State).faultFired

/-- A value with bit 0 inverted. -/
def flip0 (v : Nat) : Nat := setBit v 0 (!bit v 0)

/-- The clock domain that serves a register. -/
def domOfReg (a : Nat) : Dom :=
  match findReg a with
  | some (r, _) => (r.flds.head?.map (fun f => f.dom)).getD .SYS
  | none => .SYS

/-- The time of 64 cycles of a domain's clock (R425, R442) in ns. -/
def State.pairWindow (s : State) (d : Dom) : Nat :=
  match d with
  | .SYS | .SVC => 64
  | .DDR | .NAND => 160
  | .UPL => 410
  | .PTP => 256
  | .PLC => 5334
  | .RF => 1600
  | .T1S => 2560
  | .DISP => 16000
  | .MAINS => 64 * nsS / max 1 s.mains.freq
  | .AON => 1953125

/-- The first write that a requester has in progress at the registers. -/
def State.heldBy (s : State) (p : Port) : Option HeldWrite := s.reg.held.find? (fun h => h.port == p)

/-- A requester's first write dropped. -/
def State.dropHeld (s : State) (p : Port) : State :=
  { s with reg := { s.reg with held := s.reg.held.filter (fun h => h.port != p) } }

/-- The requester's next write goes to another address: the pair in progress is discarded with cause 1 (R425). -/
def State.breakPair (s : State) (p : Port) : State :=
  match s.heldBy p with
  | some h => (s.dropHeld p).pairDiscard p h.addr 1
  | none => s

/-- A first write whose 64 cycles have passed is discarded with cause 1 (R425). -/
def State.lapse (s : State) (p : Port) : State :=
  match s.heldBy p with
  | some h => if h.since + s.pairWindow (domOfReg h.addr) < s.time.clk then s.breakPair p else s
  | none => s

/-- A write to a complement alias (R425). -/
def State.aliasWrite (s : State) (act : Act) (p : Port) (r : RegDef) (i v : Nat) : WRes :=
  match s.heldBy p with
  | some h =>
    if h.addr = r.at_ i then
      let s1 := s.dropHeld p
      let forced := s.pairForced h.addr
      let good := decide ((if forced then flip0 v else v) = 4294967295 - h.v)
      if good then
        let w := s1.checkedWrite act p r i h.v
        { w with st := if forced then w.st.pairForcedEnd else w.st }
      else if forced then { st := (s1.pairDiscardBy (some s.fault.org) p h.addr 0).pairForcedEnd, refused := true, effect := false }
      else { st := s1.pairDiscard p h.addr 0, refused := true, effect := false }
    else { st := (s.breakPair p).pairDiscard p (r.at_ i) 2, refused := true, effect := false }
  | none => { st := s.pairDiscard p (r.at_ i) 2, refused := true, effect := false }

/-- An access outside every block (R19): without effect, logged once per second with the first address. -/
def State.unmapped (s : State) (p : Port) (a : Nat) : State :=
  s.logOnce Config.unmappedCode 0 nsS [(4, a)] { port := p }

/-- One write at the registers (R8, R9, R19, R424, R425), whoever sends it. R436 does not list a write to an offset that a block does not
describe among the records that cannot act. -/
def State.regWriteCore (s' : State) (act : Act) (p : Port) (a v : Nat) : WRes :=
  let s := s'.lapse p
  if a < 0x40000000 ∨ 0x50000000 ≤ a then { st := s.breakPair p, effect := false }
  else if 0x401B0000 ≤ a then { st := (s.breakPair p).unmapped p a, effect := false }
  else match findReg a with
    | some (r, i) =>
      if r.prot = .pair then
        let s1 := s.breakPair p
        { st := { s1 with reg := { s1.reg with held := ⟨p, r.at_ i, v, s1.time.clk⟩ :: s1.reg.held } }, effect := false }
      else (s.breakPair p).checkedWrite act p r i v
    | none =>
      match findAlias a with
      | some (r, i) => s.aliasWrite act p r i v
      | none => { st := s.breakPair p }

/-- The ports that carry register accesses (R287). -/
def spiPort : Port → Bool
  | .service => true
  | .seal => true
  | _ => false

/-- What an SPI port notes of a write (R287, R288, R307): LASTREF, and PORT_SPIREF where it was refused. -/
def State.spiNote (s : State) (p : Port) (refused : Bool) : State :=
  if !spiPort p then s
  else
    let rest := s.reg.lastRef.filter (fun x => x != p)
    let s1 : State := { s with reg := { s.reg with lastRef := if refused then p :: rest else rest } }
    if refused then s1.inc F.PORT_SPIREF else s1

/-- One write at the registers; a port bound to NONE takes none (R275). -/
def State.regWrite (s : State) (act : Act) (p : Port) (a v : Nat) : WRes :=
  if spiPort p && s.role p == 0 then { st := s, effect := false }
  else
    let w := s.regWriteCore act p a v
    { w with st := w.st.spiNote p w.refused }

/-- The action of a write whose register has none. -/
def noAct : Act := fun _ _ _ s => s

/-! ## The meanings of the register rows -/

/-- UNMAPPED_ACCESS (R19): a read returns zero and a write has no effect; logged once per second. -/
def execUnmappedAccess (p : Port) (addr : Nat) (_write : Bool) (s : State) : Out :=
  ok (if 0x401B0000 ≤ addr ∧ addr < 0x50000000 then s.unmapped p addr else s)

/-- PAIR_TIMEOUT (R425): the 64 cycles pass without the second write. -/
def execPairTimeout (p : Port) (s : State) : Out :=
  ok (match s.heldBy p with
    | some h => (s.advTo (h.since + s.pairWindow (domOfReg h.addr))).breakPair p
    | none => s)

/-- How long an SPI port holds the first write of a pair (R426): 10 ms. -/
def spiHoldNs : Nat := 10000000

/-- The write that an SPI port holds is discarded with cause 1 and LASTREF is set (R426). -/
def State.spiHoldDrop (s : State) (p : Port) : State :=
  match s.reg.spiHeld.find? (fun h => h.port == p) with
  | some h =>
    let s1 : State := { s with reg := { s.reg with
      spiHeld := s.reg.spiHeld.filter (fun x => x.port != p)
      lastRef := if s.reg.lastRef.contains p then s.reg.lastRef else p :: s.reg.lastRef } }
    s1.pairDiscard p h.addr 1
  | none => s

/-- SPI_PAIR_HOLD_EXPIRE (R426): 10 ms pass without the second write. -/
def execSpiPairHoldExpire (p : Port) (s : State) : Out :=
  ok (match s.reg.spiHeld.find? (fun h => h.port == p) with
    | some h => (s.advTo (h.since + spiHoldNs)).spiHoldDrop p
    | none => s)

/-- One vote over three copies (R428). -/
def State.voteOne (s : State) (t : TriCopies) : State :=
  let addr := t.key / 32
  match (findReg addr).bind (fun ri => (ri.1.flds.find? (fun f => f.key ri.2 == t.key)).map (fun f => (f, ri.2))) with
  | none => s
  | some (f, i) =>
    let clear : State := { s with reg := { s.reg with tri := s.reg.tri.filter (fun x => x.key != t.key) } }
    let maj := if t.c0 = t.c1 ∨ t.c0 = t.c2 then some t.c0 else if t.c1 = t.c2 then some t.c1 else none
    match maj with
    | some v =>
      let s1 := clear.seti f i v
      if t.c0 = t.c1 ∧ t.c1 = t.c2 then s1
      else (s1.inc F.SYS_TRICORR).marked t.org (fun x => x.logOnce 0x0021 0 nsS [(4, addr)] (.ag 1))
    | none => (((clear.inc F.SYS_TRIFAULT).set F.SYS_STATUS_TRIFAULT 1)).logMarked t.org 0xB020 [(4, addr)] (.ag 1)

/-- TRIPLE_VOTE (R428): the vote of every triplicated field. -/
def execTripleVote (s : State) : Out := ok (s.reg.tri.foldl (fun s t => s.voteOne t) s)

/-- SYS_STROBE (R430, R440): groups whose bits are written 1 fire at once. -/
def execSysStrobe (p : Port) (v : Word) (s : State) : Out :=
  ok (s.regWrite (fun _ _ v s => s.fireMask (v % 65536)) p F.SYS_STROBE_FIRE.addr v.toNat).st

/-- CROSSING_COMPLETE (R430, R442): every value captured for the domain applies at one instant; a stopped domain wakes for it (R445). -/
def State.crossed (s : State) (d : Dom) : State :=
  let mine := s.reg.xing.filter (fun x => x.dom == d)
  let s1 : State := { s with reg := { s.reg with xing := s.reg.xing.filter (fun x => x.dom != d) } }
  mine.foldl (fun s x => s.applyShadow x) (if mine.isEmpty then s1 else s1.wake d)

/-- CROSSING_COMPLETE; a domain that a lost PLL holds stopped takes nothing (R446). -/
def execCrossingComplete (d : Dom) (s : State) : Out := ok (if s.pwr.noPll.contains d then s else s.crossed d)

/-- A completed pair write of an RWP register (R425), unless an injection corrupts its second write. -/
def State.pairWrite (s : State) (act : Act) (p : Port) (f : Fld) (v : Nat) : State :=
  if spiPort p && s.role p == 0 then s
  else match findReg f.addr with
  | some (r, i) =>
    if s.pairForced f.addr then (((s.dropHeld p).pairDiscardBy (some s.fault.org) p f.addr 0).pairForcedEnd).spiNote p true
    else
      let w := (s.dropHeld p).checkedWrite act p r i v
      w.st.spiNote p w.refused
  | none => s

/-- SYS_LOCK (R431): the completed pair write of SYS_LOCK. -/
def execSysLock (p : Port) (v : Word) (s : State) : Out := ok (s.pairWrite noAct p F.SYS_LOCK_LOCK v.toNat)

end Sys2Proof.Machine
end

