-- ==== Sys2Proof/Machine/Derive.lean ====
section
/-! DEFINITION. The derivation tree (R311 to R318): roots, seeds, meter keys and the key cache; and the sealed Gucor envelope
that the G1M builds (R60, R63). -/

namespace Sys2Proof.Machine

/-- The tree root of a generation (R315). -/
def treeRoot (g : Nat) : Bytes := kdf Config.fuseRoot "ROOT" (be 1 g) 256

/-- A P-384 scalar (R312). -/
def scalarOf (k : Bytes) (label : String) : Nat := ofBe (kdf k label [] 512) % (p384.n - 1) + 1

/-- The stored flat key, where the storage key in force unseals it (R323). -/
def State.flatKey (s : State) : Option Bytes :=
  if s.rootOpen then
    match s.key.flat with
    | some x => if x.gen = s.get F.KEY_STATUS_GEN then some x.key else none
    | none => none
  else none

/-- The meter key of an identity and key version under a seed handle (R315). -/
def State.meterKey (s : State) (seed ident ver : Nat) : Option Bytes :=
  (s.seedOf seed).map (fun k => kdf k "MTR" (be 8 ident ++ be 1 ver) 256)

/-- Whether the group master key of a receive channel is held (R231, R315, R316). Its bytes reach members by the G.9903 key
distribution. -/
def State.hasGmk (s : State) (r : Nat) : Bool := (lookupK r s.key.gmks).isSome

/-- The bootstrap PSK of an identity under a seed handle (R230, R315). -/
def State.pskOf (s : State) (seed ident : Nat) : Option Bytes :=
  (s.seedOf seed).map (fun k => kdf k "PLCPSK" (be 8 ident) 128)

/-- The SAK of an uplink and key number (R280, R315, R323). -/
def State.sak (s : State) (u knum : Nat) : Option Bytes :=
  if s.on F.KEY_STATUS_FLAT then s.flatKey
  else (s.seedOf (s.geti F.UPLINK_MSCFG_SEED u)).map (fun k => kdf k "MACSEC" (be 1 u ++ be 4 knum) 256)

/-- The MACsec XPN salt of an uplink and key number (R280, R315, R323). -/
def State.msSalt (s : State) (u knum : Nat) : Bytes :=
  ((if s.on F.KEY_STATUS_FLAT then s.flatKey else s.seedOf (s.geti F.UPLINK_MSCFG_SEED u)).map
    (fun k => kdf k "MSSALT" (be 1 u ++ be 4 knum) 96)).getD []

/-- The two keys of a MACsec association derived: by the engine, and in flat key mode by the controller (R315, R336). -/
def State.sakDerived (s : State) : State := if s.on F.KEY_STATUS_FLAT then s else s.derived.derived

/-- The MACsec state of an uplink. -/
def State.sec (s : State) (u : Nat) : MacSec := if u = 0 then s.port.sec0 else s.port.sec1

/-- The MACsec state of an uplink replaced. -/
def State.setSec (s : State) (u : Nat) (m : MacSec) : State :=
  { s with port := if u = 0 then { s.port with sec0 := m } else { s.port with sec1 := m } }

/-- A secure association installed on an uplink for which a key is held (R281): with key number UPLINK_KNUM, 0 in flat key mode. -/
def State.install (s : State) (u : Nat) : State :=
  if s.secured u || !s.canInstall u then s
  else
    let s1 := if s.on F.KEY_STATUS_FLAT then s.seti F.UPLINK_KNUM u 0 else s
    match s1.sak u (s1.geti F.UPLINK_KNUM u) with
    | some k => s1.sakDerived.setSec u { installed := true, key := k, salt := s1.msSalt u (s1.geti F.UPLINK_KNUM u) }
    | none => s

/-- Whether a cache entry carries a tag (R317). -/
def CacheEnt.hit (e : CacheEnt) (label seed imp : Nat) (ctx : Bytes) : Bool :=
  e.label == label && e.seed == seed && e.imp == imp && e.ctx == ctx

/-- The cache with room for one entry: full, it loses the least recently used entry that is not pinned (R317). -/
def evict (l : List CacheEnt) : List CacheEnt :=
  if l.length < 65536 then l
  else match (l.filter (fun e => !e.pinned)).foldl
      (fun m e => match m with | none => some e.age | some a => some (min a e.age)) none with
    | some a => l.eraseP (fun e => !e.pinned && e.age == a)
    | none => l

/-- The pinned entries counted in KEY_PINNED (R336). -/
def State.showPins (s : State) : State := s.set F.KEY_PINNED (s.key.cache.filter (fun e => e.pinned)).length

/-- A key looked up in the cache: a hit is counted and made young, a miss is counted and derived (R317). `pin` pins it (R186). -/
def State.cacheKey (s : State) (label seed : Nat) (ctx : Bytes) (pin : Bool) : State :=
  let imp := s.geti F.KEY_SEEDCNT_COUNT seed % 65536
  let a := s.key.age + 1
  if s.key.cache.any (fun e => e.hit label seed imp ctx) then
    let s1 := s.inc F.KEY_CHIT
    { s1 with key := { s1.key with age := a
                                   cache := s1.key.cache.map (fun e => if e.hit label seed imp ctx then { e with age := a, pinned := e.pinned || pin } else e) } }
  else
    let s1 := (s.inc F.KEY_CMISS).derived
    { s1 with key := { s1.key with age := a, cache := ⟨label, seed, imp, ctx, pin, a⟩ :: evict s1.key.cache } }

/-- The label code of meter keys in the tag array. -/
def lblMTR : Nat := 1

/-- The context of a meter key. -/
def mtrCtx (ident ver : Nat) : Bytes := be 8 ident ++ be 1 ver

/-- The pins of an identity removed (R186). -/
def State.unpin (s : State) (ident : Nat) : State :=
  ({ s with key := { s.key with cache := s.key.cache.map (fun e =>
    if e.label == lblMTR && e.ctx.take 8 == be 8 ident then { e with pinned := false } else e) } } : State).showPins

/-- Both keys of a post pinned (R186): versions v and v + 128. At most 32,768 entries are pinned. -/
def State.pinPost (s : State) (seed ident dkv : Nat) : State :=
  let s1 := s.unpin ident
  if (s1.seedOf seed).isNone || decide (32766 < (s1.key.cache.filter (fun e => e.pinned)).length) then s1
  else ((s1.cacheKey lblMTR seed (mtrCtx ident dkv) true).cacheKey lblMTR seed (mtrCtx ident (dkv + 128)) true).showPins

/-- Every cache entry of a seed handle removed (R318). -/
def State.dropSeed (s : State) (h : Nat) : State :=
  ({ s with key := { s.key with cache := s.key.cache.filter (fun e => e.seed != h) } } : State).showPins

/-- The 36 B header of an envelope from the G1M (R60, R64, R181). -/
def envHead (ident counter keyver content mtime plen : Nat) (enc : Bool) : Bytes :=
  be 2 0x4775 ++ be 1 1 ++ be 1 (b2n enc) ++ be 8 ident ++ be 4 counter ++ be 1 keyver ++ be 1 0 ++ be 1 content ++ be 1 0 ++
  timeBytes mtime ++ be 2 plen ++ be 2 0

/-- An envelope from the G1M, sealed with direction bit 1 (R63). -/
def sealEnv (key : Bytes) (ident counter keyver content mtime : Nat) (payload : Bytes) : Bytes :=
  let h := envHead ident counter keyver content mtime payload.length true
  let r := gcmSeal key (be 8 ident ++ be 4 (counter + 2147483648)) h payload
  h ++ r.1 ++ r.2

/-- An envelope without protection. -/
def plainEnv (ident counter keyver content mtime : Nat) (payload : Bytes) : Bytes :=
  envHead ident counter keyver content mtime payload.length false ++ payload

/-- One payload record (R61). -/
def recBytes (type : Nat) (v : Bytes) : Bytes := be 1 type ++ be 2 v.length ++ v

/-- The records of a payload: none where the structure breaks. -/
def records : Nat → Bytes → Option (List (Nat × Bytes))
  | _, [] => some []
  | 0, _ => none
  | n + 1, b =>
    if b.length < 3 then none
    else
      let l := beAt b 1 2
      if b.length < 3 + l then none
      else (records n (b.drop (3 + l))).map (fun r => (beAt b 0 1, sub b 3 l) :: r)

end Sys2Proof.Machine
end

