-- ==== Sys2Proof/Machine/Recorder.lean ====
section
/-! DEFINITION. The event recorder's commands (R362 to R382, R493): events, tokens, windows, freezes, the register window and
the reads of *The event recorder and change journal*. -/

namespace Sys2Proof.Machine

/-- EVENT_LOG (R366): an agent raises an event with the fields of its payload, each of its size (R364). -/
def execEventLog (code : Nat) (fields : List (Nat × Nat)) (agent : Nat) (s : State) : Out :=
  ok (s.log code fields (.ag agent))

/-- The next token of a code's bucket is gained (R372, R374): spent on a summary record while suppressed events wait to be reported. -/
def State.tokenGain (s : State) (code : Nat) : State :=
  let b := s.bucket code
  if (b.missing = 0 ∧ b.supp = 0) ∨ ¬ s.on F.EVREC_CTRL_RATE_EN then s
  else
    let x := (s.advTo (b.since + s.perToken code)).settle code
    x.1.announce x.2

/-- TOKEN_GAIN (R372, R374). -/
def execTokenGain (code : Nat) (s : State) : Out := ok (s.tokenGain code)

/-- The window of an event and key ends (R493). -/
def State.windowEnd (s : State) (code key : Nat) : State :=
  match s.ev.wins.find? (fun w => w.code == code && w.key == key) with
  | none => s
  | some w => (s.advTo w.endAt).windowOver code key

/-- EVENT_WINDOW_END (R493). -/
def execEventWindowEnd (code key : Nat) (s : State) : Out := ok (s.windowEnd code key)

/-- The held records and a lost record written into the areas in SEQ order (R371, R376, R377); the lost record is reported as it closes. -/
def State.flushHold (s : State) : State :=
  let s1 := s.ev.hold.foldl (fun s r => s.store r) s
  let s2 : State := { s1 with ev := { s1.ev with freeze := none, hold := [], lost := none } }
  match s.ev.lost with
  | some l =>
    let r := l.toRec (s.origin (.ag 17) + s.heldBit)
    tellWith (logD 2 (.ag 9)) (((s2.store r).uartCopy r).raiseFor r) r
  | none => s2

/-- A freeze ends (R376, R377): what it held is written, and 0x8042 is logged. -/
def State.endFreeze (s : State) : State :=
  match s.ev.freeze with
  | none => s
  | some (began, _) => s.flushHold.log 0x8042 [(4, (s.time.clk - began) / 1000000), (4, s.ev.hold.length)] (.ag 17)

/-- A freeze begins, or its end moves, never past 10 s after it began (R375, R376). -/
def State.freezeFor (s : State) (secs : Nat) : State :=
  let now := s.time.clk
  match s.ev.freeze with
  | none => { s with ev := { s.ev with freeze := some (now, now + secs * nsS) } }
  | some (began, _) => { s with ev := { s.ev with freeze := some (began, min (now + secs * nsS) (began + 10 * nsS)) } }

/-- FREEZE_END (R376): the end of the freeze in force comes. -/
def execFreezeEnd (s : State) : Out :=
  ok (match s.ev.freeze with
    | some (_, e) => (s.advTo e).endFreeze
    | none => s)

/-- What a write of EVREC_FREEZE does (R376): THAW first, then SECS of 1 to 10. -/
def freezeAct : Act := fun _ _ v s =>
  let s1 := if bit v 4 then s.endFreeze else s
  let n := F.EVREC_FREEZE_SECS.of v
  if 1 ≤ n ∧ n ≤ 10 then s1.freezeFor n else s1

/-- SECS (R375, R376): a write of EVREC_FREEZE with SECS. -/
def execEvSecs (p : Port) (v : Word) (s : State) : Out :=
  ok (s.regWrite freezeAct p F.EVREC_FREEZE_SECS.addr v.toNat).st

/-- THAW (R376): a write of EVREC_FREEZE with THAW. -/
def execEvThaw (p : Port) (v : Word) (s : State) : Out :=
  ok (s.regWrite freezeAct p F.EVREC_FREEZE_THAW.addr v.toNat).st

/-- The records of an area (R367 to R369). -/
def State.area (s : State) (a : Nat) : List Rec :=
  if a = 0 then s.ev.proof else if a = 1 then s.ev.roll else s.ev.long

/-- The forward distance of two sequences (R378). -/
def fwd (m a b : Nat) : Nat := (b + m - a % m) % m

/-- The window loaded from a cursor whose low 30 bits are given (R379). -/
def State.loadWin (s : State) (area seq : Nat) (exact : Bool) : State :=
  let l := s.area area
  let hit := l.dropWhile (fun r => r.seq % 1073741824 != seq % 1073741824)
  let later := l.dropWhile (fun r => decide (536870912 ≤ fwd 1073741824 (seq % 1073741824) (r.seq % 1073741824)))
  let rs := (if hit.isEmpty then later else hit).take 8
  let s1 : State := { s with ev := { s.ev with winRecs := rs } }
  let s2 := s1.set F.EVREC_CUR_SEQ (match rs.head? with | some r => r.seq | none => seq)
  let s3 := s2.set F.EVREC_WSTAT_VALID (2 ^ rs.length - 1)
  ((s3.set F.EVREC_WSTAT_SKIPPED (b2n (hit.isEmpty && !rs.isEmpty && exact))).set F.EVREC_WSTAT_DONE 1)

/-- What a write of EVREC_SEL does (R379). -/
def evselAct : Act := fun _ _ _ s => s.loadWin (s.get F.EVREC_SEL_AREA) (s.get F.EVREC_SEL_SEQ) true

/-- EVREC_SEL (R379). -/
def execEvrecSel (p : Port) (v : Word) (s : State) : Out :=
  ok (s.regWrite evselAct p F.EVREC_SEL_SEQ.addr v.toNat).st

/-- The cursor moves past the last valid slot and the window is loaded again (R380). -/
def State.winAdvance (s : State) : State :=
  let nxt := match s.ev.winRecs.getLast? with
    | some r => (r.seq + 1) % 4294967296
    | none => s.get F.EVREC_CUR_SEQ
  s.loadWin (s.get F.EVREC_SEL_AREA) nxt true

/-- EVREC_WIN_ADVANCE (R380): a read of EVREC_WIN instance 63. -/
def execEvrecWinAdvance (_p : Port) (s : State) : Out := ok s.winAdvance

/-- The words of the register window: a slot's 32 B as the state store holds them, least significant byte first (R362). -/
def Rec.stored (r : Rec) : Bytes :=
  le 8 r.secs ++ le 4 r.ns ++ le 2 r.code ++ le 2 r.origin ++ le 4 r.seq ++ payloadLe 12 r.fl

/-- Word `n` of EVREC_WIN. -/
def State.winWord (s : State) (n : Nat) : Nat :=
  match s.ev.winRecs[n / 8]? with
  | some r => ofLe (sub r.stored (4 * (n % 8)) 4)
  | none => 0

/-- EVREAD (R378): records of one area from the first at or after a sequence. -/
def execEvread (r : Req) (area count first : Nat) (s : State) : Out :=
  ok (hcpRun r 0x0600 (fun s =>
    if area > 2 ∨ count = 0 ∨ count > 44 then .no s stBADRANGE
    else
      let l := (s.area area).dropWhile (fun x => decide (2147483648 ≤ fwd 4294967296 first x.seq))
      { st := s, body := ((l.take count).map Rec.wire).flatten, changed := false }) s)

/-- EVFREEZE (R375, R376). -/
def execEvfreeze (r : Req) (secs : Nat) (s : State) : Out :=
  ok (hcpRun r 0x0601 (fun s =>
    if secs = 0 ∨ secs > 10 then .no s stBADRANGE else { st := s.freezeFor secs }) s)

end Sys2Proof.Machine
end

