-- ==== Sys2Proof/Machine/Slots.lean ====
section
/-! DEFINITION. Meter slots (R99 to R115, R491): the record and its bytes, placement and lookup, the population journal, life
state transitions, the post table and its mirror (R186, R187), the downlink counter (R181 to R183) and the ways down to a slot. -/

namespace Sys2Proof.Machine

/-- The meter record of a slot. -/
def State.mrec (s : State) (slot : Nat) : MRec := (lookupK slot s.meter.recs).getD {}

/-- A slot's record written; a record that is zero in every byte is not listed. -/
def State.setMrec (s : State) (slot : Nat) (r : MRec) : State :=
  { s with meter := { s.meter with recs := if r = {} then eraseK slot s.meter.recs else insertK slot r s.meter.recs } }

/-- A slot's record changed. -/
def State.onRec (s : State) (slot : Nat) (f : MRec → MRec) : State := s.setMrec slot (f (s.mrec slot))

/-- The flags of R104. -/
def MRec.sigreq (r : MRec) : Bool := bit r.flags 0
/-- POST. -/
def MRec.post (r : MRec) : Bool := bit r.flags 1
/-- IMPORT_ONLY. -/
def MRec.importOnly (r : MRec) : Bool := bit r.flags 2
/-- FIRST. -/
def MRec.first (r : MRec) : Bool := bit r.flags 3
/-- SLEEPER; a post is never treated as one (R265). -/
def MRec.sleeper (r : MRec) : Bool := bit r.flags 6 && !bit r.flags 1

/-- A flag of the record set or cleared. -/
def MRec.flag (r : MRec) (n : Nat) (b : Bool) : MRec := { r with flags := setBit r.flags n b }

/-! ## The record's bytes (R104) -/

/-- The RADIO area (R265). -/
def RadioA.bytes (a : RadioA) : Bytes :=
  le 8 (a.anch / nsS) ++ le 4 (a.anch % nsS) ++ le 4 a.lwper ++ le 4 a.lwofs ++ le 2 a.lwlen ++ le 2 a.tol ++ le 1 a.mult ++
  le 1 (a.slflags % 8) ++ le 1 a.row ++ le 1 a.mode ++ le 4 a.fofs ++ le 4 a.misses ++ le 4 a.resyncs ++ zeros 24

/-- The LINK area (R232, R286). -/
def LinkA.bytes (a : LinkA) : Bytes :=
  if a.kind = 2 then le 1 a.chan ++ zeros 1 ++ fit 6 a.mac ++ le 8 a.heardt ++ zeros 48
  else if a.kind = 1 then
    le 2 a.saddr ++ le 1 a.chan ++ le 1 a.lflags ++ le 2 a.nexthop ++ le 2 a.rcost ++ le 1 a.hops ++ le 1 a.missed ++
    le 1 a.lqif ++ le 1 a.lqir ++ le 2 a.angofs ++ zeros 2 ++ le 8 a.heardt ++
    fit 16 (a.segcosts.map (fun x => BitVec.ofNat 8 x)) ++ zeros 24
  else zeros 64

/-- The BAL area (R163). -/
def BalA.bytes (a : BalA) : Bytes :=
  le 8 (tc 8 a.eat) ++ le 8 a.lastt ++ le 4 (tc 4 a.rate) ++ le 4 a.eavg ++ le 1 a.sigs ++ le 1 a.bflags ++ le 2 a.sigcnt ++
  zeros 4

/-- The DIST area (R184). -/
def DistA.bytes (a : DistA) : Bytes :=
  le 4 a.dctr ++ le 4 a.dctrj ++ le 1 a.dkv ++ le 1 a.camp ++ le 1 a.cstate ++ le 1 a.pstate ++ le 2 a.aslot ++ le 2 a.missing ++
  le 4 a.climit ++ le 1 a.curt ++ zeros 3 ++ le 4 a.pcalid ++ zeros 4

/-- A meter-kept register of the record. -/
def MRec.keptReg (r : MRec) (n : Nat) : Nat := (lookupK n r.kept).getD 0

/-- The 512 B of a record (R104). -/
def MRec.bytes (r : MRec) : Bytes :=
  le 8 r.ident ++ le 1 r.state ++ le 1 r.profile ++ le 1 r.minkv ++ le 1 r.seed ++ le 4 r.h ++ le 8 r.map ++ le 2 r.flags ++
  le 2 r.node ++ le 2 r.scheme ++ le 1 r.strikes ++ zeros 1 ++ le 4 r.pmax ++ le 4 r.pred ++ le 4 r.succ ++ le 4 r.gen ++
  le 8 r.stateT ++ le 4 r.lost ++ le 4 r.heard ++ le 8 r.imp ++ le 8 r.exp ++ le 8 (r.rt / nsS) ++ le 4 (r.rt % nsS) ++
  le 4 r.vmask ++ le 8 (r.ct / nsS) ++ le 4 (r.ct % nsS) ++ le 1 r.medium ++ le 1 r.port ++ le 1 r.linkq ++ zeros 1 ++
  fit 16 r.addr ++ ((List.range 16).map (fun i => le 8 (r.keptReg (16 + i)))).flatten ++
  le 4 r.curA ++ le 4 r.curB ++ le 4 r.curC ++ le 2 r.tamper ++ zeros 2 ++ le 8 r.provT ++ le 8 r.commT ++ le 4 r.qitems ++
  le 4 r.authf ++ zeros 24 ++ r.radio.bytes ++ r.link.bytes ++ r.bal.bytes ++ r.dist.bytes

/-- The field sizes of a record up to line 4, in order: the record "field by field in record order" (R296) sends each field
most significant byte first under R6. -/
def recFields : List Nat :=
  [8, 1, 1, 1, 1, 4, 8, 2, 2, 2, 1, 1, 4, 4, 4, 4, 8, 4, 4, 8, 8, 8, 4, 4, 8, 4, 1, 1, 1, 1] ++ List.replicate 16 1 ++
  List.replicate 16 8 ++ [4, 4, 4, 2, 2, 8, 8, 4, 4] ++ List.replicate 24 1

/-- The field sizes of the RADIO, BAL and DIST areas, and of the LINK area by its kind. -/
def areaFields (kind : Nat) : List Nat :=
  [8, 4, 4, 4, 2, 2, 1, 1, 1, 1, 4, 4, 4] ++ List.replicate 24 1 ++
  (if kind = 2 then [1, 1] ++ List.replicate 6 1 ++ [8] ++ List.replicate 48 1
   else [2, 1, 1, 2, 2, 1, 1, 1, 1, 2, 2, 8] ++ List.replicate 40 1) ++
  [8, 8, 4, 4, 1, 1, 2, 4] ++ [4, 4, 1, 1, 1, 1, 2, 2, 4, 1, 3, 4, 4]

/-- Stored bytes sent field by field, each most significant byte first (R6). -/
def onWire : List Nat → Bytes → Bytes
  | [], _ => []
  | n :: t, b => (b.take n).reverse ++ onWire t (b.drop n)

/-- A record as READSLOT sends it. -/
def MRec.wire (r : MRec) : Bytes := onWire (recFields ++ areaFields r.link.kind) r.bytes

/-! ## Placement and lookup (R99 to R103) -/

/-- The two candidate slots of an identity (R100). -/
def State.candidates (s : State) (ident : Nat) : Nat × Nat :=
  let h := sipHash8 (s.meter.placeK.getD (zeros 16)) (be 8 ident)
  let c1 := h % 1048576
  let c2 := h / 1048576 % 1048576
  (c1, if c2 = c1 then (if bit c1 0 then c1 - 1 else c1 + 1) else c2)

/-! ### The overflow directory (R102)

524,288 entries, open-addressed from bits [63:45] of the hash with linear probing. DESIGN CHOICE: an entry that is removed leaves no mark; the
entries after it up to the next empty one are entered again. -/

/-- The entry at which the directory begins to look for an identity. -/
def State.dirHome (s : State) (ident : Nat) : Nat :=
  sipHash8 (s.meter.placeK.getD (zeros 16)) (be 8 ident) / 2 ^ 45 % 524288

/-- The entry after one, wrapping. -/
def dirNext (i : Nat) : Nat := (i + 1) % 524288

/-- The entry that holds an identity, from an entry on. -/
def dirProbe (dir : List (Nat × Nat × Nat)) (ident : Nat) : Nat → Nat → Option Nat
  | 0, _ => none
  | n + 1, i => match lookupK i dir with
    | none => none
    | some e => if e.1 = ident then some i else dirProbe dir ident n (dirNext i)

/-- The directory entry of an identity. -/
def State.dirIndex (s : State) (ident : Nat) : Option Nat :=
  dirProbe s.meter.dir ident (s.meter.dir.length + 1) (s.dirHome ident)

/-- The first empty entry from an entry on. -/
def dirEmpty (dir : List (Nat × Nat × Nat)) : Nat → Nat → Nat
  | 0, i => i
  | n + 1, i => if (lookupK i dir).isNone then i else dirEmpty dir n (dirNext i)

/-- An identity entered in the directory with its handle. -/
def State.dirPut (s : State) (ident slot : Nat) : State :=
  { s with meter := { s.meter with
      dir := insertK (dirEmpty s.meter.dir (s.meter.dir.length + 1) (s.dirHome ident)) (ident, slot) s.meter.dir } }

/-- The entries from one on up to the next empty one entered again. -/
def State.dirRefill : Nat → Nat → State → State
  | 0, _, s => s
  | n + 1, i, s => match lookupK i s.meter.dir with
    | none => s
    | some e =>
      State.dirRefill n (dirNext i) (({ s with meter := { s.meter with dir := eraseK i s.meter.dir } } : State).dirPut e.1 e.2)

/-- The directory entry of an identity removed. -/
def State.dirDrop (s : State) (ident : Nat) : State :=
  match s.dirIndex ident with
  | none => s
  | some i => State.dirRefill s.meter.dir.length (dirNext i) { s with meter := { s.meter with dir := eraseK i s.meter.dir } }

/-- Whether a slot holds an identity. -/
def State.holds (s : State) (slot ident : Nat) : Bool :=
  (s.mrec slot).state != 0 && (s.mrec slot).ident == ident

/-- The slot that holds an identity, and whether it was found through the overflow directory (R70, R102, R116). -/
def State.findSlot (s : State) (ident : Nat) : Option (Nat × Bool) :=
  let (c1, c2) := s.candidates ident
  if s.holds c1 ident then some (c1, false)
  else if s.holds c2 ident then some (c2, false)
  else ((s.dirIndex ident).bind (fun i => lookupK i s.meter.dir)).map (fun e => (e.2, true))

/-- The first free slot at or above a handle, wrapping (R102). -/
def State.freeFrom (s : State) : Nat → Nat → Option Nat
  | 0, _ => none
  | n + 1, c => if (s.mrec c).state = 0 then some c else s.freeFrom n ((c + 1) % 1048576)

/-- Where a new identity goes, and whether through the directory; or the status that refuses it (R102, R103). -/
def State.place (s : State) (ident : Nat) : Except Nat (Nat × Bool) :=
  let (c1, c2) := s.candidates ident
  if (s.mrec c1).state = 0 then .ok (c1, false)
  else if (s.mrec c2).state = 0 then .ok (c2, false)
  else match s.freeFrom (min 1048576 (s.meter.recs.length + 1)) c1 with
    | none => .error stNOSLOT
    | some n => if 524288 ≤ s.meter.dir.length then .error stDIRFULL else .ok (n, true)

/-! ## The journal (R112) -/

/-- A population journal entry with the record as it stands; the record of a slot that turns free is zero (R104). -/
def State.journalSlot (s : State) (slot : Nat) : State :=
  let r := s.mrec slot
  { s with meter := { s.meter with journal := s.meter.journal ++ [⟨slot, r.gen, s.time.dev, if r.state = 0 then {} else r⟩] } }

/-! ## The post table (R186, R187) -/

/-- The post table entry of a slot. -/
def State.post (s : State) (slot : Nat) : Option Post := s.dist.posts.find? (fun p => p.slot == slot)

/-- What the mirror holds of an entry (R187): all but DCTR and what R189 and R190 follow. -/
def Post.mirrored (p : Post) : Post :=
  { p with dctr := 0, cmd := none, resume := false, left := 0, sentAt := 0, refAt := 0, waits := false, demoted := false, pmax := 0 }

/-- A slot's mirror entry due for writing (R187). -/
def State.mirrorDue (s : State) (slot : Nat) : State :=
  if s.dist.mdue.contains slot then s else { s with dist := { s.dist with mdue := s.dist.mdue ++ [slot] } }

/-- A post table entry written: DCTR, CLIMIT and CURT are copied back to the record once the store holds it, and the mirror follows where one
of its fields changed (R186, R187). Entries stand in ascending handle order. -/
def State.setPost (s : State) (p : Post) : State :=
  let old := s.post p.slot
  let s1 : State := { s with dist := { s.dist with
    posts := insBy (fun a b => decide (a.slot ≤ b.slot)) p (s.dist.posts.filter (fun x => x.slot != p.slot)) } }
  let s2 := if s1.holds p.slot p.ident then s1.onRec p.slot (fun r => { r with dist := { r.dist with
    dctr := p.dctr, dctrj := p.dctrj, climit := p.climit, curt := p.curt } }) else s1
  if old.map Post.mirrored = some p.mirrored then s2 else s2.mirrorDue p.slot

/-- The mirror entry of a slot written in one state-store write, or cleared (R187). -/
def State.mirrorWrite (s : State) (slot : Nat) : State :=
  let rest := s.dist.mirror.filter (fun x => x.slot != slot)
  { s with dist := { s.dist with
      mirror := (match s.post slot with | some p => rest ++ [p] | none => rest)
      mdue := s.dist.mdue.filter (fun x => x != slot) } }

/-- What a slot's downlink envelopes go by (R181, R186): identity, seed, DKV, DCTR and DCTRJ; of its post table entry, which needs no DRAM
(R20), else of its record. -/
structure DownKey where
  ident : Nat
  seed : Nat
  dkv : Nat
  dctr : Nat
  dctrj : Nat

/-- What a slot's downlink envelopes go by. -/
def State.downKey (s : State) (slot : Nat) : DownKey :=
  match s.post slot with
  | some p => ⟨p.ident, p.seed, p.dkv, p.dctr, p.dctrj⟩
  | none => let r := s.mrec slot; ⟨r.ident, r.seed, r.dist.dkv, r.dist.dctr, r.dist.dctrj⟩

/-- A slot's downlink counter and the end of its reservation set, in its post table entry and its record; the journal carries the DIST area
once the store holds the record (R112, R183, R186). -/
def State.setDctr (s : State) (slot dctr dctrj : Nat) (journal : Bool) : State :=
  let s1 := match s.post slot with
    | some p => s.setPost { p with dctr := dctr, dctrj := dctrj }
    | none => s.onRec slot (fun r => { r with dist := { r.dist with dctr := dctr, dctrj := dctrj } })
  if journal && (s1.mrec slot).state != 0 then s1.journalSlot slot else s1

/-- A reservation of downlink counters (R183): taken when less than half of the current one remains. -/
def State.reserve (s : State) (slot : Nat) : State :=
  let d := s.downKey slot
  if d.dctr + 16384 ≤ d.dctrj then s else s.setDctr slot d.dctr (d.dctrj + 32768) true

/-- A slot's downlink counter after a rebuild of its record (R183): the larger of its journalled and its mirrored DCTRJ, with a new
reservation. One that would exceed 2^31 - 1 is exhausted (R182). -/
def State.dctrBack (s : State) (slot : Nat) : State :=
  let r := s.mrec slot
  if r.state = 0 then s
  else
    let m := match s.post slot with | some p => if p.ident = r.ident then p.dctrj else 0 | none => 0
    let d := max r.dist.dctrj m
    if 2147483647 < d then (s.setDctr slot d d true).log 0x5012 [(4, slot)] (.ag 8) else s.setDctr slot d (d + 32768) true

/-- The addressing of a post from its record (R186). -/
def Post.route (p : Post) (r : MRec) : Post :=
  { p with
    medium := r.medium, port := r.port
    addr := r.addr
    chan := if r.link.kind = 1 then r.link.chan else 0
    saddr := if r.link.kind = 1 then r.link.saddr else 0
    nexthop := if r.link.kind = 1 then r.link.nexthop else 0
    row := r.radio.row, mode := r.radio.mode, pmax := r.pmax }

/-- A POST slot that enters active gets its entry and its pinned keys (R109, R186). -/
def State.postEnter (s : State) (slot : Nat) : State :=
  let r := s.mrec slot
  if !r.post || (s.post slot).isSome || decide (16384 ≤ s.dist.posts.length) then s
  else
    let s1 := s.reserve slot
    let d := (s1.mrec slot).dist
    let p : Post := { slot, ident := r.ident, dkv := d.dkv, seed := r.seed, medium := 0, port := 0, addr := []
                      dctr := d.dctr, dctrj := d.dctrj, climit := d.climit, curt := d.curt }
    (s1.setPost (p.route r)).pinPost r.seed r.ident d.dkv

/-- The resume queue has emptied (R193): tokens return to 0 and event 0x5002 tells the posts released. -/
def State.rqEmptied (s : State) : State :=
  ({ s with dist := { s.dist with tokens := 0, cur := none, fullAt := none } } : State).log 0x5002
    [(4, s.dist.rqOut), (4, (s.time.clk - s.dist.rqFrom) / 1000000)] (.ag 8)

/-- A post removed from the resume queue (R188, R194): the tokens go on accruing as they do. Where it was the post awaited, the next head is
awaited from now on. -/
def State.rqDrop (s : State) (slot : Nat) : State :=
  if s.dist.rq.contains slot then
    let q := s.dist.rq.filter (fun x => x != slot)
    let s1 : State := { s with dist := { s.dist with
      rq := q, cur := if s.dist.cur = some slot then q.head? else s.dist.cur
      curAt := if s.dist.cur = some slot then s.time.clk else s.dist.curAt
      fullAt := if s.dist.cur = some slot then none else s.dist.fullAt } }
    if q.isEmpty then s1.rqEmptied else s1
  else s

/-- A post that leaves active loses its entry, its pins and its place in the resume queue (R186, R194). -/
def State.postLeave (s : State) (slot : Nat) : State :=
  match s.post slot with
  | none => s
  | some p =>
    let s0 := s.rqDrop slot
    let s1 : State := { s0 with dist := { s0.dist with posts := s0.dist.posts.filter (fun x => x.slot != slot) } }
    (s1.unpin p.ident).mirrorDue slot

/-- The origin of what a request changes. -/
def reqOrg (r : Req) (agent : Nat) : Org := { port := r.port, agent := agent }

/-! ## The way down (R180 to R183, R223, R260, R267, R268) -/

/-- Whether a slot can receive downlink envelopes (R181, R182). -/
def State.canSend (s : State) (slot : Nat) : Bool :=
  decide ((s.downKey slot).dkv ≤ 127) && decide ((s.downKey slot).dctr ≤ 2147483647)

/-- One downlink envelope to a slot (R181): sealed under key version v + 128 with the next counter; none without keys, with a
DKV above 127, or with the counter exhausted. -/
def State.downEnv (s : State) (slot content : Nat) (rec : Bytes) : Option (State × Bytes × Nat) :=
  if !s.canSend slot then none
  else
    let s0 := s.reserve slot
    let r := s0.downKey slot
    match s0.meterKey r.seed r.ident (r.dkv + 128) with
    | none => none
    | some k =>
      let c := r.dctr
      let env := sealEnv k r.ident c (r.dkv + 128) content s0.time.dev rec
      let s1 := s0.cacheKey lblMTR r.seed (mtrCtx r.ident (r.dkv + 128)) false
      let s2 := s1.setDctr slot (c + 1) r.dctrj false
      let s3 := if c = 2147483647 then s2.log 0x5012 [(4, slot)] (.ag 8) else s2
      some (s3.reserve slot, env, c)

/-- The egress port toward a slot by its medium and port (R88, R217, R223). -/
def portOf (medium port : Nat) : Nat :=
  if medium = 0 then 10 + port / 2 else if medium = 1 then 13 else if medium = 2 then 2 + port else port

/-- The length on its medium of a frame that carries `n` bytes toward a slot: Ethernet, IPv6 and UDP headers with the FCS on
10BASE-T1S and the uplinks, IPv6 and UDP headers on power-line, the wireless M-Bus header on radio. -/
def frameLen (medium n : Nat) : Nat :=
  if medium = 0 then n + 48 else if medium = 1 then n + 11 else n + 66

/-- The egress port of a slot: the route of its post table entry, else of its record. -/
def State.slotPort (s : State) (slot : Nat) : Nat × Nat :=
  match s.post slot with
  | some p => (p.medium, portOf p.medium (if p.medium = 0 ∧ p.saddr ≠ 0 then p.chan else p.port))
  | none =>
    let r := s.mrec slot
    (r.medium, portOf r.medium (if r.medium = 0 ∧ r.link.kind = 1 then r.link.chan else r.port))

/-- The power-line channel toward a slot (R223, R231): of its post table entry, else of its record. -/
def State.slotChan (s : State) (slot : Nat) : Nat :=
  match s.post slot with
  | some p => if p.saddr ≠ 0 then p.chan else p.port
  | none =>
    let r := s.mrec slot
    if r.link.kind = 1 then r.link.chan else r.port

/-- The short address of a slot on its power-line channel, 0 where it has none. -/
def State.slotSaddr (s : State) (slot : Nat) : Nat :=
  match s.post slot with
  | some p => p.saddr
  | none => if (s.mrec slot).link.kind = 1 then (s.mrec slot).link.saddr else 0

/-- The frames of the sleeper store for one slot. -/
def State.sleepers (s : State) (slot : Nat) : List SleepF := s.radio.store.filter (fun f => f.slot == slot)

/-- How a frame for a sleeper is taken (R267, R268): held, waiting for a place, or refused by the full store. -/
inductive SleepPut where
  | held | waits | refused
  deriving DecidableEq, Repr

/-- A frame counted against the full sleeper store (R268): event 0x6105 tells the frames of the last minute. -/
def State.sleepFull (s : State) : State := (s.inc F.RADIO_SLFULL).logCount 0x6105 0 (60 * nsS) 1 (.ag 11)

/-- A frame for a sleeper put into the store (R267, R268). -/
def State.sleepPut (s : State) (f : SleepF) (wait : Bool) : State × SleepPut :=
  let mine := s.sleepers f.slot
  let olds := if f.ack then (mine.filter (fun x => x.ack)).length else 0
  let s0 : State := if f.ack then
    (List.range olds).foldl (fun (x : State) _ => x.inc F.RADIO_ACKDROP)
      { s with radio := { s.radio with store := s.radio.store.filter (fun x => !(x.slot == f.slot && x.ack)) } }
    else s
  if 43690 ≤ s0.radio.store.length then
    ((if f.ack then s0.sleepFull.inc F.RADIO_ACKDROP else s0.sleepFull), .refused)
  else if 4 ≤ (s0.sleepers f.slot).length then
    if f.ack then (s0.inc F.RADIO_ACKDROP, .refused)
    else if wait then ({ s0 with radio := { s0.radio with waitSl := s0.radio.waitSl ++ [f] } }, .waits)
    else (s0, .refused)
  else
    let s1 := s0.onRec f.slot (fun r => { r with radio := { r.radio with slflags := setBit r.radio.slflags 2 true } })
    ({ s1 with radio := { s1.radio with store := s1.radio.store ++ [f] } }, .held)

/-- A packet toward a slot: into the sleeper store for a sleeper heard by radio, else into the egress queue of its port. The
flag tells whether it was taken. -/
def State.toSlot (s : State) (slot cls : Nat) (body : EgBody) (n : Nat) (ack : Bool) (full : FullAct) : State × Bool :=
  let r := s.mrec slot
  let (m, p) := s.slotPort slot
  -- a relayed radio frame is whole (R297)
  let l := match body with | .relay _ _ => if m = 1 then n else frameLen m n | _ => frameLen m n
  let pk : EgPkt := { cls := cls, len := l, body := body, chan := if m = 0 then s.slotChan slot else 0, hop := if m = 0 then s.slotSaddr slot else 0 }
  if m = 1 ∧ r.sleeper then
    let (s1, a) := s.sleepPut ⟨slot, ack, pk⟩ (full == .wait)
    (s1, a != .refused)
  else (s.enq p pk full, true)

/-- A downlink envelope of DIST sent to a slot (R181): the state, whether it was placed, and its counter. -/
def State.sendDown (s : State) (slot content cls : Nat) (type : Nat) (v : Bytes) : State × Option Nat :=
  match s.downEnv slot content (recBytes type v) with
  | none => (s, none)
  | some (s1, env, c) =>
    let (s2, ok) := s1.toSlot slot cls (.down slot env) env.length false .wait
    (s2, if ok then some c else none)

end Sys2Proof.Machine
end

