-- ==== Sys2Proof/Machine/Timeplate.lean ====
section
/-! DEFINITION. The mains instant and the timeplate (R44 to R54): entries 64 to 255, and the agenda behind entries 0 to 63. -/

namespace Sys2Proof.Machine

/-! ## The mains instant -/

/-- The mains instant in angle units at the present elapsed time (R44): FREQ angle units pass in a second. -/
def State.angle (s : State) : Nat := s.mains.ang + (s.time.clk - s.mains.at_) * s.mains.freq / nsS

/-- The mains clock brought to the present elapsed time. -/
def State.tickAngle (s : State) : State :=
  { s with mains := { s.mains with ang := s.angle, at_ := s.time.clk } }

/-- Elapsed time runs on until the mains clock reaches an instant, if it lies ahead. -/
def State.advAngle (s : State) (a : Nat) : State :=
  if s.mains.freq = 0 ∨ a ≤ s.angle then s
  else s.adv (((a - s.angle) * nsS + s.mains.freq - 1) / s.mains.freq)

/-! ## Entries of the ports -/

/-- The trigger that an entry's words spell (R48, R55): the instant and the period, in ns or angle units; of a hatch entry the start of
its first cycle. -/
def State.tpInstant (s : State) (n : Nat) : Nat × Nat :=
  let w0 := s.geti F.TIME_TPW0 n
  let w1 := s.geti F.TIME_TPW1 n
  let w2 := s.geti F.TIME_TPW2 n
  let per := s.geti F.TIME_TPPER n
  let cyc := (w0 + w1 % 65536 * 4294967296) * 65536
  let k := s.geti F.TIME_TPCFG_KIND n
  if k = 1 then ((w0 + w1 * 4294967296) * nsS + w2, per * 1000000)
  else if k = 2 then (cyc + w2 % 65536, per * 65536)
  else (cyc, per * 65536)

/-- The instant of an armed entry in its time base: a hatch entry's segment starts where its phase's own angle, the phase-A angle less
the displacement that the phase has now, modulo 65,536, reaches it (R47). -/
def State.tpAt (s : State) (e : TpEnt) : Nat :=
  if s.geti F.TIME_TPCFG_KIND e.n = 3 then
    e.next + (s.geti F.TIME_TPCFG_SEG e.n * 4096 + s.geti F.MAINS_PHASE_DISP (s.geti F.TIME_TPCFG_PHASE e.n)) % 65536
  else e.next

/-- The armed entry of a number. -/
def State.tpEnt (s : State) (n : Nat) : Option TpEnt := s.time.tp.find? (fun e => e.n == n)

/-- An entry disarmed. -/
def State.tpDrop (s : State) (n : Nat) : State :=
  { s.seti F.TIME_TPCFG_ARMED n 0 with time := { s.time with tp := s.time.tp.filter (fun e => e.n != n) } }

/-- An entry's action (R48): strobe, event source, or both. -/
def State.tpAction (s : State) (n : Nat) : State :=
  let a := s.geti F.TIME_TPCFG_ACTION n
  let s1 := if a = 0 ∨ a = 2 then s.fireGroup (s.geti F.TIME_TPCFG_GROUP n) else s
  if a = 1 ∨ a = 2 then s1.raiseSrc (s.geti F.TIME_TPCFG_EVSRC n) else s1

/-- The time base of an entry now: device time, or the mains instant. -/
def State.tpNow (s : State) (n : Nat) : Nat := if s.geti F.TIME_TPCFG_KIND n = 1 then s.time.dev else s.angle

/-- Lateness in ns of an entry whose instant has passed. -/
def State.tpLate (s : State) (n t : Nat) : Nat :=
  let d := s.tpNow n - t
  if s.geti F.TIME_TPCFG_KIND n = 1 then d else d * nsS / max 1 s.mains.freq

/-- The first instant of a periodic entry after now. -/
def nextAfter (t per now : Nat) : Nat := if now < t then t else t + ((now - t) / per + 1) * per

/-- An entry fires (R50, R52, R53): `late` marks a late firing. DESIGN CHOICE: LATE and HOLD, once set, stay until software clears them
(R8), though a later firing is on time; R55 calls them the last firing's. -/
def State.tpFire (s : State) (n : Nat) (e : TpEnt) (late : Bool) : State :=
  let s0 := if s.geti F.TIME_TPCFG_KIND n ≠ 1 ∧ s.get F.MAINS_STATUS_STATE = 3 then s.seti F.TIME_TPCFG_HOLD n 1 else s
  let s1 := if late then
      (s0.seti F.TIME_TPCFG_LATE n 1).log 0x1020 [(1, n), (8, s0.tpLate n (s0.tpAt e))] (.ag 2)
    else s0
  let s2 := if e.period = 0 then s1.tpDrop n
    else
      let at_ := s1.tpAt e
      let nx := if late then e.next + (nextAfter at_ e.period (s1.tpNow n) - at_) else e.next + e.period
      let rest := s1.time.tp.filter (fun x => x.n != n)
      { s1 with time := { s1.time with tp := { e with next := nx } :: rest } }
  s2.tpAction n

/-- An entry is armed by the write of its TIME_TPCFG with KIND other than 0 (R48); one whose instant has passed fires late at
once (R52). KIND 0 disarms it. -/
def State.tpArm (s : State) (n : Nat) : State :=
  let s0 := s.tpDrop n
  if s.geti F.TIME_TPCFG_KIND n = 0 then s0
  else
    let (t, per) := s.tpInstant n
    let e : TpEnt := ⟨n, t, per⟩
    let s1 : State := { s0.seti F.TIME_TPCFG_ARMED n 1 with time := { s0.time with tp := e :: s0.time.tp } }
    if s1.tpAt e < s1.tpNow n then s1.tpFire n e true else s1

/-- The action of a write of TIME_TPCFG. The seal port, which only clears LATE and HOLD (R289), writes no KIND and arms nothing. -/
def tpAct : Act := fun p a _ s => if p = .seal then s else s.tpArm ((a - F.TIME_TPCFG_KIND.addr) / 32)

/-- TIMEPLATE_ARM (R48): a write of TIME_TPCFG instance `n`. -/
def execTimeplateArm (p : Port) (n : Nat) (v : Word) (s : State) : Out :=
  ok (if n < 256 then (s.regWrite tpAct p (F.TIME_TPCFG_KIND.addr + 32 * n) v.toNat).st else s)

/-! ## The agenda (R49) -/

/-- The registers of an internal entry show its instant: TAI, the words, ARMED. -/
def State.showEntry (s : State) (n : Nat) (t : Option Nat) : State :=
  let t' := t.getD 0
  let s := s.seti F.TIME_TPCFG_KIND n (b2n t.isSome)
  let s := s.seti F.TIME_TPCFG_ARMED n (b2n t.isSome)
  let s := s.seti F.TIME_TPW0 n (t' / nsS % 4294967296)
  let s := s.seti F.TIME_TPW1 n (t' / nsS / 4294967296)
  s.seti F.TIME_TPW2 n (t' % nsS)

/-- An agenda with an instant put in order of time, later ones of one instant after earlier. -/
def agInsert (a : Agenda) : List Agenda → List Agenda
  | [] => [a]
  | b :: t => if a.t < b.t then a :: b :: t else b :: agInsert a t

/-- The lowest entry 0 to 63 that no agenda instant holds. -/
def freeEntry (l : List Agenda) : Option Nat := (List.range 64).find? (fun n => !l.any (fun a => a.entry == some n))

/-- The earliest pending instants are armed: a free entry takes the earliest instant without one; with none free, an instant
earlier than an armed one takes the entry of the latest armed. -/
def State.agArm (s : State) : State :=
  match s.time.agenda.find? (fun a => a.entry.isNone) with
  | none => s
  | some a =>
    let put := fun (n : Nat) (l : List Agenda) => l.map (fun b => if b == a then { b with entry := some n } else b)
    match freeEntry s.time.agenda with
    | some n => { s.showEntry n (some a.t) with time := { s.time with agenda := put n s.time.agenda } }
    | none =>
      match (s.time.agenda.filter (fun b => b.entry.isSome)).getLast? with
      | some last =>
        if a.t < last.t then
          let n := last.entry.getD 0
          let l := s.time.agenda.map (fun b => if b == last then { b with entry := none } else b)
          { s.showEntry n (some a.t) with time := { s.time with agenda := put n l } }
        else s
      | none => s

/-- The agenda is full: 8,192 instants (R49). -/
def State.agFull (s : State) : Bool := decide (8192 ≤ s.time.agenda.length)

/-- The refusal of R49: event 0x1022 with the agent. -/
def State.agRefuse (s : State) (agent : Nat) : State := s.log 0x1022 [(1, agent)] (.ag agent)

/-- An instant enters the agenda (R49); one already passed fires late (R52). -/
def State.agAdd (s : State) (t : Nat) (k : AgKind) : State :=
  if s.agFull then s
  else State.agArm { s with time := { s.time with agenda := agInsert { t := t, kind := k, late := decide (t < s.time.dev) } s.time.agenda } }

/-- The instants of a kind leave the agenda. -/
def State.agDrop (s : State) (k : AgKind) : State :=
  let gone := s.time.agenda.filter (fun a => a.kind == k)
  let s1 : State := { s with time := { s.time with agenda := s.time.agenda.filter (fun a => a.kind != k) } }
  let s2 := gone.foldl (fun s a => match a.entry with | some n => s.showEntry n none | none => s) s1
  (List.range gone.length).foldl (fun s _ => s.agArm) s2

/-- An agenda instant fires through its entry (R49, R50): it leaves the agenda, what it stands for falls due, and the next
instant is armed. `late` logs 0x1020 with the entry. -/
def State.agFire (s : State) (a : Agenda) (late : Bool) : State :=
  let n := a.entry.getD ((freeEntry s.time.agenda).getD 63)
  let s1 := if late then (s.seti F.TIME_TPCFG_LATE n 1).log 0x1020 [(1, n), (8, s.time.dev - a.t)] (.ag 2) else s
  let s2 : State := { s1 with time := { s1.time with
    agenda := s1.time.agenda.eraseP (fun b => b == a), due := s1.time.due ++ [a.kind] } }
  (match a.entry with | some m => s2.showEntry m none | none => s2).agArm

/-- A kind of work leaves the list of what has fallen due. -/
def State.undue (s : State) (k : AgKind) : State :=
  { s with time := { s.time with due := s.time.due.filter (fun x => x != k) } }

/-- An internal instant's command (R49): the entry that holds it fires, unless it has fired; none where no such instant waits. -/
def State.takeDue (s : State) (k : AgKind) : Option State :=
  if s.time.due.contains k then some (s.undue k)
  else match s.time.agenda.find? (fun a => a.kind == k) with
  | some a => some (((s.advDev a.t).agFire a a.late).undue k)
  | none => none

/-- An internal instant that a step has passed (R52): it fires late through the entry that holds it, or through the one in which it is
armed after the step; one that has fired already does not fire again. -/
def State.passInst (s : State) (k : AgKind) (t : Nat) : State :=
  if s.time.due.contains k then s.undue k
  else
    let s1 := if s.time.agenda.any (fun a => a.kind == k) then s else s.agAdd t k
    match s1.time.agenda.find? (fun a => a.kind == k) with
    | some a => (s1.agFire a true).undue k
    | none => s1

/-! ## Steps past instants (R52) -/

/-- The agenda instants that a forward step of device time from `t0` has passed. -/
def State.passed (s : State) (t0 : Nat) : List Agenda :=
  s.time.agenda.filter (fun a => decide (t0 < a.t) && decide (a.t < s.time.dev))

/-- The passed instants that no entry held fire in turn, each through the entry in which it is armed. -/
def State.lateRest (s : State) (t0 : Nat) : Nat → State
  | 0 => s
  | n + 1 => match (s.passed t0).head? with
    | some a => (s.agFire a true).lateRest t0 n
    | none => s

/-- A forward step of device time from `t0`: what it has passed fires late, the entries in ascending order (R51), and then the instants
that waited behind them. -/
def State.latePast (s : State) (t0 : Nat) : State :=
  let armed := sortBy (fun (x y : Agenda) => decide (x.entry.getD 0 ≤ y.entry.getD 0)) ((s.passed t0).filter (fun a => a.entry.isSome))
  let es := s.time.tp.filter (fun e => s.geti F.TIME_TPCFG_KIND e.n == 1 && decide (t0 < e.next) && decide (e.next < s.time.dev))
  let s1 := armed.foldl (fun s a => if s.time.agenda.contains a then s.agFire a true else s) s
  let s2 := (sortBy (fun (x y : TpEnt) => decide (x.n ≤ y.n)) es).foldl (fun s e => s.tpFire e.n e true) s1
  s2.lateRest t0 s2.time.agenda.length

/-- A forward step of the mains angle from `a0`: the mains and hatch entries it passed fire late. -/
def State.lateAngle (s : State) (a0 : Nat) : State :=
  let now := s.angle
  let es := s.time.tp.filter (fun e => s.geti F.TIME_TPCFG_KIND e.n != 1 && decide (a0 < s.tpAt e) && decide (s.tpAt e < now))
  (sortBy (fun (x y : TpEnt) => decide (x.n ≤ y.n)) es).foldl
    (fun s e => s.tpFire e.n e true) s

/-! ## Entries that fall due (R50, R51) -/

/-- Elapsed ns until the mains clock reaches an instant; none where it does not count. -/
def State.untilAngle (s : State) (a : Nat) : Option Nat :=
  if a ≤ s.angle then some 0
  else if s.mains.freq = 0 then none
  else some (((a - s.angle) * nsS + s.mains.freq - 1) / s.mains.freq)

/-- Elapsed ns until an entry falls due, where one is armed. -/
def State.tpWait (s : State) (n : Nat) : Option Nat :=
  if n < 64 then (s.time.agenda.find? (fun a => a.entry == some n)).map (fun a => s.untilDev a.t)
  else (s.tpEnt n).bind (fun e => if s.geti F.TIME_TPCFG_KIND n = 1 then some (s.untilDev e.next) else s.untilAngle (s.tpAt e))

/-- The entries that an entry's firing takes with it: those of lower index that fall due within the same cycle of the PTP clock, 4 ns
(R51, R442), and the entry itself. -/
def State.tpTogether (s : State) (n : Nat) : List Nat :=
  match s.tpWait n with
  | none => []
  | some d => (List.range (n + 1)).filter (fun m => (s.tpWait m).any (fun w => (s.time.clk + w) / 4 == (s.time.clk + d) / 4))

/-- One armed entry fires at its instant. -/
def State.fireOne (s : State) (n : Nat) : State :=
  if n < 64 then
    match s.time.agenda.find? (fun a => a.entry == some n) with
    | some a => (s.advDev a.t).agFire a a.late
    | none => s
  else match s.tpEnt n with
    | none => s
    | some e => (if s.geti F.TIME_TPCFG_KIND n = 1 then s.advDev e.next else s.advAngle (s.tpAt e)).tpFire n e false

/-- TIMEPLATE_FIRE (R50, R51): an armed entry reaches its instant. An internal instant's work is its own command's (R49): a calendar
activation is step 4 of its boundary (R11, R143). -/
def execTimeplateFire (n : Nat) (s : State) : Out := ok ((s.tpTogether n).foldl (fun t m => t.fireOne m) s)

end Sys2Proof.Machine
end

