-- ==== Sys2Proof/Machine/Camp.lean ====
section
/-! DEFINITION. Discards (R354, R355), the campaigns' common operations (R196 to R200) and life state transitions (R105, R106). -/

namespace Sys2Proof.Machine

/-! ## Discards (R354, R355) -/

/-- A discard of bytes of a volume: a secure one waits for the Graver to take it into a request. -/
def State.discard (s : State) (vol bytes : Nat) : State :=
  if bytes = 0 ∨ s.geti F.FTL_VOL_SECURE vol = 0 then s
  else { s with ftl := { s.ftl with discards := s.ftl.discards ++ [(vol, (bytes + 4095) / 4096, s.time.clk)] } }

/-! ## Campaigns -/

/-- The campaign of a number. -/
def State.camp (s : State) (n : Nat) : Option Camp := s.dist.camps.find? (fun c => c.n == n)

/-- A campaign put back. -/
def State.setCamp (s : State) (c : Camp) : State :=
  { s with dist := { s.dist with camps := s.dist.camps.map (fun x => if x.n == c.n then c else x) } }

/-- The blocks of a campaign's image. -/
def Camp.blocks (c : Camp) : Nat := (c.size + c.block - 1) / c.block

/-- Campaigns that have not ended. -/
def State.openCamps (s : State) : List Camp := s.dist.camps.filter (fun c => decide (c.state < 5))

/-- A slot's CSTATE. -/
def State.cstate (s : State) (slot : Nat) : Nat := (s.mrec slot).dist.cstate

/-- A slot's CSTATE set. -/
def State.setCstate (s : State) (slot st : Nat) : State :=
  s.onRec slot (fun r => { r with dist := { r.dist with cstate := st } })

/-- A campaign's state changed: event 0x5020 with the targets activated and failed. -/
def State.setCampState (s : State) (n st : Nat) : State :=
  match s.camp n with
  | none => s
  | some c =>
    let failed := (c.targets.filter (fun t => s.cstate t == 7)).length
    (s.setCamp { c with state := st }).log 0x5020 [(1, n), (1, st), (4, c.done.length), (4, failed)] (.ag 8)

/-- A campaign ends (R196, R197, R200): its targets are free for another one, its instant leaves the agenda, its image is
discarded. -/
def State.endCamp (s : State) (n st : Nat) : State :=
  match s.camp n with
  | none => s
  | some c =>
    let s1 := s.setCampState n st
    let s2 := c.targets.foldl (fun (t : State) x => t.onRec x (fun r => { r with dist := { r.dist with camp := 255 } })) s1
    let s3 := (((s2.agDrop (.campArm n)).undue (.campArm n)).agDrop (.dist n)).undue (.dist n)
    (s3.setCamp { c with state := st, image := [], miss := [], ask := [] }).discard 3 c.image.length

/-- The distribution timer of an armed campaign (R49): the earliest end of a confirmation wait of a target still in CSTATE 5 (R197 step 8). -/
def State.campTimer (s : State) (n : Nat) : State :=
  match s.camp n with
  | none => s
  | some c =>
    let l := (c.arms.filter (fun a => c.targets.contains a.1 && s.cstate a.1 == 5)).map (fun a => a.2)
    let s1 := (s.agDrop (.dist n)).undue (.dist n)
    match l with
    | [] => s1
    | t :: ts => s1.agAdd ((ts.foldl min t + s.get F.DIST_CAMP2_CONFIRM * 60) * nsS) (.dist n)

/-- An armed campaign without a target in CSTATE 5 is done (R197, step 9); else its timer stands at the next end of a wait. -/
def State.campDone (s : State) (n : Nat) : State :=
  match s.camp n with
  | some c =>
    if c.armed && c.state == 3 then (if c.targets.any (fun t => s.cstate t == 5) then s.campTimer n else s.endCamp n 5) else s
  | none => s

/-! ## Life states (R105, R106, R200) -/

/-- A slot in a campaign leaves it with CSTATE 10 (R200). -/
def State.leaveCamp (s : State) (slot : Nat) : State :=
  let r := s.mrec slot
  if r.dist.camp = 255 ∨ r.state = 0 then s
  else
    let s1 := s.onRec slot (fun r => { r with dist := { r.dist with camp := 255, cstate := 10 } })
    let s2 : State := { s1 with dist := { s1.dist with camps := s1.dist.camps.map (fun c =>
      if c.n = r.dist.camp then { c with targets := c.targets.filter (fun x => x != slot) } else c) } }
    s2.campDone r.dist.camp

/-- A transition carried out (R106): GEN, STATE_T, journal, event; the post table follows active, and a target that is
suspended, quarantined or retired leaves its campaign. -/
def State.lifeTo (s : State) (slot new : Nat) (o : Org) : State :=
  let old := (s.mrec slot).state
  let s1 := s.onRec slot (fun r => { r with state := new, gen := r.gen + 1, stateT := s.secs })
  let s2 := if old = 3 ∧ new ≠ 3 then s1.postLeave slot else if new = 3 then s1.postEnter slot else s1
  let s3 := if 4 ≤ new then s2.leaveCamp slot else s2
  (s3.journalSlot slot).log 0x2030 [(4, slot), (1, old), (1, new)] o

end Sys2Proof.Machine
end

