-- ==== Sys2Proof/Machine/Legal.lean ====
section
/-! DEFINITION. The legal partition (R117 to R157, R491, R492): attribution, intervals, settlement, demand, boundaries, periods,
steps of device time, breaks, sessions, faults. -/

namespace Sys2Proof.Machine

/-! ## Records and groups -/

/-- The legal record of a slot. -/
def State.lrec (s : State) (slot : Nat) : LRec := (lookupK slot s.leg.recs).getD {}

/-- The legal record of a slot replaced. -/
def State.setLrec (s : State) (slot : Nat) (r : LRec) : State :=
  { s with leg := { s.leg with recs := insertK slot r s.leg.recs } }

/-- The uptake group of a slot: its scheme, 0xFFFF without one (R135). -/
def State.groupOf (s : State) (slot : Nat) : Nat := (s.mrec slot).scheme

/-- The intervals of a group. -/
def State.ivl (s : State) (k : Nat) : Ivl := (lookupK k s.leg.grps).getD s.leg.common

/-- Minutes of an interval length code (R156). -/
def lenMin (c : Nat) : Nat := [1, 2, 3, 4, 5, 6, 10, 12, 15, 20, 30, 60].getD c 15

/-- The settle delay of a length in ns (R132). -/
def State.settleNs (s : State) (i : Ivl) : Nat := min (s.get F.BILL_SETTLE_S) (lenMin i.len * 60) * nsS

/-- An LFLAGS bit of a record. -/
def LRec.fl (r : LRec) (n : Nat) : Bool := bit r.lflags n

/-- An LFLAGS bit set. -/
def LRec.setFl (r : LRec) (n : Nat) (b : Bool) : LRec := { r with lflags := setBit r.lflags n b }

/-- Every slot's legal record changed where its group is in a set; a record with RETIRED is frozen (R152). -/
def State.mapGroup (s : State) (p : Nat → Bool) (f : Nat → LRec → LRec) : State :=
  { s with leg := { s.leg with recs := s.leg.recs.map (fun e =>
      if p (s.groupOf e.1) && !e.2.fl 2 then (e.1, f e.1 e.2) else e) } }

/-- The groups that a length code's owner stands for: the common intervals serve every group without its own. -/
def State.ownerHas (s : State) (o : Option Nat) (k : Nat) : Bool :=
  match o with
  | some g => k == g
  | none => (lookupK k s.leg.grps).isNone

/-- The owners of intervals: the common one, then each group with its own. -/
def State.owners (s : State) : List (Option Nat) := none :: s.leg.grps.map (fun e => some e.1)

/-- An owner's intervals. -/
def State.ownIvl (s : State) : Option Nat → Ivl
  | none => s.leg.common
  | some g => s.ivl g

/-- An owner's intervals replaced. -/
def State.setOwn (s : State) (o : Option Nat) (i : Ivl) : State :=
  match o with
  | none => { s with leg := { s.leg with common := i } }
  | some g => { s with leg := { s.leg with grps := insertK g i s.leg.grps } }

/-! ## Closing and settling (R131 to R134) -/

/-- Whether a device second is an interval boundary of a length (R131). -/
def State.onGrid (s : State) (len sec : Nat) : Bool :=
  let u := s.utc sec
  decide (u % 60 = 0) && decide (u / 60 % 60 % lenMin len = 0) && !s.isLeapSec sec

/-- The open interval of an owner closes at T (R143 step 2): OPEN becomes PREV, OPEN_CUT becomes PREV_CUT. A span that is no
interval (flag 7) closes without an entry. While a step runs past boundaries, the next interval starts as SKIPPED. -/
def State.closeOwn (s : State) (o : Option Nat) (t : Nat) (stepping : Bool) : State :=
  let i := s.ownIvl o
  let fl := if stepping then 8 else 0
  if bit i.openFl 7 then s.setOwn o { i with openS := t, openFl := fl }
  else
    let s1 := s.setOwn o { i with settle := some (i.openS, t), openS := t, prevFl := i.openFl, openFl := fl, plen := i.len, pnsub := i.nsub }
    s1.mapGroup (s.ownerHas o) (fun _ r =>
      { (r.setFl 4 (r.fl 3)).setFl 3 false with prev := r.prev + r.open_, open_ := 0, prevFl := r.openFl, openFl := 0 })

/-- Two bit sets joined. -/
def orFl (a b : Nat) : Nat := a ||| b

/-- A window entry put at WPOS; WPOS and WFILL advance (R132). -/
def LRec.push (r : LRec) (e : WEnt) : LRec :=
  { r with
    win := if r.wpos < r.win.length then r.win.set r.wpos e else r.win ++ List.replicate (r.wpos - r.win.length) {} ++ [e]
    wpos := (r.wpos + 1) % 15
    wfill := min 15 (r.wfill + 1) }

/-- The last n window entries. -/
def LRec.lastN (r : LRec) (n : Nat) : List WEnt :=
  (List.range n).map (fun j => r.win.getD ((r.wpos + 14 - j) % 15) {})

/-- The demand of a window in W (R133), with lengths in ms. -/
def windowDemand (es : List WEnt) (lenMs : Nat) : Nat :=
  (es.map (fun e => e.e)).sum * 3600 / (es.map (fun e => ((lenMs : Int) + e.dl * 1000).toNat)).sum

/-- Flags that keep a window out of maximum demand (R134): CUT, REPEATED, SPLIT, SKIPPED. -/
def excluded (fl : Nat) : Bool := fl % 16 != 0

/-- The maximum demand of a slot after a settlement (R134). -/
def LRec.maxDemand (r : LRec) (n lenMs tariff tEnd pstart : Nat) : LRec :=
  let es := r.lastN n
  if r.wfill < n ∨ es.any (fun e => excluded e.fl) then r
  else
    let d := windowDemand es lenMs
    if d > r.md.getD (tariff - 1) 0 then
      { r with md := r.md.set (tariff - 1) d, mdt := r.mdt.set (tariff - 1) ((tEnd - pstart) / nsS) }
    else r

/-- A difference in seconds kept within a signed byte. -/
def sat8 (i : Int) : Int := max (-128) (min 127 i)

/-- Whether mains absence flags an interval (R144). -/
def State.mainsCut (s : State) (a b : Nat) : Bool :=
  s.on F.BILL_CTRL_MAINSCUT && (s.leg.cuts.any (fun c => decide (c.1 < b) && decide (a < c.2)) ||
    (match s.leg.cutFrom with | some f => decide (f < b) | none => false))

/-- The latest instant at or before a device second at which a period rule would have closed, by quarter hours back. -/
def State.lastClose (s : State) (k : Nat) : Nat → Nat → Nat
  | 0, t => t
  | n + 1, t => if s.periodClose k t then t else s.lastClose k n (t - 900)

/-- The start of the running period of a scheme (R148). -/
def State.pstartOf (s : State) (k : Nat) : Nat :=
  match lookupK k s.leg.pstart with
  | some t => t
  | none =>
    let t := s.leg.firstRun.getD 0 / nsS
    s.lastClose k 6000 (s.ofUtc (s.utc t / 900 * 900)) * nsS

/-- The pending snapshot parts of a group completed: MD and MDT are taken and cleared, the close is logged (R148). -/
def State.finishSnaps (s : State) (o : Option Nat) : State :=
  let mine := s.leg.snapPend.filter (fun x => s.ownerHas o x.scheme)
  if mine.isEmpty then s
  else
    let full := mine.map (fun x => let r := s.lrec x.slot; { x with md := r.md, mdt := r.mdt, carried := r.carried })
    let ks := uniq (mine.map (fun x => x.scheme))
    let s1 : State := { s with leg := { s.leg with
      snapPend := s.leg.snapPend.filter (fun x => !s.ownerHas o x.scheme)
      snaps := s.leg.snaps ++ full.filter (fun x => x.slot != 0xFFFFFFFF)
      recs := s.leg.recs.map (fun e => if mine.any (fun x => x.slot == e.1) then
        (e.1, { e.2 with md := List.replicate 8 0, mdt := List.replicate 8 0, carried := 0 }) else e) } }
    ks.foldl (fun s k =>
      let t := (mine.find? (fun x => x.scheme == k)).map (fun x => x.t)
      let s2 : State := { s with leg := { s.leg with
        pstart := insertK k (t.getD 0) s.leg.pstart, closed := insertK k (t.getD 0) s.leg.closed } }
      if mine.any (fun x => x.scheme == k && x.told) then s2.log 0x3111 [(2, k)] (.ag 6) else s2) s1

/-- The settling interval of an owner settles (R132), then snapshots waiting for it are completed. -/
def State.settleOwn (s : State) (o : Option Nat) : State :=
  let i := s.ownIvl o
  match i.settle with
  | none => s
  | some (p, t) =>
    let lenMs := lenMin i.plen * 60000
    let dl := sat8 (((t - p) / nsS : Nat) - (lenMin i.plen * 60 : Nat))
    let mc := s.mainsCut p t
    let s1 := s.mapGroup (s.ownerHas o) (fun slot r =>
      let fl := orFl (orFl r.prevFl (i.prevFl % 32)) (b2n (r.fl 4 || mc))
      let k := s.groupOf slot
      let r1 := { (r.push ⟨r.prev, fl, dl⟩).setFl 4 false with prev := 0, prevFl := 0 }
      let r2 := r1.maxDemand i.pnsub lenMs (s.tariffAt k (t / nsS - 1)) t (s.pstartOf k)
      if i.refill then { r2 with wfill := 0 } else r2)
    (s1.setOwn o { i with settle := none, prevFl := 0, refill := false }).finishSnaps o

/-- The settle instant of an owner, if an interval is settling. -/
def State.settleAt (s : State) (o : Option Nat) : Option Nat :=
  let i := s.ownIvl o
  i.settle.map (fun x => x.2 + s.settleNs { i with len := i.plen })

/-- Every owner whose settle instant has come settles. -/
def State.settleDue (s : State) (t : Nat) : State :=
  s.owners.foldl (fun s o => match s.settleAt o with
    | some x => if x ≤ t then s.settleOwn o else s
    | none => s) s

/-! ## Attribution (R127 to R130) -/

/-- The instants within (t0, t1) at which a reading's span is cut: interval boundaries, the bounds of the open and the settling
interval, and tariff switch instants of the slot's scheme (R127, R492). -/
def State.cutPoints (s : State) (k t0 t1 : Nat) (tariffs : Bool) : List Nat :=
  let i := s.ivl k
  let m0 := s.utc (t0 / nsS) / 60
  let m1 := s.utc (t1 / nsS) / 60 + 1
  let mins := (List.range (m1 - m0)).filterMap (fun j =>
    let sec := s.ofUtc ((m0 + 1 + j) * 60)
    let sw := tariffs && s.tariffAt k sec != s.tariffAt k (sec - 1)
    if s.onGrid i.len sec || sw then some (sec * nsS) else none)
  let since := (s.calSet k).since
  let act := if tariffs && s.tariffAt k since != s.tariffAt k (since - 1) then [since * nsS] else []
  let marks := mins ++ act ++ [i.openS] ++ (match i.settle with | some (p, q) => [p, q] | none => [])
  uniq (sortBy (fun a b => decide (a ≤ b)) (marks.filter (fun x => decide (t0 < x) && decide (x < t1))))

/-- The pieces of a span cut at instants: start and end. -/
def piecesOf : Nat → List Nat → Nat → List (Nat × Nat)
  | t0, [], t1 => [(t0, t1)]
  | t0, x :: xs, t1 => (t0, x) :: piecesOf x xs t1

/-- The shares of a movement over pieces: proportional, the last takes what remains (R127). -/
def shares (d dur : Nat) : Nat → List (Nat × Nat) → List Nat
  | _, [] => []
  | rem, [_] => [rem]
  | rem, (a, b) :: t => let x := d * (b - a) / dur; x :: shares d dur (rem - x) t

/-- An import piece goes to its accumulator (R128), or to the REPEATED record in repeat mode (R150). -/
def LRec.accumulate (r : LRec) (i : Ivl) (settleNs ct : Nat) (repeating : Bool) (a share : Nat) : LRec :=
  if repeating then { r with rep := r.rep + share }
  else if i.openS ≤ a then { r with open_ := r.open_ + share }
  else
    let carry := { r with open_ := r.open_ + share, openFl := orFl r.openFl 16, carried := min max32 (r.carried + 1) }
    match i.settle with
    | some (p, q) => if p ≤ a ∧ ct < q + settleNs then { r with prev := r.prev + share } else carry
    | none => carry

/-- An element of a list of tariff registers increased. -/
def addAt (l : List Nat) (ix x : Nat) : List Nat := l.set ix (l.getD ix 0 + x)

/-- One total of a reading attributed (R127): the movement since the base, spread over the pieces. -/
def State.attribTotal (s : State) (k ct : Nat) (imp tariffs : Bool) (total : Nat) (pcs : List (Nat × Nat)) (r : LRec) : LRec :=
  let bitN := if imp then 5 else 6
  if !r.fl bitN then (if imp then { r.setFl 5 true with bimp := total } else { r.setFl 6 true with bexp := total })
  else
    let d := total - (if imp then r.bimp else r.bexp)
    let dur := (pcs.map (fun p => p.2 - p.1)).sum
    let i := s.ivl k
    let r1 := ((pcs.zip (shares d dur d pcs)).foldl (fun r x =>
      let ix := (if k = 0xFFFF then 1 else s.tariffAt k (x.1.1 / nsS)) - 1
      let r' := if tariffs then (if imp then { r with imp := addAt r.imp ix x.2 } else { r with exp := addAt r.exp ix x.2 }) else r
      if imp then r'.accumulate i (s.settleNs { i with len := i.plen }) ct s.leg.rep.isSome x.1.1 x.2 else r') r)
    if imp then { r1 with bimp := total } else { r1 with bexp := total }

/-- The meter-kept registers of a reading added to the slot's registers (R130). -/
def keptAdd (r : LRec) (rd : Reading) (prev : List (Nat × Nat)) : LRec :=
  rd.regs.foldl (fun r x => match lookupK x.1 prev with
    | some old =>
      let d := x.2 - old
      if 0x10 ≤ x.1 ∧ x.1 < 0x18 then { r with imp := addAt r.imp (x.1 - 0x10) d }
      else if 0x18 ≤ x.1 ∧ x.1 < 0x20 then { r with exp := addAt r.exp (x.1 - 0x18) d }
      else r
    | none => r) (r.setFl 1 true)

/-- A committed reading attributed to its slot (R127 to R130, R142). -/
def State.attribute (s : State) (slot ct : Nat) (rd : Reading) (prev : List (Nat × Nat)) : State :=
  let r := s.lrec slot
  let k := s.groupOf slot
  let kept := decide (k = 0xFFFF) && !rd.regs.isEmpty
  if r.fl 2 ∨ (rd.imp.isNone ∧ rd.exp.isNone ∧ rd.regs.isEmpty) then s
  else if !r.fl 0 then
    let r1 := { (if kept then keptAdd r rd prev else r).setFl 0 true with bt := rd.rt }
    let r2 := match rd.imp with | some x => { r1.setFl 5 true with bimp := x } | none => r1
    s.setLrec slot (match rd.exp with | some x => { r2.setFl 6 true with bexp := x } | none => r2)
  else if rd.rt ≤ r.bt then s
  else
    let pcs := piecesOf r.bt (s.cutPoints k r.bt rd.rt (decide (k ≠ 0xFFFF))) rd.rt
    let r0 := if kept then keptAdd r rd prev else r
    let r1 := match rd.imp with | some x => s.attribTotal k ct true (!kept) x pcs r0 | none => r0
    let r2 := match rd.exp with | some x => s.attribTotal k ct false (!kept) x pcs r1 | none => r1
    let s1 := s.setLrec slot { r2 with bt := rd.rt }
    if k ≠ 0xFFFF ∧ (s.calSet k).active.isNone ∧ !s.leg.noCal.contains k then
      ({ s1 with leg := { s1.leg with noCal := k :: s1.leg.noCal } } : State).log 0x3113 [(2, k)] (.ag 6)
    else s1

/-- CUT on the interval that holds a stamp (R144): the open one or the settling one. -/
def State.cutAt (s : State) (slot stamp : Nat) : State :=
  let i := s.ivl (s.groupOf slot)
  let r := s.lrec slot
  if i.openS ≤ stamp then s.setLrec slot (r.setFl 3 true)
  else match i.settle with
    | some (p, _) => if p ≤ stamp then s.setLrec slot (r.setFl 4 true) else s
    | none => s

/-! ## Sessions (R155) -/

/-- A committed session stored in the SESSION volume, unless an identical one is among the slot's last 64 (R155). -/
def State.storeSession (s : State) (slot ct : Nat) (body : Bytes) : State :=
  let mine := s.leg.sess.filter (fun x => x.slot == slot)
  let same := (mine.drop (mine.length - 64)).filter (fun x => x.body.take 16 == body.take 16)
  if same.any (fun x => x.body == body) then s
  else
    let seq := (s.leg.sessSeq + 1) % 2147483648
    let conflict := !same.isEmpty
    let rec_ : SessRec := ⟨slot, if conflict then seq + 2147483648 else seq, ct / nsS, body⟩
    let s1 : State := { s with leg := { s.leg with sessSeq := seq, sess := s.leg.sess ++ [rec_] } }
    let s2 := s1.logCount 0x3130 0 nsS 1 (.ag 6)
    if conflict then s2.log 0x3131 [(4, slot), (8, ofBe (body.take 8))] (.ag 6) else s2

/-! ## Faults and the check value (R120 to R123) -/

/-- The legal check value computed: logged with its first 8 bytes. -/
def State.logCheck (s : State) (code : Nat) (v : Bytes) : State := s.log code [(8, ofBe (v.take 8))] (.ag 6)

/-- A legal fault (R122): logged, then part L is reloaded and the state rebuilt; the third within an hour halts the partition
until the next start. -/
def State.legalFault (s : State) (cause : Nat) : State :=
  let hour := 3600 * nsS
  let fs := (s.leg.faults.filter (fun t => decide (s.time.clk < t + hour))) ++ [s.time.clk]
  let s1 : State := { s.inc F.BILL_FAULTS with leg := { s.leg with faults := fs } }
  let s2 := s1.log 0x3004 [(1, cause), (4, fs.length)] (.ag 6)
  let s3 := s2.set F.BILL_STATUS_RUN 0
  if s.on F.BILL_STATUS_HALTED ∨ 3 ≤ fs.length then
    ((s3.set F.BILL_STATUS_HALTED 1).set F.BILL_STATUS_REBUILDING 0).bannerCheck
  else (s3.set F.BILL_STATUS_REBUILDING 1).logCheck 0x3001 s3.leg.chkNow

/-- The check value recomputed (R120): a value that differs from the one computed at start is a legal fault and clears CHKOK. -/
def State.recheck (s : State) : State :=
  if s.leg.chkNow = s.leg.chk0 then s.logCheck 0x3001 s.leg.chkNow
  else ((s.set F.BILL_STATUS_CHKOK 0).logCheck 0x3002 s.leg.chkNow).legalFault 1

/-- LEGAL_FAULT (R122). -/
def execLegalFault (cause : Nat) (s : State) : Out := ok (s.legalFault cause)

/-- CHECK_TIMER (R120): the 24 h recomputation. -/
def execCheckTimer (s : State) : Out := ok s.recheck

/-- RECOMPUTE (R120): BILL_CHKCMD.RECOMPUTE written. -/
def recomputeAct : Act := fun p _ v s => if p = .seal ∧ bit v 0 = true then s.recheck else s

/-- RECOMPUTE. -/
def execRecompute (p : Port) (v : Word) (s : State) : Out :=
  ok (s.regWrite recomputeAct p F.BILL_CHKCMD_RECOMPUTE.addr v.toNat).st

/-! ## The legal queue (R119) -/

/-- The bytes an entry takes of the legal queue: 48 B with up to 960 B more of session body (R217: at most 1,024 B). -/
def LqEnt.bytes : LqEnt → Nat
  | .reading e prev => 48 + (match e.rd.session with | some b => b.length | none => 0) + 9 * prev.kept.length
  | .cut _ _ _ _ => 16

/-- The legal queue is full (R119, R217). -/
def State.lqFull (s : State) : Bool :=
  decide (65536 ≤ s.leg.queue.length) || decide (queueWords 4 < (s.leg.queue.map (fun e => pktWords e.bytes)).sum + 129)

/-- The check of a record's CRC that an injection makes fail (R125, DET 27 of R457). -/
def State.crcFault (s : State) (slot : Nat) : State :=
  (s.setLrec slot { s.lrec slot with crcBad := false }).marked s.fault.org (fun x => x.legalFault 2)

/-- Work that reads every record finds one whose CRC fails (R125). -/
def State.crcScan (s : State) : State :=
  if !s.on F.BILL_STATUS_RUN then s else match s.leg.recs.find? (fun e => e.2.crcBad) with
  | some e => s.crcFault e.1
  | none => s

/-! ## Boundaries (R143 to R148) -/

/-- The groups that close periods (R135, R148). -/
def State.groups (s : State) : List Nat :=
  uniq (0xFFFF :: (s.leg.cals.map (fun c => c.1) ++ s.meter.recs.map (fun e => e.2.scheme)))

/-- Schemes whose passive calendar is due at a device second: one whose instant lay in repeated time (R150) is due at the next boundary. -/
def State.calsDue (s : State) (sec : Nat) : List Nat :=
  (s.leg.cals.filter (fun c => (c.2.passive.map (fun p => decide (p.activate ≤ sec))).getD false)).map (fun c => c.1)

/-- The tariff of a scheme at a device second once calendars due then are active (R143 step 5). -/
def State.tariffAfter (s : State) (k sec : Nat) : Nat :=
  match (s.calSet k).passive with
  | some p => if p.activate ≤ sec then p.tariff (s.utc sec) else s.tariffAt k sec
  | none => s.tariffAt k sec

/-- KINDS of the boundary at an instant (R145): 0 where nothing falls due. -/
def State.kindsAt (s : State) (t : Nat) : Nat :=
  if t % nsS ≠ 0 then 0
  else
    let sec := t / nsS
    let iv := s.owners.any (fun o => s.onGrid (s.ownIvl o).len sec)
    let pc := s.groups.any (fun k => s.periodClose k sec)
    let ca := !(s.calsDue sec).isEmpty
    let sw := s.leg.cals.any (fun c => s.tariffAfter c.1 sec != s.tariffAt c.1 (sec - 1))
    b2n iv + 2 * b2n pc + 4 * b2n ca + 8 * b2n sw

/-- The passive calendar of a scheme becomes active (R138). -/
def State.activateCal (s : State) (k : Nat) : State :=
  let cs := s.calSet k
  match cs.passive with
  | none => s
  | some p =>
    let s1 : State := { s with leg := { s.leg with
      cals := insertK k { active := some p, previous := cs.active, passive := none, since := p.activate } s.leg.cals } }
    ((s1.agDrop (.calActivate k)).undue (.calActivate k)).log 0x3114 [(2, k), (4, p.calid)] (.ag 6)

/-- At the uptake of a new interval length, an open interval that does not end on the old grid at T ends there all the same, as
a part with SPLIT, on the old values (R135). -/
def State.uptakeSplit (s : State) (t k : Nat) : State :=
  if s.leg.demandPend.isNone || s.leg.taken.contains k || s.onGrid (s.ivl k).len (t / nsS) then s
  else
    let s1 : State := { s with leg := { s.leg with grps := insertK k (s.ivl k) s.leg.grps } }
    let s2 := s1.settleOwn (some k)
    let i := s2.ivl k
    (s2.setOwn (some k) { i with openFl := orFl i.openFl 4 }).closeOwn (some k) t false

/-- The billing period of a group closes at T (R143 step 3): the register part of every slot's snapshot; a pending change of
BILL_DEMAND is taken up (R135). -/
def State.closePeriod (s0 : State) (t k : Nat) : State :=
  let s := s0.uptakeSplit t k
  let ps := s.pstartOf k
  let mine := s.leg.recs.filter (fun e => s.groupOf e.1 == k && (!e.2.fl 2 || decide (ps ≤ (s.mrec e.1).stateT * nsS)))
  let sn := mine.map (fun e => (⟨k, t, e.1, e.2.imp, e.2.exp, [], [], e.2.fl 2, 0, false⟩ : Snap))
  let told := decide (k = 0xFFFF) || (s.calSet k).active.isSome
  let mark : Snap := ⟨k, t, 0xFFFFFFFF, [], [], [], [], false, 0, told⟩
  let s1 : State := { s with leg := { s.leg with snapPend := s.leg.snapPend ++ sn ++ [mark] } }
  match s.leg.demandPend with
  | some (l, n) =>
    if s.leg.taken.contains k then s1
    else
      let i := s1.ivl k
      let whole := s.onGrid l (t / nsS)
      let own := { i with len := l, nsub := n, openS := t, openFl := if whole then 0 else 4
                          refill := i.settle.isSome }
      let s2 : State := { s1 with leg := { s1.leg with
        grps := insertK k own s1.leg.grps, taken := k :: s1.leg.taken, lastTaken := t } }
      if i.settle.isSome then s2 else s2.mapGroup (fun g => g == k) (fun _ r => { r with wfill := 0 })
  | none => s1

/-- LEN_NOW and NSUB_NOW, the values of the common intervals, change at the first whole UTC hour after the last uptake (R135). A group
whose interval differs then from the common one, as it settles or its first part runs, keeps its own. -/
def State.demandSwitch (s : State) (t : Nat) : State :=
  match s.leg.demandPend with
  | some (l, n) =>
    if s.groups.all (fun k => s.leg.taken.contains k) ∧ s.utc (t / nsS) % 3600 = 0 ∧ s.leg.lastTaken < t then
      let com := { s.ivl 0xFFFF with len := l, nsub := n }
      { s with leg := { s.leg with demandPend := none, taken := [], grps := s.leg.grps.filter (fun e => e.2 != com), common := com } }
    else s
  | none => s

/-- The work of a boundary at T in the order of R143. -/
def State.boundaryWork (s : State) (t : Nat) (stepping : Bool) : State :=
  let sec := t / nsS
  let s1 := s.settleDue t
  let s2 := s1.owners.foldl (fun s o =>
    if s.onGrid (s.ownIvl o).len sec then
      let s' := (s.settleOwn o).closeOwn o t stepping
      if s.settleNs (s.ownIvl o) = 0 then s'.settleOwn o else s'
    else s) s1
  let s3 := (s2.groups.filter (fun k => s2.periodClose k sec)).foldl (fun s k => s.closePeriod t k) s2
  let s4 := s3.owners.foldl (fun s o => if (s.ownIvl o).settle.isNone then s.finishSnaps o else s) s3
  let s5 := (s4.calsDue sec).foldl (fun s k => s.activateCal k) s4
  s5.demandSwitch t

/-! ### What is done to the records (R123) -/

/-- Every owner's open interval ends at `t` as a first part with SPLIT; an interval still settling is settled first. -/
def State.splitAll (s : State) (t fl : Nat) : State :=
  s.owners.foldl (fun s o =>
    let s1 := s.settleOwn o
    let i := s1.ownIvl o
    let s2 := (s1.setOwn o { i with openFl := orFl i.openFl 4 }).closeOwn o t false
    s2.setOwn o { s2.ownIvl o with openFl := fl }) s

/-- The REPEATED record enters every window store after a repeat mode of `dur` seconds (R150). -/
def State.repeatEnd (s : State) (dur : Nat) : State :=
  match s.leg.rep with
  | none => s
  | some (_, h) =>
    let s1 := s.owners.foldl (fun s o =>
      let i := s.ownIvl o
      let dl := sat8 ((dur : Int) - (lenMin i.len * 60 : Nat))
      let s' := s.mapGroup (s.ownerHas o) (fun _ r => { r.push ⟨r.rep, 2, dl⟩ with rep := 0 })
      s'.setOwn o { i with openS := h, openFl := 4 }) s
    { s1 with leg := { s1.leg with rep := none } }

/-- A break in a slot's series (R151): the bases are cleared; what is discarded counts and is logged. -/
def State.dropBase (s : State) (slot : Nat) : State :=
  let r := s.lrec slot
  let r1 := ((r.setFl 0 false).setFl 5 false).setFl 6 false
  if r.fl 0 then
    (s.setLrec slot { r1 with gaps := min max32 (r1.gaps + 1), bimp := 0, bexp := 0 }).log 0x3120
      [(4, slot), (8, r.bimp)] (.ag 6)
  else s.setLrec slot r1

/-- A slot retired with a final snapshot, its spare started from zero (R152). -/
def State.retire (s : State) (old spare : Nat) : State :=
  let r := (s.lrec old).setFl 2 true
  let s1 := s.setLrec old r
  let sn : Snap := ⟨s.groupOf old, s.time.dev, old, r.imp, r.exp, r.md, r.mdt, true, r.carried, false⟩
  let s2 : State := { s1 with leg := { s1.leg with snaps := s1.leg.snaps ++ [sn], recs := insertK spare {} s1.leg.recs } }
  s2.log 0x3121 [(4, old)] (.ag 6)

/-- The open interval of every owner given flags, and a start where one is named. -/
def State.openAll (s : State) (f : Ivl → Ivl) : State := s.owners.foldl (fun s o => s.setOwn o (f (s.ownIvl o))) s

/-- An act carried out on the records. -/
def State.legApply (s : State) : LegOp → State
  | .split t fl => s.splitAll t fl
  | .boundary t stepping => s.boundaryWork t stepping
  | .gap => s.openAll (fun i => { i with openFl := 4 + 128 })
  | .reopen t => s.openAll (fun i => { i with openFl := if i.openS = t then 0 else 4, openS := t })
  | .repBegin c h => { s with leg := { s.leg with rep := some (c, h) } }
  | .repEnd dur => s.repeatEnd dur
  | .settle t => s.settleDue t
  | .brk slot => s.dropBase slot
  | .replace old spare => s.retire old spare
  | .erase slot => { s with leg := { s.leg with recs := eraseK slot s.leg.recs } }
  | .cut slot stamp => s.cutAt slot stamp
  | .demand l n => { s with leg := { s.leg with demandPend := some (l, n), taken := [] } }
  | .cal k c => { s with leg := { s.leg with cals := insertK k { s.calSet k with passive := some c } s.leg.cals } }

/-- An act noted for a rebuild. -/
def State.legNote (s : State) (done : Bool) (op : LegOp) : State :=
  { s with leg := { s.leg with hist := s.leg.hist ++ [⟨if done then s.leg.upto else s.pipe.serN, s.time.dev, done, op⟩] } }

/-- An act carried out and noted. -/
def State.legAct (s : State) (op : LegOp) : State := (s.legNote true op).legApply op

/-- An act of the partition; one that is not running carries it out in its rebuild (R122, R123). -/
def State.legDo (s : State) (op : LegOp) : State :=
  if s.on F.BILL_STATUS_RUN then s.legAct op else s.legNote false op

/-- Work that read a slot's record, whose CRC fails (R125). -/
def State.crcOf (s : State) (slot : Nat) : State :=
  if s.on F.BILL_STATUS_RUN && (s.lrec slot).crcBad then s.crcFault slot else s

/-- SETTLE (R132): the earliest settle instant comes. -/
def execSettle (s : State) : Out :=
  ok (if !s.on F.BILL_STATUS_RUN then s else match s.owners.filterMap s.settleAt with
    | [] => s
    | x :: xs => let t := xs.foldl min x; ((s.advDev t).legAct (.settle t)).crcScan)

/-- A reading attributed with its cut mark and its session (R127, R144, R155). -/
def State.takeReading (s : State) (e : SerEnt) (kept : List (Nat × Nat)) : State :=
  let s1 := if e.gasp then s.cutAt e.slot e.stamp else s
  let s2 := match e.rd.session with | some b => s1.storeSession e.slot e.ct b | none => s1
  let s3 := s2.attribute e.slot e.ct e.rd kept
  { s3 with leg := { s3.leg with upto := e.n + 1 } }

/-- One entry processed: a record whose CRC fails is a legal fault (R125), and a cut notice that met it stays queued. -/
def State.legEntry (s : State) : LqEnt → State
  | .cut n t slot stamp =>
    if (s.lrec slot).crcBad then ({ s with leg := { s.leg with queue := .cut n t slot stamp :: s.leg.queue } } : State).crcFault slot
    else s.legAct (.cut slot stamp)
  | .reading e prev => if (s.lrec e.slot).crcBad then s.crcFault e.slot else s.takeReading e prev.kept

/-- LEGAL_QUEUE_ENTRY (R127): the legal core pair takes the oldest entry. -/
def execLegalQueueEntry (s : State) : Out :=
  ok (match s.leg.queue with
    | [] => s
    | e :: q =>
      if s.on F.BILL_STATUS_RUN then
        match ({ s with leg := { s.leg with queue := q } } : State).qTake 4 (s.leg.queue.map LqEnt.bytes) with
        | (s1, .flush) => { s1 with leg := { s1.leg with queue := [] } }
        | (s1, .discard) => s1
        | (s1, .fine) => s1.legEntry e
      else s)

/-- The legal region written as a checkpoint (R123). -/
def State.legSave (s : State) : State :=
  let l := s.leg
  { s with leg := { l with
    hist := []
    ckpt := { n := l.upto, recs := l.recs, common := l.common, grps := l.grps, pstart := l.pstart, closed := l.closed
              snapPend := l.snapPend, demandPend := l.demandPend, taken := l.taken, lastTaken := l.lastTaken, cals := l.cals, rep := l.rep } } }

/-- LEGAL_CHECKPOINT (R123): the pass has written every record and window store. -/
def execLegalCheckpoint (s : State) : Out :=
  ok (if !s.on F.BILL_STATUS_RUN then s
  else if s.leg.recs.any (fun e => e.2.crcBad) then s.crcScan else s.legSave)

/-- COMMISSION and RECOMMISSION break a slot's series (R151). -/
def State.legBreak (s : State) (slot : Nat) : State := (s.legDo (.brk slot)).crcOf slot

/-- REPLACE retires a slot and starts its spare (R152). -/
def State.legReplace (s : State) (old spare : Nat) : State := (s.legDo (.replace old spare)).crcOf old

/-- Bytes 0 to 31 of a boundary record (R145). -/
def BRec.head (b : BRec) : Bytes :=
  le 4 b.seq ++ le 2 b.kinds ++ le 2 b.flags ++ le 8 (b.t / nsS) ++ le 4 (b.t % nsS) ++ le 1 b.utc ++ zeros 3 ++ le 8 b.doneS

/-- The time high-water mark written: the greatest device time reached (R149). -/
def State.writeHwm (s : State) : State := { s with leg := { s.leg with hwm := max s.leg.hwm s.time.dev } }

/-! ### The boundaries to come -/

/-- The next instant after a device time at which a boundary may stand: the next UTC minute, or a calendar's activation before it. -/
def State.nextInstant (s : State) (t : Nat) : Nat :=
  let u := max (s.ofUtc ((s.utc (t / nsS) / 60 + 1) * 60) * nsS) (t + 1)
  (s.leg.cals.filterMap (fun c => c.2.passive.map (fun p => p.activate * nsS))).foldl (fun a x => if t < x then min a x else a) u

/-- The first boundary after a device time, as the calendars and lengths now stand, within a number of candidates. -/
def State.nextBoundary (s : State) (t : Nat) : Nat → Option Nat
  | 0 => none
  | n + 1 =>
    let c := s.nextInstant t
    if s.kindsAt c != 0 then some c else s.nextBoundary c n

/-- The boundaries after `t` and up to `t1` processed one after the other, each found with what the one before has left in force
(R147, R149). `f` processes one. -/
def State.overBoundaries (s : State) (f : State → Nat → State) (t t1 : Nat) : Nat → State
  | 0 => s
  | n + 1 =>
    let c := s.nextInstant t
    if t1 < c then s else (if s.kindsAt c != 0 then f s c else s).overBoundaries f c t1 n

/-- Candidates enough for a span: its minutes, the calendars and a leap second. -/
def State.candsIn (s : State) (t t1 : Nat) : Nat := (t1 - t) / (60 * nsS) + s.leg.cals.length + 3

/-- The pre-commit and the commit of the next boundary enter the agenda, in place of those it held (R49, R146). Every interval length
divides an hour, so that one comes within 61 minutes. -/
def State.armBoundary (s : State) : State :=
  let old := (s.time.agenda.map (fun a => a.kind)).filter (fun k => match k with | .precommit _ => true | .commit _ => true | _ => false)
  let s1 := old.foldl (fun s k => s.agDrop k) s
  let last := max s.leg.lastB (match s.leg.rep with | some (_, h) => h | none => 0)
  if !s.on F.BILL_STATUS_RUN || s.leg.firstRun.isNone then s1
  else match s1.nextBoundary (if last = 0 then s.time.dev else last) (62 + s.leg.cals.length) with
    | none => s1
    | some b =>
      let s2 := if s1.leg.pre.any (fun p => p.t == b) then s1 else s1.agAdd (b - nsS) (.precommit b)
      s2.agAdd b (.commit b)

/-! ### The two writes -/

/-- A boundary's final commit (R145, R146): the record in one write, then the boundary's work. `flags` are LATE and STEPPED. -/
def State.commitBoundary (s : State) (t kinds flags : Nat) (stepping : Bool) : State :=
  let seq := s.leg.bseq + 1
  let b0 : BRec := ⟨seq, kinds, flags + (if s.leg.repEnd ∧ bit kinds 0 then 8 else 0), t, s.utcOfs (t / nsS), s.secs, []⟩
  let ch := sha256 (s.leg.chain ++ b0.head)
  let b := { b0 with chain := ch }
  let l := s.leg.brecs.filter (fun x => !bit x.flags 0) ++ [b]
  let s1 : State := { s with leg := { s.leg with
    brecs := l.drop (l.length - 4096), bseq := seq, chain := ch, pre := none, repEnd := s.leg.repEnd && !bit kinds 0, lastB := max s.leg.lastB t } }
  let s2 := (s1.legAct (.boundary t stepping)).writeHwm
  -- closes and settlements read every record (R125); at a period close a full copy goes to the INTERVAL volume (R123)
  let s3 := if kinds % 4 = 0 then s2
    else if s2.leg.recs.any (fun e => e.2.crcBad) then s2.crcScan
    else if bit kinds 1 then s2.legSave else s2
  if bit flags 1 then s3.log 0x3110 [(4, seq), (4, (s.time.dev - t) / nsS)] (.ag 6) else s3

/-- A boundary at or before the high-water mark is not processed in repeat mode (R150). -/
def State.repeated (s : State) (t : Nat) : Bool :=
  match s.leg.rep with
  | some (_, h) => decide (t ≤ h)
  | none => false

/-- Whether the instant is a boundary that the legal partition has yet to process. -/
def State.pendingB (s : State) (t : Nat) : Bool :=
  s.kindsAt t != 0 && !s.repeated t && decide (s.leg.lastB < t) && s.on F.BILL_STATUS_RUN

/-- BOUNDARY_PRECOMMIT (R146): the complete record with PENDING set, one second before T or at once, as its internal entry fires. -/
def execBoundaryPrecommit (t : Nat) (s : State) : Out :=
  let k := s.kindsAt t
  ok (if !s.pendingB t then s
  else
    let s1 := (s.takeDue (.precommit t)).getD (s.advDev (t - nsS))
    let b : BRec := ⟨s1.leg.bseq + 1, k, 1 + (if s1.leg.repEnd ∧ bit k 0 then 8 else 0), t, s1.utcOfs (t / nsS), 0, []⟩
    { s1 with leg := { s1.leg with pre := some b } })

/-- BOUNDARY_COMMIT (R143, R146): device time reaches T, its internal entry fires, and the boundary that follows is armed. -/
def execBoundaryCommit (t : Nat) (s : State) : Out :=
  ok (if !s.pendingB t then s
  else
    let late := decide (t < s.time.dev) && s.leg.pre.isNone && decide (t / nsS < s.secs)
    (((s.takeDue (.commit t)).getD (s.advDev t)).commitBoundary t (s.kindsAt t) (if late then 2 else 0) false).armBoundary)

/-- The boundaries after the last committed one and up to an instant, late (R147). -/
def State.lateTo (s : State) (t : Nat) : State :=
  if s.leg.lastB = 0 then s
  else s.overBoundaries (fun s b => s.commitBoundary b (s.kindsAt b) 2 false) s.leg.lastB (min t s.time.dev)
    (s.candsIn s.leg.lastB (min t s.time.dev))

/-- The boundaries between the last committed one and device time, late (R147). -/
def State.lateBoundaries (s : State) : State := s.lateTo s.time.dev

/-! ## The rebuild (R123, R147) -/

/-- Acts and readings in their order: before each act the readings of the series that came before it. -/
def State.inOrder (act : State → LegH → State) (rd : State → SerEnt → State) : List LegH → List SerEnt → State → State
  | [], es, s => es.foldl rd s
  | h :: hs, es, s =>
    State.inOrder act rd hs (es.filter (fun e => decide (h.n ≤ e.n))) (act ((es.filter (fun e => decide (e.n < h.n))).foldl rd s) h)

/-- The checkpoint loaded. -/
def State.legLoad (s : State) : State :=
  let c := s.leg.ckpt
  { s with leg := { s.leg with
    recs := c.recs, common := c.common, grps := c.grps, pstart := c.pstart, closed := c.closed, snapPend := c.snapPend
    demandPend := c.demandPend, taken := c.taken, lastTaken := c.lastTaken, cals := c.cals, rep := c.rep } }

/-- What was done since the checkpoint done again on its records: records, intervals and periods come out as they did in service, and
nothing is logged or stored a second time. -/
def State.legAgain (s : State) (hs : List LegH) : State :=
  let es := s.pipe.series.filter (fun e => decide (s.leg.ckpt.n ≤ e.n) && decide (e.n < s.leg.upto))
  let x := (State.inOrder (fun s h => s.legApply h.op) (fun s e => s.takeReading e e.kept) hs es s.legLoad).leg
  { s with leg := { s.leg with
    recs := x.recs.map (fun e => (e.1, { e.2 with crcBad := false })), common := x.common, grps := x.grps, pstart := x.pstart
    closed := x.closed, snapPend := x.snapPend, demandPend := x.demandPend, taken := x.taken, lastTaken := x.lastTaken } }

/-- The rebuild: the checkpoint, what was done since, then the readings and acts that the partition has not taken yet, each after the
boundaries before it, and the boundaries up to now. -/
def State.legRebuild (s : State) : State :=
  let cuts := s.leg.queue.filterMap (fun q => match q with
    | .cut n t slot stamp => some (⟨n, t, false, .cut slot stamp⟩ : LegH)
    | .reading _ _ => none)
  let old := s.leg.hist.takeWhile (fun h => h.done)
  let new := sortBy (fun a b => decide (a.n ≤ b.n)) (s.leg.hist.drop old.length ++ cuts)
  let s1 := s.legAgain old
  let s2 : State := { s1 with leg := { s1.leg with hist := old, queue := [] } }
  let s3 := State.inOrder (fun s h => (s.lateTo h.t).legAct h.op) (fun s e => (s.lateTo e.ct).takeReading e e.kept) new
    (s.pipe.series.filter (fun e => decide (s.leg.upto ≤ e.n))) s2
  s3.lateBoundaries

/-- LEGAL_REBUILD_COMPLETE (R123): the replay is complete. -/
def execLegalRebuildComplete (s : State) : Out :=
  ok (if s.on F.BILL_STATUS_REBUILDING then ((s.legRebuild.set F.BILL_STATUS_REBUILDING 0).set F.BILL_STATUS_RUN 1).armBoundary
  else s)

/-- A power-state transition at an instant (R143, R145): a boundary record of its own with KINDS bit 4, committed at once; a
pre-commit that waits follows it. -/
def State.powerRecord (s : State) (t : Nat) : State :=
  if s.repeated t ∨ ¬ s.on F.BILL_STATUS_RUN then s
  else
    let seq := s.leg.bseq + 1
    let b0 : BRec := ⟨seq, 16, 0, t, s.utcOfs (t / nsS), s.secs, []⟩
    let ch := sha256 (s.leg.chain ++ b0.head)
    let l := s.leg.brecs ++ [{ b0 with chain := ch }]
    let s1 : State := { s with leg := { s.leg with
      brecs := l.drop (l.length - 4096), bseq := seq, chain := ch, pre := s.leg.pre.map (fun p => { p with seq := seq + 1 }) } }
    s1.writeHwm

/-! ## Steps of device time (R149, R150) -/

/-- Repeat mode ends at the high-water mark (R150): the REPEATED record enters every window store. -/
def State.endRepeat (s : State) : State :=
  match s.leg.rep with
  | none => s
  | some (c0, _) =>
    let dur := (s.time.clk - c0) / nsS
    let s1 := (s.legDo (.repEnd dur)).set F.BILL_STATUS_REPEAT 0
    ({ s1 with leg := { s1.leg with rep := none, repEnd := true } } : State).log 0x3103 [(4, dur)] (.ag 6)

/-- A boundary that a step passed (R149): its internal instants fire late (R52), and it is processed with STEPPED. -/
def State.stepOver (s : State) (t0 b : Nat) : State :=
  let s1 := if s.leg.pre.any (fun p => p.t == b) || decide (b ≤ t0 + nsS) then s else s.passInst (.precommit b) (b - nsS)
  (s1.passInst (.commit b) b).commitBoundary b (s1.kindsAt b) 4 true

/-- The legal partition's answer to a step of device time from `t0` to `t1` (R149, R150). One that is not running has its intervals
split in its rebuild, which then processes the boundaries that were passed (R147). -/
def State.legalStep (s : State) (t0 t1 : Nat) : State :=
  if t0 ≤ t1 then
    let s0 := match s.leg.rep with
      | some (_, h) => if h ≤ t1 then s.endRepeat else s
      | none => s
    if s0.leg.rep.isSome then s0
    else if !s.on F.BILL_STATUS_RUN then (if s.leg.rep.isSome then s0 else s0.legDo (.split t0 4))
    else
      let from_ := match s.leg.rep with | some (_, h) => h | none => t0
      -- where repeat mode ended at the mark, no part of an interval was open there
      let s1 := if s.leg.rep.isSome then s0.legAct .gap else s0.legAct (.split from_ (4 + 128))
      let s2 := s1.overBoundaries (fun s b => s.stepOver t0 b) from_ t1 (s1.candsIn from_ t1)
      (s2.legDo (.reopen t1)).crcScan.armBoundary
  else
    match s.leg.rep with
    | some _ => s
    | none =>
      let h := max s.leg.hwm t0
      let s1 := ((s.legDo (.split t0 4)).legDo (.repBegin s.time.clk h)).set F.BILL_STATUS_REPEAT 1
      (({ s1 with leg := { s1.leg with rep := some (s.time.clk, h) } } : State).log 0x3102 [(8, h / nsS)] (.ag 6)).crcScan

/-- REPEAT_MODE_END (R150): device time reaches the high-water mark. -/
def execRepeatModeEnd (s : State) : Out :=
  ok (match s.leg.rep with
    | some (_, h) => (s.advDev h).endRepeat
    | none => s)

/-- HWM_WRITE (R149): the mark is written once per second. -/
def execHwmWrite (s : State) : Out := ok s.writeHwm

/-- The billing period in which a device second fell is closed for a slot (R111, R148). -/
def State.periodClosed (s : State) (slot sec : Nat) : Bool :=
  match lookupK (s.groupOf slot) s.leg.closed with
  | some t => decide (sec * nsS < t)
  | none => false

/-! ## Copies -/

/-- The 256 B of a legal record (R124). -/
def LRec.bytes (r : LRec) : Bytes :=
  let b := le 8 r.bimp ++ le 8 r.bexp ++ le 8 (r.bt / nsS) ++ le 4 (r.bt % nsS) ++ le 2 r.lflags ++ le 1 r.wpos ++ le 1 r.wfill ++
    (r.imp.map (le 8)).flatten ++ (r.exp.map (le 8)).flatten ++ (r.md.map (le 4)).flatten ++ (r.mdt.map (le 4)).flatten ++
    le 8 r.open_ ++ le 8 r.prev ++ le 4 r.carried ++ le 4 r.gaps ++ zeros 4
  b ++ le 4 (crc32c b)

/-- TARIFF_BPEEK's copy (R157): a slot whose legal record was never written reads as zeros. A record whose CRC fails is not copied (R125). -/
def bpeekAct : Act := fun _ _ _ s =>
  if (s.lrec (s.get F.TARIFF_BPEEK_SLOT)).crcBad then s.crcOf (s.get F.TARIFF_BPEEK_SLOT) else
  { s with leg := { s.leg with bpeek := match lookupK (s.get F.TARIFF_BPEEK_SLOT) s.leg.recs with
    | some r => r.bytes
    | none => [] } }

/-- TARIFF_BPEEK (R157). -/
def execTariffBpeek (p : Port) (v : Word) (s : State) : Out :=
  ok (s.regWrite bpeekAct p F.TARIFF_BPEEK_SLOT.addr v.toNat).st

end Sys2Proof.Machine
end

