-- ==== Sys2Proof/Machine/Population.lean ====
section
/-! DEFINITION. The population commands of *A million meter slots* (R99 to R116, R491), with the topology's conditions (R161),
and the checkpoint. -/

namespace Sys2Proof.Machine

/-- Whether a public key entry is the empty one. -/
def keyEmpty (k : Bytes) : Bool := k.all (fun b => b == 0)

/-- Whether a 64 B public key entry is well formed (stage 5): an algorithm with a key version and a key on its curve. -/
def keyValid (k : Bytes) : Bool :=
  let alg := beAt k 0 1
  k.length == 64 &&
  (if alg = 1 then (edDecode (sub k 2 32)).isSome && keyEmpty (k.drop 34)
   else if alg = 2 then (p256.decompress (sub k 2 33)).isSome && keyEmpty (k.drop 35)
   else if alg = 3 then (p384.decompress (sub k 2 49)).isSome && keyEmpty (k.drop 51)
   else false)

/-- The public key entry of a slot. -/
def State.keyEntry (s : State) (slot : Nat) : Bytes := (lookupK slot s.meter.keys).getD (zeros 64)

/-- The public key entry of a slot written. -/
def State.setKey (s : State) (slot : Nat) (k : Bytes) : State :=
  { s with meter := { s.meter with keys := if keyEmpty k then eraseK slot s.meter.keys else insertK slot k s.meter.keys } }

/-- The flags a command may set (R109): SIGREQ, POST, IMPORT_ONLY, SLEEPER. -/
def settableFlags : Nat := 0x47

/-- Whether slot fields lie in their ranges (R104, R299), those of a mask. -/
def fieldsOk (f : SlotFields) (mask : Nat) : Bool :=
  (!bit mask 0 || decide (f.profile ≤ 7)) && (!bit mask 1 || decide (f.minkv ≤ 255)) && (!bit mask 2 || decide (f.seed ≤ 63)) &&
  (!bit mask 3 || f.flags &&& settableFlags == f.flags) && (!bit mask 4 || decide (f.node ≤ 65535)) &&
  (!bit mask 5 || decide (f.scheme ≤ 1023) || f.scheme == 65535) && (!bit mask 6 || decide (f.pmax ≤ max32))

/-- The directory's share above 90 % (R103), logged when it is passed. -/
def State.dirCheck (s : State) : State :=
  let n := s.meter.dir.length
  let high := decide (471859 < n)
  let s1 : State := { s with meter := { s.meter with dirHigh := high } }
  if high && !s.meter.dirHigh then s1.log 0x2033 [(4, n)] (.ag 5) else s1

/-- A node of the topology. -/
def State.node (s : State) (h : Nat) : Option BNode := s.bal.nodes.find? (fun n => n.h == h && !n.gone)

/-- Whether a slot is the reference of a node (R159). -/
def State.isRef (s : State) (slot : Nat) : Bool := s.bal.nodes.any (fun n => n.ref == some slot && !n.gone)

/-- A change of membership that waits for the next balance instant (R162): old slot, new slot, node; MOVING is set. -/
def State.balMove (s : State) (old new node : Nat) : State :=
  let s1 := s.onRec new (fun r => { r with bal := { r.bal with bflags := setBit r.bal.bflags 0 true } })
  { s1 with bal := { s1.bal with moves := s1.bal.moves ++ [⟨old, new, node, s.time.dev⟩] } }

/-- The POST slots that are commissioned, active or suspended (R491). -/
def State.postCount (s : State) : Nat :=
  (s.meter.recs.filter (fun e => e.2.post && decide (2 ≤ e.2.state) && decide (e.2.state ≤ 4))).length

/-- The public-key and profile conditions of COMMISSION (R105). -/
def State.mayCommission (s : State) (slot : Nat) : Bool :=
  let r := s.mrec slot
  (!(r.sigreq || decide (5 ≤ r.profile)) || !keyEmpty (s.keyEntry slot)) &&
  (r.profile != 0 || s.on F.METER_CTRL_NONE_OK)

/-- What COMMISSION and RECOMMISSION do to the record (R109); H and MAP are kept. -/
def MRec.commission (r : MRec) (t : Nat) : MRec :=
  { (r.flag 3 true) with vmask := 0, imp := 0, exp := 0, rt := 0, kept := [], strikes := 0, commT := t }

/-- A slot commissioned. -/
def State.doCommission (s : State) (slot : Nat) (o : Org) : State :=
  (s.onRec slot (fun r => r.commission s.secs)).lifeTo slot 2 o

/-- The guard that every population command shares: the handle in range, and no rebuild of the slot's record (R115). -/
def popGuard (s : State) (slots : List Nat) (f : HRes) : HRes :=
  if slots.any (fun x => decide (1048576 ≤ x)) then .no s stBADRANGE
  else if slots.any (fun x => s.meter.lostRec.contains x) then .no s stBUSY
  else f

/-- PROVISION (R99, R102, R103). -/
def execProvision (r : Req) (ident : Nat) (f : SlotFields) (s : State) : Out :=
  ok (hcpRun r 0x0100 (fun s =>
    if !fieldsOk f 255 then .no s stBADRANGE
    else if !keyEmpty f.key && !keyValid f.key then .no s stBADKEY
    else if (s.findSlot ident).isSome then .no s stBADSTATE
    else match s.place ident with
    | .error e => .no s e
    | .ok (slot, dir) =>
      if s.meter.lostRec.contains slot then .no s stBUSY else
      let m : MRec := { ident, profile := f.profile, minkv := f.minkv, seed := f.seed
                        flags := setBit f.flags 4 dir, node := f.node, scheme := f.scheme, pmax := f.pmax
                        pred := max32, succ := max32, provT := s.secs
                        bal := { eavg := 1 }, dist := { camp := 255, climit := max32 } }
      let s1 := (s.setMrec slot m).setKey slot f.key
      let s2 : State := if dir then (s1.dirPut ident slot).dirCheck else s1
      let s3 := if f.node = 65535 then s2 else s2.balMove slot slot f.node
      { st := s3.lifeTo slot 1 (reqOrg r 5), body := be 4 slot }) s)

/-- A slot's record and key entry zeroed and its directory entry removed (R104, R111); its legal record starts from zero again, as
that of a spare does (R152). -/
def State.freeSlot (s : State) (slot : Nat) (o : Org) : State :=
  let old := s.mrec slot
  let s1 := s.lifeTo slot 0 o
  let s2 : State := ((s1.legDo (.erase slot)).setMrec slot {}).setKey slot []
  let s3 : State := if bit old.flags 4 then s2.dirDrop old.ident else s2
  (if old.node = 65535 then s3
   else { s3 with bal := { s3.bal with moves := s3.bal.moves ++ [⟨slot, slot, 65535, s3.time.dev⟩] } }).dirCheck

/-- DEPROVISION (R105). -/
def execDeprovision (r : Req) (slot : Nat) (s : State) : Out :=
  ok (hcpRun r 0x0101 (fun s => popGuard s [slot] (
    if (s.mrec slot).state ≠ 1 then .no s stBADSTATE else { st := s.freeSlot slot (reqOrg r 5) })) s)

/-- COMMISSION (R105, R109, R491). -/
def execCommission (r : Req) (slot : Nat) (s : State) : Out :=
  ok (hcpRun r 0x0102 (fun s => popGuard s [slot] (
    if (s.mrec slot).state ≠ 1 ∨ !s.mayCommission slot then .no s stBADSTATE
    else if (s.mrec slot).post ∧ 16384 ≤ s.postCount then .no s stNOSLOT
    else { st := (s.doCommission slot (reqOrg r 5)).legBreak slot })) s)

/-- SUSPEND (R105). -/
def execSuspend (r : Req) (slot : Nat) (s : State) : Out :=
  ok (hcpRun r 0x0103 (fun s => popGuard s [slot] (
    let st := (s.mrec slot).state
    if st ≠ 2 ∧ st ≠ 3 then .no s stBADSTATE else { st := s.lifeTo slot 4 (reqOrg r 5) })) s)

/-- RESUME (R105): to active if FIRST is clear, else to commissioned. -/
def execPopResume (r : Req) (slot : Nat) (s : State) : Out :=
  ok (hcpRun r 0x0104 (fun s => popGuard s [slot] (
    if (s.mrec slot).state ≠ 4 then .no s stBADSTATE
    else { st := s.lifeTo slot (if (s.mrec slot).first then 2 else 3) (reqOrg r 5) })) s)

/-- QUARANTINE (R105). -/
def execQuarantine (r : Req) (slot : Nat) (s : State) : Out :=
  ok (hcpRun r 0x0105 (fun s => popGuard s [slot] (
    let st := (s.mrec slot).state
    if st < 2 ∨ 4 < st then .no s stBADSTATE else { st := s.lifeTo slot 6 (reqOrg r 5) })) s)

/-- RECOMMISSION (R105, R109, R491); SIGS are cleared (R174). -/
def execRecommission (r : Req) (slot : Nat) (s : State) : Out :=
  ok (hcpRun r 0x0106 (fun s => popGuard s [slot] (
    let m := s.mrec slot
    if (m.state ≠ 4 ∧ m.state ≠ 6) ∨ !s.mayCommission slot then .no s stBADSTATE
    else if m.post ∧ m.state = 6 ∧ 16384 ≤ s.postCount then .no s stNOSLOT
    else
      let s1 := s.onRec slot (fun r => { r with bal := { r.bal with sigs := 0 } })
      { st := (s1.doCommission slot (reqOrg r 5)).legBreak slot })) s)

/-- RETIRE (R105). -/
def execRetire (r : Req) (slot : Nat) (s : State) : Out :=
  ok (hcpRun r 0x0107 (fun s => popGuard s [slot] (
    let st := (s.mrec slot).state
    if st ≠ 2 ∧ st ≠ 3 ∧ st ≠ 4 ∧ st ≠ 6 then .no s stBADSTATE else { st := s.lifeTo slot 5 (reqOrg r 5) })) s)

/-- REPLACE (R110, R152, R161, R162, R491). -/
def execReplace (r : Req) (old spare : Nat) (s : State) : Out :=
  ok (hcpRun r 0x0108 (fun s => popGuard s [old, spare] (
    let a := s.mrec old
    let posts := s.postCount - b2n (a.post && decide (2 ≤ a.state) && decide (a.state ≤ 4))
    if a.state ≠ 2 ∧ a.state ≠ 3 ∧ a.state ≠ 4 ∧ a.state ≠ 6 then .no s stBADSTATE
    else if (s.mrec spare).state ≠ 1 ∨ !s.mayCommission spare then .no s stBADSTATE
    else if (s.mrec spare).post ∧ 16384 ≤ posts then .no s stNOSLOT
    else
      let s1 := (s.onRec old (fun r => { r with succ := spare })).lifeTo old 5 (reqOrg r 5)
      let s2 := s1.onRec spare (fun r => { r with pred := old, node := a.node, scheme := a.scheme })
      let s3 : State := { s2 with bal := { s2.bal with
        nodes := s2.bal.nodes.map (fun n => if n.ref = some old then { n with ref := some spare, since := s2.time.dev } else n) } }
      { st := ((s3.balMove old spare a.node).doCommission spare (reqOrg r 5)).legReplace old spare })) s)

/-- RELEASE (R111, R161). -/
def execRelease (r : Req) (slot : Nat) (s : State) : Out :=
  ok (hcpRun r 0x0109 (fun s => popGuard s [slot] (
    let m := s.mrec slot
    if m.state ≠ 5 ∨ s.isRef slot ∨ s.secs < m.stateT + s.get F.METER_RETAIN_DAYS * 86400 ∨
        !s.periodClosed slot m.stateT then .no s stBADSTATE
    else { st := s.freeSlot slot (reqOrg r 5) })) s)

/-- The fields of a mask taken into a record (R109). -/
def MRec.update (r : MRec) (f : SlotFields) (mask : Nat) : MRec :=
  { r with
    profile := if bit mask 0 then f.profile else r.profile
    minkv := if bit mask 1 then f.minkv else r.minkv
    seed := if bit mask 2 then f.seed else r.seed
    flags := if bit mask 3 then (r.flags - (r.flags &&& settableFlags)) + f.flags else r.flags
    node := if bit mask 4 then f.node else r.node
    scheme := if bit mask 5 then f.scheme else r.scheme
    pmax := if bit mask 6 then f.pmax else r.pmax }

/-- The post table after an UPDATE: it follows POST on an active slot and the seed of a post (R109, R186, R187, R318). -/
def State.postUpdate (s : State) (slot : Nat) (old : MRec) : State :=
  let m := s.mrec slot
  if m.state ≠ 3 then s
  else if m.post && !old.post then s.postEnter slot
  else if !m.post && old.post then s.postLeave slot
  else match s.post slot with
    | some p =>
      let s1 := s.setPost { p with seed := m.seed, pmax := m.pmax }
      if m.seed = old.seed then s1 else s1.pinPost m.seed m.ident p.dkv
    | none => s

/-- UPDATE (R109, R161). -/
def execUpdate (r : Req) (slot mask : Nat) (f : SlotFields) (s : State) : Out :=
  ok (hcpRun r 0x010A (fun s => popGuard s [slot] (
    let m := s.mrec slot
    let adds := bit mask 3 && bit f.flags 1 && !m.post && decide (2 ≤ m.state)
    if !fieldsOk f mask || decide (255 < mask) then .no s stBADRANGE
    else if m.state = 0 ∨ 4 < m.state then .no s stBADSTATE
    else if bit mask 7 && !keyEmpty f.key && !keyValid f.key then .no s stBADKEY
    else if bit mask 4 && ((f.node != 65535 && (s.node f.node).isNone) || (f.node != m.node && s.isRef slot)) then
      .no s stBADTOPO
    else if adds ∧ 16384 ≤ s.postCount then .no s stNOSLOT
    else
      let s1 := s.onRec slot (fun r => { (r.update f mask) with gen := r.gen + 1 })
      let s2 := if bit mask 7 then s1.setKey slot f.key else s1
      let s3 := if bit mask 4 && f.node != m.node then s2.balMove slot slot f.node else s2
      { st := (s3.postUpdate slot m).journalSlot slot })) s)

/-- READSLOT (R296). -/
def execReadslot (r : Req) (slot : Nat) (s : State) : Out :=
  ok (hcpRun r 0x010B (fun s => popGuard s [slot]
    { st := s, body := (s.mrec slot).wire ++ s.keyEntry slot, changed := false }) s)

/-- FIND (R296). -/
def execFind (r : Req) (ident : Nat) (s : State) : Out :=
  ok (hcpRun r 0x010C (fun s => match s.findSlot ident with
    | some (n, _) => { st := s, body := be 4 n, changed := false }
    | none => .no s stNOTFOUND) s)

/-- LISTEN (R265): the listen schedule of a sleeper. -/
def execListen (r : Req) (slot lwper lwofs lwlen tol : Nat) (s : State) : Out :=
  ok (hcpRun r 0x010D (fun s => popGuard s [slot] (
    if (s.mrec slot).state = 0 then .no s stBADSTATE
    else if lwper = 0 then .no s stBADRANGE
    else { st := s.onRec slot (fun r => { r with radio := { r.radio with
             lwper := lwper, lwofs := lwofs, lwlen := lwlen, tol := tol, slflags := setBit r.radio.slflags 0 true } }) })) s)

/-! ## The checkpoint (R113) -/

/-- The CRC-32C of a record page: its 8 records and nothing else. -/
def CkPage.crc (p : CkPage) : Nat :=
  crc32c ((List.range 8).map (fun i => ((lookupK (8 * p.page + i) p.recs).getD {}).bytes)).flatten

/-- A pass begun (R113): its header holds the number, the device time and the placement key. -/
def State.ckBegin (s : State) : State :=
  let n := s.meter.ckPass + 1
  { s with meter := { s.meter with
      ckT := s.secs, ckAt := s.time.clk, ckPass := n
      ckHead := (s.meter.ckHead.filter (fun h => decide (n ≤ h.pass + 1))) ++ [⟨n, s.time.dev, s.meter.placeK.getD (zeros 16)⟩] } }

/-- A record page written: the copy of the pass before stays until the next (R113). -/
def State.ckWrite (s : State) (n : Nat) : State :=
  let pass := s.meter.ckPass
  { s with meter := { s.meter with
      ckpt := s.meter.ckpt.filter (fun p => p.page != n || decide (pass ≤ p.pass + 1)) ++
        [⟨n, pass, s.time.dev, s.meter.recs.filter (fun e => e.1 / 8 == n), false⟩] } }

/-- The index page of 256 record pages written (R113). -/
def State.ckIndex (s : State) (g : Nat) : State :=
  let pass := s.meter.ckPass
  let mine := s.meter.ckpt.filter (fun p => p.pass == pass && p.page / 256 == g)
  { s with meter := { s.meter with
      ckIdx := s.meter.ckIdx.filter (fun e => e.page / 256 != g || decide (pass ≤ e.pass + 1)) ++
        mine.map (fun p => ⟨p.page, pass, p.t, p.crc⟩) } }

/-- The pages of a pass (R113): a header, 131,072 record pages and 512 index pages. -/
def ckPages : Nat := 131585

/-- The elapsed time at which the next page is due: at a steady rate a pass takes METER_CKPT.HOURS, and the next follows it. -/
def State.ckDue (s : State) : Nat :=
  let h := s.get F.METER_CKPT_HOURS * 3600 * nsS
  if s.meter.ckPass = 0 then s.time.clk
  else if s.meter.ckPos = 0 then s.meter.ckAt + h
  else s.meter.ckAt + s.meter.ckPos * h / ckPages

/-- CHECKPOINT_PAGE (R113): the next page of the pass is written when it is due: the header, then of every 257 pages 256 record pages and
their index page. -/
def execCheckpointPage (s : State) : Out :=
  ok (if !s.on F.SYS_STATUS_FULLREADY then s
  else
    let s0 := s.advTo s.ckDue
    let pos := s0.meter.ckPos
    let q := pos - 1
    let s1 := if pos = 0 then s0.ckBegin else if q % 257 < 256 then s0.ckWrite (q / 257 * 256 + q % 257) else s0.ckIndex (q / 257)
    if pos + 1 = ckPages then
      ({ s1 with meter := { s1.meter with ckPos := 0 } } : State).log 0x2035 [(4, s1.meter.ckPass), (4, s1.secs - s1.meter.ckT)] (.ag 5)
    else { s1 with meter := { s1.meter with ckPos := pos + 1 } })

/-- Whether a record page is intact (R113): it has an index entry, and it matches the entry's CRC. -/
def State.pageIntact (s : State) (p : CkPage) : Bool :=
  !p.lost && s.meter.ckIdx.any (fun e => e.page == p.page && e.pass == p.pass && e.crc == p.crc)

/-- A record with a journal entry applied, to the lines it carries: 0 to 4 and 7 (R112); a free record is zero (R104). -/
def MRec.journalled (a : MRec) (j : PopJ) : MRec :=
  if j.mrec.state = 0 then {} else { j.mrec with radio := a.radio, link := a.link }

/-- A record with the last committed values of an entry of its series (R114 step 3). -/
def MRec.fromSeries (r : MRec) (e : SerEnt) : MRec :=
  { r with
    imp := e.rd.imp.getD r.imp, exp := e.rd.exp.getD r.exp, rt := e.rd.rt, ct := e.ct
    kept := e.rd.regs.foldl (fun l x => insertK x.1 x.2 l) r.kept
    vmask := e.rd.regs.foldl (fun m x => setBit m (x.1 - 0x10 + 2) true) (r.vmask ||| (b2n e.rd.imp.isSome + 2 * b2n e.rd.exp.isSome))
    curA := (e.rd.cur.getD (r.curA, r.curB, r.curC)).1
    curB := (e.rd.cur.getD (r.curA, r.curB, r.curC)).2.1
    curC := (e.rd.cur.getD (r.curA, r.curB, r.curC)).2.2
    tamper := e.rd.tamper.getD r.tamper }

/-- One record rebuilt by R114: page, journal, series, quarantine. REBUILT tells whether this recovery rebuilt the window (R104). -/
def State.rebuildRec (s : State) (slot : Nat) : MRec × Bool :=
  -- the newest intact page that holds the record
  let pg := (s.meter.ckpt.filter (fun p => p.page == slot / 8 && s.pageIntact p)).getLast?
  let base : MRec := match pg with | some p => (lookupK slot p.recs).getD {} | none => {}
  let t0 := match pg with | some p => p.t | none => 0
  let r1 := (s.meter.journal.filter (fun j => j.slot == slot && decide (t0 ≤ j.t))).foldl MRec.journalled base
  if r1.state = 0 then ({}, false)
  else
    let ser := (s.pipe.series.filter (fun e => e.slot == slot && decide (t0 < e.ct) && decide (r1.ct < e.ct) &&
      decide (r1.provT * nsS ≤ e.ct))).getLast?
    let r2 := match ser with | some e => r1.fromSeries e | none => r1
    let hs := (s.pipe.quar.filter (fun q => q.slot == some slot && decide (t0 ≤ q.secs * nsS) && decide (r1.provT ≤ q.secs))).map
      (fun q => q.counter) ++ (match ser with | some e => [e.counter] | none => [])
    let h := hs.foldl max r2.h
    let changed := ser.isSome || decide (r2.h < h)
    (if changed then { (r2.flag 5 true) with h := h, map := 18446744073709551615 } else r2.flag 5 false, changed)

/-! ## The registers of R116 that act -/

/-- What a write of METER_FIND does. -/
def meterFindAct : Act := fun _ _ v s =>
  if bit v 0 then
    let r := s.findSlot (s.get F.METER_FINDL_ID + 4294967296 * s.get F.METER_FINDH)
    (((s.set F.METER_FOUND_SLOT ((r.map (fun x => x.1)).getD 0)).set F.METER_FOUND_VALID (b2n r.isSome)).set
      F.METER_FOUND_VIADIR (b2n ((r.map (fun x => x.2)).getD false))).set F.METER_FOUND_DONE 1
  else s.set F.METER_FOUND_DONE 0

/-- METER_FIND (R116). -/
def execMeterFind (p : Port) (v : Word) (s : State) : Out :=
  ok (s.regWrite meterFindAct p F.METER_FIND_GO.addr v.toNat).st

/-- What a write of METER_PEEK does: the record of the slot is copied. -/
def meterPeekAct : Act := fun _ _ _ s =>
  { s with meter := { s.meter with peek := (s.mrec (s.get F.METER_PEEK_SLOT)).bytes } }

/-- METER_PEEK (R116). -/
def execMeterPeek (p : Port) (v : Word) (s : State) : Out :=
  ok (s.regWrite meterPeekAct p F.METER_PEEK_SLOT.addr v.toNat).st

end Sys2Proof.Machine
end

