-- ==== Sys2Proof/Machine/Transfer.lean ====
section
/-! DEFINITION. Block transfer (R302 to R304), the discards that a release makes (R354, R355), CALLOAD (R137) and the deletion of sessions (R155). -/

namespace Sys2Proof.Machine

/-! ## Transfers (R302 to R304) -/

/-- The transfer of a handle as one port sees it: a handle of the seal port is used only there. -/
def State.xfer (s : State) (r : Req) (h : Nat) : Option Xfer :=
  s.port.xfers.find? (fun x => x.handle == h && x.atSeal == (r.port == .seal))

/-- A transfer put back. -/
def State.setXfer (s : State) (x : Xfer) : State :=
  { s with port := { s.port with xfers := s.port.xfers.map (fun y => if y.handle == x.handle then x else y) } }

/-- The volume that holds a transfer's object. -/
def Xfer.vol (x : Xfer) : Nat := if x.kind = 1 ∨ x.kind = 5 then 4 else 3

/-- A transfer released or discarded. -/
def State.dropXfer (s : State) (x : Xfer) : State :=
  ({ s with port := { s.port with xfers := s.port.xfers.filter (fun y => y.handle != x.handle) } } : State).discard x.vol
    ((x.units.map (fun u => u.2.length)).sum)

/-- The units of an object. -/
def Xfer.total (x : Xfer) : Nat := (x.size + 63) / 64

/-- The object's bytes, once every unit is held. -/
def Xfer.image (x : Xfer) : Bytes := (x.units.map (fun u => u.2)).flatten

/-- A closed transfer of a kind, for its consumer. -/
def State.closedXfer (s : State) (r : Req) (h kind : Nat) : Option Xfer :=
  (s.xfer r h).bind (fun x => if x.closed ∧ x.kind = kind then some x else none)

/-- Whether a staged part is the legal image, whose transfer stays in STAGE (R393). -/
def State.stagedLegal (s : State) (i : Nat) : Bool :=
  match s.fwu.man with
  | some m => (m.ents[i]?).any (fun e => e.kind == 0x4C)
  | none => false

/-- The bytes that the STAGE volume holds (R345): transfers of kinds 2 to 4, campaign images and the staged legal image. -/
def State.stageUsed (s : State) : Nat :=
  ((s.port.xfers.filter (fun x => x.vol == 3)).map (fun x => x.size)).sum +
    (s.dist.camps.map (fun c => c.image.length)).sum + ((s.fwu.staged.filter (fun x => s.stagedLegal x.1)).map (fun x => x.2.length)).sum

/-- What XOPEN finds wrong with a kind, target, size and digest (R302, R391). -/
def State.xopenCheck (s : State) (kind target size : Nat) (sha : Bytes) : Option Nat :=
  if kind = 1 then (if target ≠ 0 ∨ size < 40 ∨ 3912 < size then some stBADRANGE else none)
  else if kind = 2 then match s.camp target with
    | none => some stNOTFOUND
    | some c =>
      if size ≠ c.size then some stBADRANGE
      else if c.got ∨ 3 ≤ c.state then some stBADSTATE
      else if s.port.xfers.any (fun x => x.kind == 2 && x.target == target) then some stBUSY else none
  else if kind = 3 then (if target ≠ 0 ∨ size = 0 ∨ 65536 < size then some stBADRANGE else none)
  else if kind = 4 then match s.fwu.man with
    | none => some stBADSTATE
    | some m =>
      if s.fwu.st ≠ 1 ∨ m.ents.length ≤ target ∨ s.fwu.staged.any (fun x => x.1 == target) then some stBADSTATE
      else match m.ents[target]? with
      | some e => if size ≠ e.tsize ∨ (e.form = 0 ∧ sha ≠ e.ihash) then some stBADRANGE
        else if s.port.xfers.any (fun x => x.kind == 4 && x.target == target) then some stBUSY else none
      | none => some stBADSTATE
  else if kind = 5 then (if target ≠ 0 ∨ size = 0 ∨ size % 4 ≠ 0 ∨ 4194304 < size then some stBADRANGE else none)
  else some stBADRANGE

/-- A transfer opened under the lowest handle that is free. -/
def State.openXfer (s : State) (kind target size : Nat) (sha : Bytes) (atSeal : Bool) : State × Nat :=
  let h := ((List.range 16).find? (fun n => !s.port.xfers.any (fun x => x.handle == n))).getD 0
  let x : Xfer := { handle := h, kind, target, size, sha, atSeal, at_ := s.time.clk }
  let s1 : State := { s with port := { s.port with xfers := s.port.xfers ++ [x] } }
  (if kind = 2 then s1.setCampState target 2 else s1, h)

/-- XOPEN (R302, R345). -/
def execXopen (r : Req) (kind target size : Nat) (sha : Bytes) (s : State) : Out :=
  ok (hcpRun r 0x0900 (fun s => match s.xopenCheck kind target size sha with
    | some c => .no s c
    | none =>
      if 16 ≤ s.port.xfers.length ∨ s.on F.FTL_STATUS_RO ∨
          (2 ≤ kind ∧ kind ≤ 4 ∧ 1073741824 < s.stageUsed + size) then .no s stBUSY
      else
        let (s1, h) := s.openXfer kind target size sha (r.port == .seal)
        { st := s1, body := be 1 h ++ zeros 3 }) s)

/-- The units that a block covers, in order. -/
def unitsOf (u : Nat) : Nat → Bytes → List (Nat × Bytes)
  | 0, _ => []
  | n + 1, b => if b = [] then [] else (u, b.take 64) :: unitsOf (u + 1) n (b.drop 64)

/-- XBLOCK (R303). -/
def execXblock (r : Req) (handle ofs : Nat) (data : Bytes) (s : State) : Out :=
  ok (hcpRun r 0x0901 (fun s => match s.xfer r handle with
    | none => .no s stBADXFER
    | some x =>
      let us := unitsOf (ofs / 64) (data.length + 1) data
      let differs := us.any (fun u => match lookupK u.1 x.units with | some d => d != u.2 | none => false)
      if x.closed || decide (ofs % 64 ≠ 0) || data.isEmpty || decide (x.size < ofs + data.length) ||
          (decide (data.length % 64 ≠ 0) && decide (ofs + data.length ≠ x.size)) || differs then .no s stBADXFER
      else
        let held := us.foldl (fun l u => insertK u.1 u.2 l) x.units
        { st := s.setXfer { x with units := held, at_ := s.time.clk }, body := be 4 held.length }) s)

/-- XQUERY (R296): the bitmap of the units held, from a first one on. -/
def execXquery (r : Req) (handle first : Nat) (s : State) : Out :=
  ok (hcpRun r 0x0902 (fun s => match s.xfer r handle with
    | none => .no s stBADXFER
    | some x =>
      if x.total ≤ first then .no s stBADRANGE
      else
        let n := min 8192 (x.total - first)
        let byte := fun (j : Nat) => BitVec.ofNat 8 ((List.range 8).foldl (fun a i =>
          if (lookupK (first + 8 * j + i) x.units).isSome then a + 2 ^ i else a) 0)
        { st := s, body := be 4 first ++ be 4 x.total ++ (List.range ((n + 7) / 8)).map byte, changed := false }) s)

/-- A transfer discarded: a kind-2 transfer leaves its campaign defined without an image. -/
def State.abortXfer (s : State) (x : Xfer) : State :=
  let s1 := s.dropXfer x
  if x.kind = 2 ∧ (s1.camp x.target).any (fun c => c.state == 2 && !c.got) then s1.setCampState x.target 1 else s1

/-- XABORT (R304). -/
def execXabort (r : Req) (handle : Nat) (s : State) : Out :=
  ok (hcpRun r 0x0904 (fun s => match s.xfer r handle with
    | none => .no s stBADXFER
    | some x => { st := s.abortXfer x }) s)

/-- TRANSFER_TIMEOUT (R304): 24 h without an XBLOCK discard a transfer that is still open. -/
def execTransferTimeout (handle : Nat) (s : State) : Out :=
  ok (match s.port.xfers.find? (fun x => x.handle == handle && !x.closed) with
    | none => s
    | some x => (s.advTo (x.at_ + 86400 * nsS)).abortXfer x)

/-! ## Lists of slots (transfers of kind 5) -/

/-- The handles of a list. -/
def slotList : Nat → Bytes → List Nat
  | 0, _ => []
  | n + 1, b => if b.length < 4 then [] else beAt b 0 4 :: slotList n (b.drop 4)

/-! ## CALLOAD -/

/-- CALLOAD (R136 to R138): the image is checked and becomes the scheme's passive calendar; its activation enters the agenda. -/
def execCalload (r : Req) (handle : Nat) (s : State) : Out :=
  ok (hcpRun r 0x0200 (fun s =>
    if s.on F.TARIFF_LCTRL_CALLOCK ∧ s.role r.port = 1 then .no s stLOCKED
    else match s.closedXfer r handle 1 with
    | none => .no s stBADXFER
    | some x =>
      let s0 := s.dropXfer x
      match parseCal x.image with
      | none => .no s0 stBADCAL
      | some c =>
        if c.activate * nsS < s.time.dev + s.get F.TARIFF_LCTRL_MINLEAD * 3600 * nsS then .no s0 stBADCAL
        else
          let k := AgKind.calActivate c.scheme
          let s1 := (s0.agDrop k).undue k
          if s1.agFull then .no (s0.agRefuse 6) stBUSY
          else
            let cs := s1.calSet c.scheme
            let s2 : State := { s1.legNote (s1.on F.BILL_STATUS_RUN) (.cal c.scheme c) with
              leg := { (s1.legNote (s1.on F.BILL_STATUS_RUN) (.cal c.scheme c)).leg with cals := insertK c.scheme { cs with passive := some c } s1.leg.cals } }
            { st := (s2.agAdd (c.activate * nsS) k).armBoundary.log 0x3112 [(2, c.scheme), (4, c.calid)] (reqOrg r 6) }) s)

/-! ## Sessions -/

/-- SESSION_EXPIRE (R155): every record BILL_SESSDAYS days old is deleted. -/
def execSessionExpire (s : State) : Out :=
  ok (match s.leg.sess with
    | [] => s
    | e :: _ =>
      let keep := s.get F.BILL_SESSDAYS_DAYS * 86400
      let s1 := s.advDev ((e.ct + keep) * nsS)
      let old := s1.leg.sess.filter (fun x => decide (x.ct + keep ≤ s1.secs))
      ({ s1 with leg := { s1.leg with sess := s1.leg.sess.filter (fun x => decide (s1.secs < x.ct + keep)) } } : State).discard 1
        (256 * old.length))

end Sys2Proof.Machine
end

