-- ==== Sys2Proof/Machine/Balance.lean ====
section
/-! DEFINITION. The balance engine (R158 to R179): topology, interpolation at balance instants, residual, detector, learning,
localisation, tamper signatures and results. -/

namespace Sys2Proof.Machine

/-! ## Registers -/

/-- The engine runs (R178, R179): enabled, and its state is back. -/
def State.balRuns (s : State) : Bool := s.on F.BAL_CTRL_EN && s.on F.SYS_STATUS_FULLREADY

/-- The topology's nodes. -/
def State.bnodes (s : State) : List BNode := s.bal.nodes.filter (fun n => !n.gone)

/-- Whether a node is raised (R171). -/
def BNode.raised (n : BNode) : Bool := n.upP || n.upM

/-- A node put back. -/
def State.setNode (s : State) (n : BNode) : State :=
  { s with bal := { s.bal with nodes := s.bal.nodes.map (fun x => if x.h == n.h && x.gone == n.gone then n else x) } }

/-! ## Topology (R159 to R162) -/

/-- A slot that may be a reference (R160). -/
def State.refOk (s : State) (slot node parent : Nat) : Bool :=
  let r := s.mrec slot
  decide (2 ≤ r.state) && decide (r.state ≤ 4) && r.node == parent &&
    !s.bnodes.any (fun n => n.ref == some slot && n.h != node)

/-- What refuses a DEFINE or REDEFINE, the handle's use apart (R160). -/
def State.topoBad (s : State) (node parent ref s0 : Nat) : Bool :=
  (parent != 65535 && (match s.node parent with | some p => p.level == 7 | none => true)) || parent == node ||
    (ref != max32 && !s.refOk ref node parent) || decide (s0 < 1000)

/-- A node with the values a command carries (R168, R171). -/
def nodeOf (node parent ref a0 b0 s0 flags level : Nat) : BNode :=
  let a := rnd (mkRat a0 1000)
  let b := rnd (mkRat b0 1000000)
  let pa := max a 100
  let pb := max b (rnd (mkRat 1 1000))
  let sd := rnd (mkRat s0 1000)
  { h := node, parent := parent, ref := if ref = max32 then none else some ref, flags := flags, level := level
    a := a, b := b, p11 := rnd (pa * pa), p12 := 0, p21 := 0, p22 := rnd (pb * pb), s2 := rnd (sd * sd) }

/-- The level under a parent. -/
def State.levelUnder (s : State) (parent : Nat) : Nat := match s.node parent with | some p => p.level + 1 | none => 0

/-- Whether the numbers of a node command lie in their ranges. -/
def nodeRange (node parent ref flags : Nat) : Bool :=
  decide (node < 65535) && decide (parent ≤ 65535) && (ref == max32 || decide (ref < 1048576)) && decide (flags < 4)

/-- A node command carried out: event 0x4030. -/
def State.nodeDone (s : State) (code node : Nat) (r : Req) : State := s.log 0x4030 [(2, code), (2, node)] (reqOrg r 7)

/-- The suspect list of a node replaced: SUSPECT in BFLAGS follows it (R173). -/
def State.setSuspects (s : State) (h : Nat) (l : List Suspect) : State :=
  match s.node h with
  | none => s
  | some n =>
    let flag := fun (b : Bool) (s : State) (x : Suspect) =>
      if (s.mrec x.slot).state = 0 then s
      else s.onRec x.slot (fun r => { r with bal := { r.bal with bflags := setBit r.bal.bflags 1 b } })
    let s1 := l.foldl (flag true) (n.susp.foldl (flag false) (s.setNode { n with susp := l }))
    if n.susp = l then s1
    else s1.log 0x4013 [(2, h), (4, l.length), (4, match l with | x :: _ => x.slot | [] => max32)] (.ag 7)

/-- The suspects of a node that goes: its list empties (R173). -/
def State.unlist (s : State) (h : Nat) : State := s.setSuspects h []

/-- DEFINE (R160). -/
def execDefine (r : Req) (node parent ref a0 b0 s0 flags : Nat) (s : State) : Out :=
  ok (hcpRun r 0x0180 (fun s =>
    if !nodeRange node parent ref flags then .no s stBADRANGE
    else if (s.node node).isSome || s.topoBad node parent ref s0 then .no s stBADTOPO
    else
      let n := { nodeOf node parent ref a0 b0 s0 flags (s.levelUnder parent) with since := s.time.dev }
      let s1 : State := { s with bal := { s.bal with nodes := s.bal.nodes ++ [n] } }
      { st := s1.nodeDone 0x0180 node r }) s)

/-- REDEFINE (R160, R171): the model and the detector take the values that the command carries; what the node has besides, among it the
intervals buffered and the suspects listed, stays. -/
def execRedefine (r : Req) (node parent ref a0 b0 s0 flags : Nat) (s : State) : Out :=
  ok (hcpRun r 0x0181 (fun s =>
    if !nodeRange node parent ref flags then .no s stBADRANGE
    else match s.node node with
    | none => .no s stBADTOPO
    | some old =>
      let lv := s.levelUnder parent
      if s.topoBad node parent ref s0 || (lv != old.level && s.bnodes.any (fun n => n.parent == node)) then .no s stBADTOPO
      else
        let n := { nodeOf node parent ref a0 b0 s0 flags lv with
          since := s.time.dev, clipDay := old.clipDay, susp := old.susp, hist := old.hist, lastFlags := old.lastFlags, buf := old.buf }
        { st := (s.setNode n).nodeDone 0x0181 node r }) s)

/-- REMOVE (R160): intervals that ended before stay balanced under the old membership (R162). -/
def execRemove (r : Req) (node : Nat) (s : State) : Out :=
  ok (hcpRun r 0x0182 (fun s =>
    if 65535 ≤ node then .no s stBADRANGE
    else if (s.node node).isNone || s.meter.recs.any (fun e => e.2.state != 0 && e.2.node == node) ||
        s.bnodes.any (fun n => n.parent == node) then .no s stBADTOPO
    else
      let s0 := s.unlist node
      let s1 : State := { s0 with bal := { s0.bal with nodes := s0.bal.nodes.map (fun n => if n.h == node then { n with gone := true, since := s0.time.dev } else n) } }
      { st := s1.nodeDone 0x0182 node r }) s)

/-! ## Balance instants (R162) -/

/-- The length code in force for balance instants. -/
def State.balLen (s : State) : Nat := s.leg.common.len

/-- The next balance instant after a device second. -/
def State.nextB (s : State) (t : Nat) : Nat :=
  let l := lenMin s.balLen * 60
  let n := t + (l - s.utc t % l)
  if s.onGrid s.balLen n then n else if t + 1 < n ∧ s.onGrid s.balLen (n - 1) then n - 1 else n + 1

/-- The balance instant before one. -/
def State.prevB (s : State) (t : Nat) : Nat :=
  let l := lenMin s.balLen * 60
  if s.onGrid s.balLen (t - l) then t - l else if s.onGrid s.balLen (t - l - 1) then t - l - 1 else t - l + 1

/-- The balance instants in (a, b]. -/
def State.instants (s : State) (b : Nat) : Nat → Nat → List Nat
  | 0, _ => []
  | n + 1, a => let t := s.nextB a; if b < t then [] else t :: s.instants b n t

/-- A change of membership takes effect (R162): event 0x4031; the spare takes the old slot's EAVG. -/
def State.doMove (s : State) (m : BMove) : State :=
  let kids := eraseK m.new (eraseK m.old s.bal.kids)
  let s1 : State := { s with bal := { s.bal with kids := if m.node = 65535 then kids else insertK m.new m.node kids } }
  let ea := (s.mrec m.old).bal.eavg
  let wait := s.bal.moves.any (fun x => x.new == m.new)
  let s2 := if (s1.mrec m.new).state = 0 then s1
    else s1.onRec m.new (fun r => { r with bal := { r.bal with
      bflags := setBit r.bal.bflags 0 wait, eavg := if m.old = m.new then r.bal.eavg else ea } })
  s2.log 0x4031 [(4, m.old), (4, if m.old = m.new then m.node else m.new)] (.ag 7)

/-- Changes of one child that take effect together are one move: from where it was to where it comes to be. -/
def joinMoves (ms : List BMove) : List BMove :=
  ms.foldl (fun l m => if l.any (fun x => x.new == m.old) then
    l.map (fun x => if x.new == m.old then { m with old := x.old } else x) else l ++ [m]) []

/-- The references at an instant (R162): a node command that completed at the instant or after it does not count yet. -/
def State.refsAt (s : State) (t : Nat) : List (Nat × Nat) :=
  let old := fun (n : BNode) => decide (t * nsS ≤ n.since)
  s.bal.refs.filter (fun r => s.bal.nodes.any (fun n => n.h == r.1 && old n)) ++
    (s.bnodes.filter (fun n => !old n && !s.bal.nodes.any (fun m => m.h == n.h && m.gone && old m))).filterMap (fun n => n.ref.map (fun x => (n.h, x)))

/-! ## Readings (R163, R164, R174) -/

/-- Net energy, import minus export, of the totals there are. -/
def netOf (imp exp : Option Nat) : Int := (imp.getD 0 : Int) - (exp.getD 0 : Int)

/-- The confidence weight of an interval's end with a bracketing gap in ns (R164). -/
def State.weight (s : State) (g : Nat) : Rat :=
  let full := s.get F.BAL_GAP_FULL * 60 * nsS
  let mx := s.get F.BAL_GAP_MAX * 60 * nsS
  if g ≤ full then 1 else if mx ≤ g then 0 else rnd (mkRat ((mx - g : Nat)) (mx - full))

/-- The phase currents of a reading, by its reading time, where it carries any. -/
def Reading.curs (r : Reading) : List (Nat × List Nat) :=
  match r.cur with | some (a, b, c) => [(r.rt, [a, b, c])] | none => []

/-- The interval that ends at an instant, if it is open. -/
def State.openAt (s : State) (t : Nat) : Option BOpen := s.bal.opens.find? (fun o => o.t == t)

/-- The nodes of an interval in which a slot is a child or the reference. -/
def BOpen.nodesOf (o : BOpen) (slot : Nat) : List Nat :=
  (o.kids.filter (fun k => k.1 == slot)).map (fun k => k.2) ++ (o.refs.filter (fun k => k.2 == slot)).map (fun k => k.1)

/-- The end of an interval's re-balance window (R175): at most 127 intervals long. -/
def State.rebalEnd (s : State) (o : BOpen) : Nat := o.t + min (s.get F.BAL_WIN_REBAL * 60) (127 * o.len)

/-- A deposit into the interval that ends at an instant (R164, R175): into a final interval it is not made, and counts as late. -/
def State.deposit (s : State) (d : Deposit) : State :=
  let late := fun (s : State) => (s.inc F.BAL_LATE).log 0x4021 [(4, d.slot), (8, d.t)] (.ag 7)
  let put := fun (s : State) =>
    ({ s with bal := { s.bal with deps := s.bal.deps ++ [d] } } : State).onRec d.slot (fun r => { r with bal := { r.bal with
      eavg := max 1 (Config.eavg r.bal.eavg (d.e.natAbs / 1000)) } })
  match s.openAt d.t with
  | none => if d.t ≤ s.bal.lastInst then late s else put s
  | some o =>
    let ns := o.nodesOf d.slot
    if (ns ≠ [] ∧ ns.all (fun n => o.fin.contains n)) ∨ s.rebalEnd o * nsS ≤ s.time.dev then late s
    else
      let o1 := { o with prov := o.prov.map (fun p => if ns.contains p.1 then (p.1, min 65535 (p.2 + 1)) else p) }
      put { s with bal := { s.bal with opens := s.bal.opens.map (fun x => if x.t == d.t then o1 else x) } }

/-- The net energy interpolated at an instant between two readings in mWh (R164). -/
def between (ta tb t : Nat) (ea eb : Int) : Int := ea + Int.tdiv ((eb - ea) * ((t * nsS : Nat) - (ta : Int))) (tb - ta : Nat)

/-- Mean net power between two readings in W (R164). -/
def rateOf (ta tb : Nat) (ea eb : Int) : Int := Int.tdiv ((eb - ea) * 36 * (nsS / 10 : Nat)) (tb - ta : Nat)

/-- One balance instant that a reading spans (R164), from the committed net energy at `ta` to that at `tb`. -/
def State.spanAt (s : State) (slot ta tb : Nat) (ea eb : Int) (cs : List (Nat × List Nat)) (t : Nat) : State :=
  let g := tb - ta
  let e := between ta tb t ea eb
  let r := s.mrec slot
  let old := s.bal.ends.find? (fun x => x.1 == slot)
  let s1 := if r.bal.lastt = s.prevB t ∧ r.bal.lastt ≠ 0 then
      let (g0, c0) := match old with | some (_, g0, c0) => (g0, c0) | none => (g, [])
      let all := c0 ++ cs.filter (fun x => !c0.any (fun y => y.1 == x.1))
      s.deposit ⟨slot, t, e - r.bal.eat, min (s.weight g0) (s.weight g), all⟩
    else s
  let s2 := s1.onRec slot (fun r => { r with bal := { r.bal with eat := e, lastt := t } })
  { s2 with bal := { s2.bal with ends := (slot, g, cs) :: s2.bal.ends.filter (fun x => x.1 != slot) } }

/-- A signature found (R174). -/
def State.signature (s : State) (slot t b : Nat) : State :=
  let s1 := s.onRec slot (fun r => { r with bal := { r.bal with
    sigs := setBit r.bal.sigs b true, sigcnt := min 65535 (r.bal.sigcnt + 1) } })
  ({ s1 with bal := { s1.bal with sigLog := s1.bal.sigLog ++ [(slot, t)] } } : State).log 0x4020 [(4, slot), (1, b)] (.ag 7)

/-- The tamper signatures of a committed reading of an active slot (R174), against the values committed before it. -/
def State.signatures (s : State) (x : BIn) : List Nat :=
  let r := s.mrec x.slot
  let same := fun (n : Option Nat) (b o : Nat) => match n with | some a => bit x.last.vmask b && a == o | none => true
  let z := match x.rd.cur with
    | some (a, b, c) =>
      (x.rd.imp.isSome || x.rd.exp.isSome) && same x.rd.imp 0 x.last.imp && same x.rd.exp 1 x.last.exp &&
      decide (x.last.rt + s.get F.BAL_TSIG_ZMIN * 60 * nsS ≤ x.rd.rt) && decide (s.get F.BAL_TSIG_IMIN * 10 ≤ max a (max b c))
    | none => false
  let v := match x.rd.exp with
    | some e => r.importOnly && bit x.last.vmask 1 && decide (x.last.exp + s.get F.BAL_TSIG_REVMIN * 1000 ≤ e)
    | none => false
  let t := x.rd.tamper.getD 0
  if !x.active then [] else
  (if v then [0] else []) ++ (if z then [1] else []) ++
    ((List.range 3).filter (fun i => bit t i && !bit x.tamper i)).map (fun i => i + 2)

/-- The net energies before and after a reading (R164): a total that it does not carry stands at its committed value, and one that no
reading carried before counts the same in both. -/
def BIn.nets (x : BIn) : Int × Int :=
  let old := fun (b v : Nat) => if bit x.last.vmask b then some v else none
  let i0 := old 0 x.last.imp
  let e0 := old 1 x.last.exp
  (netOf (i0.orElse (fun _ => x.rd.imp)) (e0.orElse (fun _ => x.rd.exp)), netOf (x.rd.imp.orElse (fun _ => i0)) (x.rd.exp.orElse (fun _ => e0)))

/-- The phase currents of the slot's reading of a reading time, from its series. -/
def State.curAt (s : State) (slot rt : Nat) : List (Nat × List Nat) :=
  ((s.pipe.series.filter (fun e => e.slot == slot && e.rd.rt == rt && (e.rd.imp.isSome || e.rd.exp.isSome))).getLast?.map
    (fun e => e.rd.curs)).getD []

/-- BALANCE_READING (R164, R174): the oldest committed reading that waits in the engine's queue (R216, R217). -/
def execBalanceReading (s : State) : Out :=
  ok (match s.bal.inbox with
    | [] => s
    | x :: rest =>
      match ({ s with bal := { s.bal with inbox := rest } } : State).qTake 70 (s.bal.inbox.map (fun _ => 512)) with
      | (s0, .flush) => { s0 with bal := { s0.bal with inbox := [] } }
      | (s0, .discard) => s0
      | (s0, .fine) =>
      if !s.balRuns then s0
      else
        let s1 := if s.on F.BAL_CTRL_TSIG_EN then
          (s.signatures x).foldl (fun t b => t.signature x.slot (x.rd.rt / nsS) b) s0 else s0
        match x.prev with
        | none => s1
        | some ta =>
          if (x.rd.imp.isNone ∧ x.rd.exp.isNone) ∨ x.rd.rt ≤ ta then s1
          else
            let (ea, eb) := x.nets
            let ts := if s.get F.BAL_GAP_MAX * 60 * nsS < x.rd.rt - ta then [] else s1.instants (x.rd.rt / nsS) 800 (ta / nsS)
            let cs := (s1.curAt x.slot ta) ++ x.rd.curs
            let s2 := ts.foldl (fun t i => t.spanAt x.slot ta x.rd.rt ea eb cs i) s1
            s2.onRec x.slot (fun r => { r with bal := { r.bal with rate := rateOf ta x.rd.rt ea eb } }))

/-! ## The residual (R165 to R168) -/

/-- The deposit of a slot into the interval that ends at an instant. -/
def State.depOf (s : State) (slot t : Nat) : Option Deposit := s.bal.deps.find? (fun d => d.slot == slot && d.t == t)

/-- The children of a node in an interval. -/
def BOpen.kidsOf (o : BOpen) (n : Nat) : List Nat := (o.kids.filter (fun k => k.2 == n)).map (fun k => k.1)

/-- The reference of a node in an interval. -/
def BOpen.refOf (o : BOpen) (n : Nat) : Option Nat := (o.refs.find? (fun k => k.1 == n)).map (fun k => k.2)

/-- The absolute value of a rational number. -/
def absR (x : Rat) : Rat := if x < 0 then -x else x

/-- The estimate of a slot without a deposit, in mWh (R165). -/
def State.estimate (s : State) (slot len : Nat) : Rat := rnd (mkRat ((s.mrec slot).bal.rate * len * 10) 36)

/-- The terms of a residual (R166): reference, children, loss and residual in mWh, sigma, z, x1, x2, coverage as a fraction,
covered children, and whether the reference is covered. -/
structure Resid where
  yref : Rat
  child : Rat
  loss : Rat
  r : Rat
  sigma : Rat
  z : Rat
  x1 : Rat
  x2 : Rat
  cov : Rat
  ncover : Nat
  refd : Bool

/-- The load term (R168). -/
def loadTerm (n : BNode) (dt yref : Rat) (cur : List (Nat × List Nat)) : Rat :=
  if bit n.flags 1 || cur.isEmpty then
    let p := rnd (yref / rnd (1000000 * dt))
    rnd (dt * rnd (p * p))
  else
    let sm := fun (p : Nat) => (cur.map (fun c => c.2.getD p 0 * c.2.getD p 0)).sum
    let m := fun (p : Nat) => rnd (mkRat (sm p : Nat) (1000000 * cur.length))
    rnd (dt * rnd (rnd (m 0 + m 1) + m 2))

/-- The terms of a node's interval (R165 to R168). A node without children counts as fully covered. -/
def State.residual (s : State) (n : BNode) (o : BOpen) : Resid :=
  let dt := rnd (mkRat o.len 3600)
  let kids := o.kidsOf n.h
  let ref := (o.refOf n.h).getD 0
  let rd := s.depOf ref o.t
  let yref : Rat := match rd with | some d => d.e | none => s.estimate ref o.len
  let uref : Rat := match rd with | some d => rnd ((1 - d.w) * absR d.e) | none => absR yref
  let val := fun (k : Nat) => match s.depOf k o.t with | some d => (d.e : Rat) | none => s.estimate k o.len
  let unc := fun (k : Nat) => match s.depOf k o.t with
    | some d => rnd ((1 - d.w) * absR d.e)
    | none => max (absR (s.estimate k o.len)) ((s.mrec k).bal.eavg * 1000)
  let child := kids.foldl (fun a k => rnd (a + val k)) 0
  let x2 := loadTerm n dt yref (match rd with | some d => d.cur | none => [])
  let loss := rnd (1000 * rnd (rnd (n.a * dt) + rnd (n.b * x2)))
  let r := rnd (rnd (yref - child) - loss)
  let u2 := kids.foldl (fun a k => rnd (a + rnd (unc k * unc k))) 0
  let sg := max 1000 (sqrtR (rnd (rnd (rnd (1000000 * n.s2) + u2) + rnd (uref * uref))))
  let cov := kids.filter (fun k => (s.depOf k o.t).isSome)
  let sum := fun (l : List Nat) => (l.map (fun k => (s.mrec k).bal.eavg)).sum
  { yref, child, loss, r, sigma := sg, z := rnd (r / sg), x1 := dt, x2
    cov := if sum kids = 0 then 1 else mkRat (sum cov) (sum kids)
    ncover := cov.length, refd := rd.isSome }

/-- The flags of R167 for a node's interval: REFMISS, LOWCOV, CUT, DISABLED, at the bits of RFLAGS. -/
def State.exclusions (s : State) (n : BNode) (o : BOpen) (x : Resid) : Nat :=
  let who := (o.refOf n.h).toList ++ o.kidsOf n.h
  let a := (o.t - o.len) * nsS
  let b := o.t * nsS
  let cut := s.bal.gasps.any (fun g => who.contains g.1 && decide (a < g.2) && decide (g.2 ≤ b)) || s.mainsCut a b
  2 * b2n (!x.refd) + 4 * b2n (decide (x.cov * 1000 < s.get F.BAL_COVER_PERMIL)) + 8 * b2n cut + 16 * b2n (!bit n.flags 0)

/-- A value in hundredths in a signed 16-bit field, saturating. -/
def sat16 (x : Rat) : Int := max (-32768) (min 32767 (toInt (x * 100)))

/-- A result record's values (R177). -/
def resultOf (n : BNode) (o : BOpen) (x : Resid) (fl : Nat) : BRes :=
  let none_ := bit fl 1 && !bit fl 7
  { node := n.h, t := o.t
    rflags := fl + 32 * b2n n.upP + 64 * b2n n.upM + 256 * b2n o.late
    ncover := x.ncover
    yref := if none_ then 0 else toInt x.yref
    child := toInt x.child
    loss := if none_ then 0 else toInt x.loss
    resid := if none_ then 0 else toInt x.r
    sigma := if none_ then 0 else (toInt x.sigma).toNat
    cover := (toInt (x.cov * 1000)).toNat
    z := if none_ then 0 else sat16 x.z
    gp := (min 65535 (toInt (n.gp * 100))).toNat
    gm := (min 65535 (toInt (n.gm * 100))).toNat
    revs := match o.prov.find? (fun p => p.1 == n.h) with | some p => p.2 | none => 0 }

/-- A result record on a wire: fields in order (R177, R296). -/
def BRes.wire (b : BRes) : Bytes :=
  be 2 b.node ++ be 2 b.rflags ++ be 4 b.ncover ++ be 8 b.t ++ be 8 (tc 8 b.yref) ++ be 8 (tc 8 b.child) ++
  be 8 (tc 8 b.loss) ++ be 8 (tc 8 b.resid) ++ be 4 b.sigma ++ be 2 b.cover ++ be 2 (tc 2 b.z) ++ be 2 b.gp ++ be 2 b.gm ++
  be 2 b.revs ++ zeros 2

/-- The nodes of an interval that are balanced: those with a reference (R159). -/
def State.balanced (s : State) (o : BOpen) : List Nat :=
  (s.bal.nodes.filter (fun n => (o.refOf n.h).isSome)).map (fun n => n.h)

/-- An open interval put back. -/
def State.setOpen (s : State) (o : BOpen) : State :=
  { s with bal := { s.bal with opens := s.bal.opens.map (fun x => if x.t == o.t then o else x) } }

/-- The node's definition for an interval: the one in use, or one removed since. -/
def State.anyNode (s : State) (h : Nat) : Option BNode :=
  match s.node h with | some n => some n | none => s.bal.nodes.find? (fun n => n.h == h)

/-- A node's provisional result published (R176), unless it has one: its reference is extrapolated under EXTRAP. -/
def State.provisional (s : State) (n : BNode) (o : BOpen) : State :=
  if o.prov.any (fun p => p.1 == n.h) then s
  else
    let x := s.residual n o
    let fl0 := s.exclusions n o x
    let fl := if x.refd then fl0 else fl0 - 2 + 128
    let miss := ((s.balanced o).filter (fun h => !o.prov.any (fun p => p.1 == h))).length
    let first := !s.on F.BAL_STATUS_OVERRUN
    let s1 := if o.t + 30 < s.secs then
        let s' := s.set F.BAL_STATUS_OVERRUN 1
        if first then s'.log 0x4001 [(8, o.t), (4, miss)] (.ag 7) else s'
      else s
    let s2 := (s1.setOpen { o with prov := o.prov ++ [(n.h, 0)] }).notify 3 0x8004 3 (resultOf n o x fl).wire
    if miss = 1 then { s2 with bal := { s2.bal with provT := max s2.bal.provT o.t } } else s2

/-- PROVISIONAL_RESULT (R176): a node's result before the interval is final. -/
def execProvisionalResult (node t : Nat) (s : State) : Out :=
  ok (match s.openAt t, s.anyNode node with
    | some o, some n => if !s.balRuns || (o.refOf node).isNone then s else s.provisional n o
    | _, _ => s)

/-! ## Detector and learning (R169 to R172) -/

/-- One side of the detector after an interval: statistic, raised, run at 0, onset, whether it rose, whether it lowered. -/
structure Side where
  g : Rat
  up : Bool
  zero : Nat
  onset : Nat
  rose : Bool := false
  lowered : Bool := false

/-- One side's step (R171) for an interval that ends at `t`, with z in the side's sense. The onset of a rise stands until it lowers. -/
def State.sideStep (s : State) (x : Side) (z : Rat) (t : Nat) : Side :=
  let k : Rat := rnd (mkRat (s.get F.BAL_CUSUM_K) 100)
  let h : Rat := mkRat (s.get F.BAL_CUSUM_H) 10
  let g := min (max 0 (rnd (rnd (x.g + z) - k))) (rnd (2 * rnd h))
  let onset := if x.g = 0 ∧ !x.up then t else x.onset
  let run := if g = 0 then x.zero + 1 else 0
  if x.up then
    let low := decide (s.get F.BAL_CUSUM_LOWN ≤ run)
    ⟨g, !low, run, onset, false, low⟩
  else
    let rose := decide (rnd h < g)
    ⟨g, rose, run, onset, rose, false⟩

/-- The node's side of each sign. -/
def BNode.sideP (n : BNode) : Side := { g := n.gp, up := n.upP, zero := n.zeroP, onset := n.onP }
/-- The negative side. -/
def BNode.sideM (n : BNode) : Side := { g := n.gm, up := n.upM, zero := n.zeroM, onset := n.onM }

/-- The detector after a final interval that is not excluded. -/
def State.detect (s : State) (n : BNode) (z : Rat) (t : Nat) : BNode × Side × Side :=
  let p := s.sideStep n.sideP z t
  let m := s.sideStep n.sideM (-z) t
  ({ n with gp := p.g, upP := p.up, zeroP := p.zero, onP := p.onset, gm := m.g, upM := m.up, zeroM := m.zero, onM := m.onset }, p, m)

/-- The estimator learns an interval (R169): the node, and the coefficients that were clipped. -/
def State.learn (s : State) (n : BNode) (b : BBuf) : BNode × List Nat :=
  let lam := rnd (mkRat (s.get F.BAL_RLS_LAMBDA) 10000)
  let e := rnd (b.y - rnd (rnd (n.a * b.x1) + rnd (n.b * b.x2)))
  let q1 := rnd (rnd (n.p11 * b.x1) + rnd (n.p12 * b.x2))
  let q2 := rnd (rnd (n.p21 * b.x1) + rnd (n.p22 * b.x2))
  let w1 := rnd (rnd (b.x1 * n.p11) + rnd (b.x2 * n.p21))
  let w2 := rnd (rnd (b.x1 * n.p12) + rnd (b.x2 * n.p22))
  let d := rnd (lam + rnd (rnd (w1 * b.x1) + rnd (w2 * b.x2)))
  let k1 := rnd (q1 / d)
  let k2 := rnd (q2 / d)
  let a := rnd (n.a + rnd (k1 * e))
  let c := rnd (n.b + rnd (k2 * e))
  let clip := fun (x hi : Rat) => if x < 0 then 0 else if hi < x then hi else x
  ({ n with
      a := clip a 1000000, b := clip c 10
      p11 := rnd (rnd (n.p11 - rnd (k1 * w1)) / lam), p12 := rnd (rnd (n.p12 - rnd (k1 * w2)) / lam)
      p21 := rnd (rnd (n.p21 - rnd (k2 * w1)) / lam), p22 := rnd (rnd (n.p22 - rnd (k2 * w2)) / lam)
      s2 := rnd (rnd (lam * n.s2) + rnd (rnd (1 - lam) * rnd (e * e))) },
   (if clip a 1000000 = a then [] else [0]) ++ (if clip c 10 = c then [] else [1]))

/-- The buffered intervals whose delay is over are learned, oldest first (R170): LEARNED is set in their results. -/
def State.learnDue (s : State) (h : Nat) : Nat → State
  | 0 => s
  | k + 1 => match s.node h with
    | none => s
    | some n => match n.buf with
      | [] => s
      | b :: rest =>
        if b.behind < s.get F.BAL_RLS_DELAY then s
        else
          let (n1, clips) := s.learn { n with buf := rest } b
          let day := s.secs / 86400
          let newClip := !clips.isEmpty && n.clipDay != some day
          let s1 := s.setNode (if newClip then { n1 with clipDay := some day } else n1)
          let s2 : State := { s1 with bal := { s1.bal with results := s1.bal.results.map (fun r =>
            if r.node = h ∧ r.t = b.t ∧ ¬ bit r.rflags 9 then { r with rflags := r.rflags + 512 } else r) } }
          let s3 := if newClip then s2.log 0x4032 [(2, h), (1, clips.headD 0)] (.ag 7) else s2
          s3.learnDue h k

/-- Events of one side of the detector (R172). -/
def State.sideEvents (s : State) (h side : Nat) (x : Side) : State :=
  let s1 := if x.rose then s.log (0x4010 + side) [(2, h), (8, x.onset)] (.ag 7) else s
  if x.lowered then s1.log 0x4012 [(2, h), (1, side)] (.ag 7) else s1

/-! ## Finalisation (R172, R175) -/

/-- Whether every deposit that an interval of a node waits for is there (R175). -/
def State.allDeposited (s : State) (n : Nat) (o : BOpen) : Bool :=
  let due := fun (k : Nat) =>
    let r := s.mrec k
    r.state == 3 && decide (s.time.dev ≤ r.ct + s.get F.BAL_GAP_MAX * 60 * nsS)
  (match o.refOf n with | some x => (s.depOf x o.t).isSome | none => false) &&
    (o.kidsOf n).all (fun k => !due k || (s.depOf k o.t).isSome)

/-- What finalisation does to a node once its residual is known: detector, buffer and learning (R170 to R172). -/
def State.finalNode (s : State) (n : BNode) (o : BOpen) (x : Resid) (fl : Nat) : State :=
  let n0 : BNode := { n with lastFlags := fl
                             hist := (n.hist ++ [(o.t, if x.refd then some x.r else none)]).drop (n.hist.length + 1 - 256) }
  if fl ≠ 0 then s.setNode n0
  else
    let (n1, p, m) := s.detect n0 x.z o.t
    let y := rnd (rnd (x.yref - x.child) / 1000)
    let n2 : BNode :=
      if p.rose || m.rose then { n1 with buf := [] }
      else if n1.raised then n1
      else { n1 with buf := n1.buf.map (fun b => { b with behind := b.behind + 1 }) ++ [⟨o.t, x.x1, x.x2, y, 0⟩] }
    let s1 := ((s.setNode n2).sideEvents n.h 0 p).sideEvents n.h 1 m
    if n2.raised then s1 else s1.learnDue n.h 66

/-- A localisation called for (R172, R173): it waits in order. -/
def State.wantLoc (s : State) (h : Nat) : State :=
  match s.node h with
  | none => s
  | some n =>
    let post := (n.hist.filter (fun e => decide (n.onP ≤ e.1))).length
    if n.upP && s.on F.BAL_CTRL_LOC_EN && decide (s.get F.BAL_LOC_MINPOST ≤ post) && !s.bal.locq.contains h then
      { s with bal := { s.bal with locq := s.bal.locq ++ [h] } }
    else s

/-- An interval that is final for every node leaves the open ones; nodes removed and no longer needed go. -/
def State.closeOpens (s : State) (t : Nat) : State :=
  match s.openAt t with
  | none => s
  | some o =>
    if (s.balanced o).all (fun h => o.fin.contains h) then
      let opens := s.bal.opens.filter (fun x => x.t != t)
      let s1 : State := { s with bal := { s.bal with
        opens := opens
        nodes := s.bal.nodes.filter (fun n => !n.gone || opens.any (fun x => (x.refOf n.h).isSome)) } }
      ({ s1 with bal := { s1.bal with finT := max s1.bal.finT t } } : State).raiseSrc 49
    else s

/-- A node's interval made final (R172, R175, R176), its provisional result first where it has none. -/
def State.finalFor (s : State) (node t : Nat) : State :=
  match s.anyNode node, s.openAt t with
  | some n, some o1 =>
    let s0 := s.provisional n o1
    let o := (s0.openAt t).getD o1
    let x := s0.residual n o
    let fl := s0.exclusions n o x
    let s1 := (s0.finalNode n o x fl).setOpen { o with fin := o.fin ++ [node] }
    let n1 := (s1.anyNode node).getD n
    let res := resultOf n1 o x (fl + 1)
    let s2 : State := { s1 with bal := { s1.bal with results := s1.bal.results ++ [res] } }
    ((s2.notify 3 0x8004 3 res.wire).wantLoc node).closeOpens t
  | _, _ => s

/-- INTERVAL_FINAL (R172, R175): by full deposit, or at the end of the re-balance window; a node's intervals become final in
order. -/
def execIntervalFinal (node t : Nat) (s : State) : Out :=
  ok (match s.openAt t, s.anyNode node with
    | some o, some _ =>
      let earlier := s.bal.opens.any (fun x => decide (x.t < t) && (x.refOf node).isSome && !x.fin.contains node)
      if !s.balRuns || (o.refOf node).isNone || o.fin.contains node || earlier then s
      else (if s.allDeposited node o then s else s.advDev (s.rebalEnd o * nsS)).finalFor node t
    | _, _ => s)

/-! ## Balance instants (R162, R175, R176) -/

/-- Open intervals whose window is over by an instant become final for every node, oldest first, those that no node balances among them
(R175): so that no more than 127 are open. -/
def State.windowsOver (s : State) (t : Nat) : State :=
  (s.bal.opens.filter (fun o => decide (s.rebalEnd o ≤ t))).foldl (fun s o =>
    (((s.balanced o).filter (fun h => !o.fin.contains h)).foldl (fun s h => s.finalFor h o.t) s).closeOpens o.t) s

/-- One balance instant (R162, R175): the interval that ends at it opens for balancing under the old membership, then the changes
completed before it take effect. -/
def State.instant (s0 : State) (t : Nat) : State :=
  let s := s0.windowsOver t
  let o : BOpen := { t := t, len := t - s.prevB t, kids := s.bal.kids, refs := s.bal.refs, late := decide (t < s.bal.startSec) }
  let due := s.bal.moves.filter (fun m => decide (m.at_ < t * nsS))
  let s1 : State := { s with bal := { s.bal with
    opens := s.bal.opens ++ [o], lastInst := t, moves := s.bal.moves.filter (fun m => decide (t * nsS ≤ m.at_)), refs := s.refsAt t } }
  let s2 := (joinMoves due).foldl State.doMove s1
  { s2 with bal := { s2.bal with deps := s2.bal.deps.filter (fun d => decide (t < d.t + 300 * o.len)) } }

/-- BALANCE_INSTANT (R162, R176): instants are processed in ascending order, none twice; those that pass with the engine stopped are
not processed. -/
def execBalanceInstant (t : Nat) (s : State) : Out :=
  ok (if decide (t ≤ s.bal.lastInst) || !s.onGrid s.balLen t then s
  else if !s.on F.BAL_CTRL_EN then
    let s1 := s.advDev (t * nsS)
    { s1 with bal := { s1.bal with lastInst := t } }
  else if !s.balRuns then s.advDev (t * nsS)
  else
    let s1 := s.advDev (t * nsS)
    let ts := if s1.bal.lastInst = 0 then [t] else s1.instants t 100000 s1.bal.lastInst
    ts.foldl State.instant s1)

/-! ## Localisation (R173) -/

/-- The sums of a Pearson correlation: rho, where both variances are above 0. -/
def pearson (l : List (Rat × Rat)) : Option Rat :=
  let n : Rat := l.length
  let mx := (l.map (fun p => p.1)).sum / n
  let my := (l.map (fun p => p.2)).sum / n
  let xy := (l.map (fun p => (p.1 - mx) * (p.2 - my))).sum
  let xx := (l.map (fun p => (p.1 - mx) * (p.1 - mx))).sum
  let yy := (l.map (fun p => (p.2 - my) * (p.2 - my))).sum
  if l = [] ∨ xx = 0 ∨ yy = 0 then none else some (rnd (rnd xy / sqrtR (rnd (xx * yy))))

/-- The window of a localisation: the final intervals from PRE before the onset on, at most WIN. -/
def State.locWindow (s : State) (n : BNode) : List (Nat × Option Rat) :=
  let before := n.hist.filter (fun e => decide (e.1 < n.onP))
  let pre := before.drop (before.length - s.get F.BAL_LOC_PRE)
  let l := pre ++ n.hist.filter (fun e => decide (n.onP ≤ e.1))
  l.drop (l.length - s.get F.BAL_LOC_WIN)

/-- The mean of a list, where it has any. -/
def meanR (l : List Rat) : Option Rat := if l = [] then none else some (l.sum / l.length)

/-- What one child gives in a window: a suspect by signature or by correlation, with its correlation for the ranking. -/
def State.suspectOf (s : State) (n : BNode) (w : List (Nat × Option Rat)) (k : Nat) : Option (Rat × Suspect) :=
  let pts := w.filterMap (fun e => match s.depOf k e.1, e.2 with
    | some d, some r => some (e.1, ((d.e : Rat), r))
    | _, _ => none)
  let es := w.filterMap (fun e => (s.depOf k e.1).map (fun d => (e.1, (d.e : Rat))))
  let rho := pearson (pts.map (fun p => p.2))
  let pre := meanR ((es.filter (fun p => decide (p.1 < n.onP))).map (fun p => p.2))
  let post := meanR ((es.filter (fun p => decide (n.onP ≤ p.1))).map (fun p => p.2))
  let drop : Rat := match pre, post with | some a, some b => (a - b) / 1000 | _, _ => 0
  let sigs := (s.mrec k).bal.sigs
  let from_ := match w with | [] => 0 | e :: _ => e.1 - lenMin s.balLen * 60
  let upTo := match w.getLast? with | some e => e.1 | none => 0
  let mk := fun (reason : Nat) => some (rho.getD 0,
    ({ slot := k, reason, rho := max (-128) (min 127 (toInt ((rho.getD 0) * 100))), sigs
       drop := (max 0 (min 65535 (toInt drop))).toNat } : Suspect))
  if sigs ≠ 0 ∧ s.bal.sigLog.any (fun g => g.1 == k && decide (from_ < g.2) && decide (g.2 ≤ upTo)) then mk 2
  else match rho, pre, post with
    | some x, some a, some b => if x ≤ -(mkRat (s.get F.BAL_LOC_RHO) 100) ∧ b < a then mk 1 else none
    | _, _, _ => none

/-- The rank of a suspect: reason 2, then 3, then 1 in ascending correlation. -/
def suspBefore (x y : Rat × Suspect) : Bool :=
  let k := fun (z : Suspect) => if z.reason = 2 then 0 else if z.reason = 3 then 1 else 2
  decide (k x.2 < k y.2) || (k x.2 == k y.2 && decide (x.2.reason ≠ 1 ∨ x.1 ≤ y.1))

/-- The suspects of a node, through child nodes raised on the positive side (R173, step 1). -/
def State.suspects (s : State) : Nat → Nat → List Suspect
  | 0, _ => []
  | d + 1, h => match s.node h with
    | none => []
    | some n =>
      let w := s.locWindow n
      let kids := (s.bal.kids.filter (fun k => k.2 == h)).map (fun k => k.1)
      let areaOf := fun (k : Nat) => s.bnodes.find? (fun m => m.ref == some k && m.upP)
      let areas := kids.filterMap (fun k => match areaOf k with
        | some m => if (s.suspects d m.h).isEmpty then none else some ((0 : Rat), ({ slot := k, reason := 3, rho := 0, sigs := 0, drop := 0 } : Suspect))
        | none => none)
      let own := (kids.filter (fun k => (areaOf k).isNone)).filterMap (s.suspectOf n w)
      ((sortBy suspBefore (own ++ areas)).take 8).map (fun x => x.2)

/-- The nodes whose lists a localisation updates: the node, and below it the raised nodes of its children. -/
def State.locNodes (s : State) : Nat → Nat → List Nat
  | 0, h => [h]
  | d + 1, h =>
    let kids := (s.bal.kids.filter (fun k => k.2 == h)).map (fun k => k.1)
    h :: (s.bnodes.filter (fun m => m.upP && (match m.ref with | some x => kids.contains x | none => false))).flatMap
      (fun m => s.locNodes d m.h)

/-- LOCALISATION (R173): the node's turn comes when it stands first among those that wait. -/
def execLocalisation (node : Nat) (s : State) : Out :=
  ok (if s.bal.locq.head? ≠ some node then s
  else
    let s0 : State := { s with bal := { s.bal with locq := s.bal.locq.drop 1 } }
    ((s0.locNodes 8 node).foldl (fun t h => t.setSuspects h (s.suspects 8 h)) s0))

/-! ## Reading results and nodes (R177, R179, R296) -/

/-- RESULT_EXPIRE (R177): results BAL_RETAIN days old are deleted. -/
def execResultExpire (s : State) : Out :=
  ok (match s.bal.results with
    | [] => s
    | b :: _ =>
      let keep := s.get F.BAL_RETAIN_DAYS * 86400
      let s1 := s.advDev ((b.t + keep) * nsS)
      let old := s1.bal.results.filter (fun x => decide (x.t + keep ≤ s1.secs))
      ({ s1 with bal := { s1.bal with results := s1.bal.results.filter (fun x => decide (s1.secs < x.t + keep)) } } : State).discard 4
        (64 * old.length))

/-- RESULTS (R296): final results of a node from an instant on. -/
def execResults (r : Req) (node start count : Nat) (s : State) : Out :=
  ok (hcpRun r 0x0620 (fun s =>
    if count = 0 ∨ 22 < count then .no s stBADRANGE
    else if (s.node node).isNone then .no s stNOTFOUND
    else
      let l := (s.bal.results.filter (fun b => b.node == node && decide (start ≤ b.t))).take count
      { st := s, body := (l.map BRes.wire).flatten, changed := false }) s)

/-- A node's child slots (R159): those of the membership in force with the changes that wait for the next instant. -/
def State.childrenOf (s : State) (h : Nat) : List Nat :=
  let kids := s.bal.moves.foldl (fun l m => let l' := eraseK m.new (eraseK m.old l)
    if m.node = 65535 then l' else insertK m.new m.node l') s.bal.kids
  (kids.filter (fun k => k.2 == h)).map (fun k => k.1)

/-- The registers BAL_NINFO to BAL_SUSPB set from a node (R179); an undefined node reads as zeros. -/
def State.showNode (s : State) (h : Nat) : State :=
  let n := s.node h
  let put := fun (f : Fld) (v : BNode → Nat) (s : State) => s.set f (match n with | some x => v x | none => 0)
  let kids := (s.childrenOf h).length
  let s1 := put F.BAL_NINFO_LEVEL (fun x => x.level) (put F.BAL_NINFO_DEFINED (fun _ => 1)
    (put F.BAL_NINFO_ENABLED (fun x => x.flags % 2) (put F.BAL_NINFO_RAISEDP (fun x => b2n x.upP)
    (put F.BAL_NINFO_RAISEDM (fun x => b2n x.upM) (put F.BAL_NINFO_LOWCOV (fun x => b2n (bit x.lastFlags 2))
    (put F.BAL_NINFO_REFMISS (fun x => b2n (bit x.lastFlags 1)) (put F.BAL_NINFO_LOADP (fun x => b2n (bit x.flags 1))
    (put F.BAL_NINFO_BUFFERED (fun x => x.buf.length) s))))))))
  let s2 := put F.BAL_NREF_SLOT (fun x => x.ref.getD 0) (put F.BAL_NREF_NOREF (fun x => b2n x.ref.isNone)
    (put F.BAL_NPAR_PARENT (fun x => x.parent) (put F.BAL_NKIDS (fun _ => kids)
    (put F.BAL_NA (fun x => (toInt (x.a * 1000)).toNat) (put F.BAL_NB (fun x =>
      (toInt (x.b * (if bit x.flags 1 then 1000 else 1000000))).toNat)
    (put F.BAL_NS (fun x => (toInt (sqrtR x.s2 * 1000)).toNat) (put F.BAL_NG_GP (fun x => (min 65535 (toInt (x.gp * 100))).toNat)
    (put F.BAL_NG_GM (fun x => (min 65535 (toInt (x.gm * 100))).toNat) s1))))))))
  (List.range 8).foldl (fun (t : State) i =>
    let x := (n.bind (fun x => x.susp[i]?)).getD ⟨0, 0, 0, 0, 0⟩
    ((((t.seti F.BAL_SUSPA_SLOT i x.slot).seti F.BAL_SUSPA_REASON i x.reason).seti F.BAL_SUSPB_RHO i (tc 1 x.rho)).seti
      F.BAL_SUSPB_SIGS i x.sigs).seti F.BAL_SUSPB_DROP i x.drop) s2

/-- What a write of BAL_NSEL does. -/
def nselAct : Act := fun _ _ _ s => s.showNode (s.get F.BAL_NSEL_NODE)

/-- BAL_NSEL (R179). -/
def execBalNsel (p : Port) (v : Word) (s : State) : Out :=
  ok (s.regWrite nselAct p F.BAL_NSEL_NODE.addr v.toNat).st

/-- The word of a register that is one address (R8). -/
def State.wordAt (s : State) (a : Nat) : Nat := match findReg a with | some (r, i) => s.rawWord r i | none => 0

/-- READNODE (R296): the words that BAL_NSEL would copy. -/
def execReadnode (r : Req) (node : Nat) (s : State) : Out :=
  ok (hcpRun r 0x0183 (fun s =>
    if (s.node node).isNone then .no s stNOTFOUND
    else
      let v := s.showNode node
      let a := (List.range 8).map (fun i => v.wordAt (F.BAL_NINFO_LEVEL.addr + 4 * i))
      let b := (List.range 16).map (fun i => v.wordAt (F.BAL_SUSPA_SLOT.addr + 4 * i))
      { st := s, body := ((a ++ b).map (be 4)).flatten, changed := false }) s)

/-! ## The balance state of a start (R178) -/

/-- The BAL area of a slot brought up to its series: EAT and LASTT at the last instant that two readings span, and RATE, as the engine had
them. Readings that the engine has still to take do not count. -/
def State.balOf (s : State) (slot : Nat) (b : BalA) : BalA :=
  let es := s.pipe.series.filter (fun e => e.slot == slot && decide ((s.mrec slot).commT * nsS ≤ e.ct) &&
    (e.rd.imp.isSome || e.rd.exp.isSome) && !s.bal.inbox.any (fun x => x.slot == slot && x.ct == e.ct))
  (es.foldl (fun (p : BalA × Option (Nat × Option Nat × Option Nat)) e =>
    let last : LastC := match p.2 with
      | some (rt, i, x) => ⟨i.getD 0, x.getD 0, rt, b2n i.isSome + 2 * b2n x.isSome, []⟩
      | none => ⟨0, 0, 0, 0, []⟩
    let im := e.rd.imp.orElse (fun _ => p.2.bind (fun q => q.2.1))
    let ex := e.rd.exp.orElse (fun _ => p.2.bind (fun q => q.2.2))
    let now := some (e.rd.rt, im, ex)
    match p.2 with
    | none => (p.1, now)
    | some (ta, _, _) =>
      let (ea, eb) := BIn.nets ⟨slot, some ta, e.rd, e.ct, last, 0, true⟩
      let a1 := { p.1 with rate := rateOf ta e.rd.rt ea eb }
      let ts := if s.get F.BAL_GAP_MAX * 60 * nsS < e.rd.rt - ta then [] else s.instants (e.rd.rt / nsS) 800 (ta / nsS)
      (match ts.getLast? with | some t => { a1 with eat := between ta e.rd.rt t ea eb, lastt := t } | none => a1, now)) (b, none)).1

/-- The balance state at a start (R178): nodes, models and results are those of the GENERAL volume, and open intervals, interpolations and
rates those that the series in the INTERVAL volume give. -/
def State.balBack (s : State) : State :=
  let s1 := s.meter.recs.foldl (fun (t : State) e => t.onRec e.1 (fun r => { r with bal := t.balOf e.1 r.bal })) s
  { s1 with bal := { s1.bal with startSec := s1.secs } }

/-- RECORD_REBUILD (R115): the record of a slot with an uncorrectable line is rebuilt and written back; its downlink counter goes on from the
reservation (R183). -/
def execRecordRebuild (slot : Nat) (s : State) : Out :=
  ok (if s.meter.lostRec.contains slot then
    let s0 := s.setMrec slot (s.rebuildRec slot).1
    let s1 := if (s0.mrec slot).state = 0 then s0 else s0.onRec slot (fun r => { r with bal := s0.balOf slot r.bal })
    let s2 : State := { s1 with meter := { s1.meter with lostRec := s1.meter.lostRec.filter (fun x => x != slot) } }
    ((s2.dctrBack slot).set F.METER_STATUS_REBUILDING (b2n (!s2.meter.lostRec.isEmpty))).log 0x2036 [(4, slot)] (.ag 5)
  else s)

end Sys2Proof.Machine
end

