-- ==== Sys2Proof/Machine/Display.lean ====
section
/-! DEFINITION. The plate, the screens and the keys of the legal display (R412, R413, R420 to R423). -/

namespace Sys2Proof.Machine

/-- What a write of DISP_CMD does (R414, R422). -/
def redrawAct : Act := fun _ _ v s => if bit v 0 then s.request (0, 95) else s

/-- REDRAW (R414). -/
def execRedraw (p : Port) (v : Word) (s : State) : Out := ok (s.regWrite redrawAct p F.DISP_CMD_REDRAW.addr v.toNat).st

/-! ## Commits (R413) -/

/-- The commons in which two images differ, as the smallest span. -/
def diffSpan (a b : Bytes) : Option (Nat × Nat) :=
  match (List.range 96).filter (fun r => sub a (25 * r) 25 != sub b (25 * r) 25) with
  | [] => none
  | r :: t => some (r, (r :: t).foldl max r)

/-- An image committed (R413): into the buffer that CUR does not name, then the header with SEQ + 1 and CUR flipped, then the request. -/
def State.commitImage (s : State) (img : Bytes) (span : Option (Nat × Nat)) : State :=
  let i := fit 2400 img
  let s1 : State := { s with disp := { s.disp with
    img0 := if s.disp.cur = 0 then s.disp.img0 else i, img1 := if s.disp.cur = 0 then i else s.disp.img1
    cur := 1 - s.disp.cur, seq := (s.disp.seq + 1) % 4294967296 } }
  match span with | some q => s1.request q | none => s1

/-- PLATE_COMMIT (R413): the legal core pair, while it runs, commits an image with the span of changed commons. -/
def execPlateCommit (img : Bytes) (first last : Nat) (s : State) : Out :=
  ok (if s.on F.BILL_STATUS_RUN then s.commitImage img (some (first, last)) else s)

/-! ## Screens (R420) -/

/-- A device second in the local time of a slot's scheme, or UTC where the slot has no scheme, with the mark for UTC (R420). -/
def State.screenTime (s : State) (slot t : Nat) : Bytes :=
  match (s.calSet (s.mrec slot).scheme).active with
  | some c => be 1 0 ++ be 8 (localOf c (s.utc t))
  | none => be 1 1 ++ be 8 (s.utc t)

/-- The newest stored session of a post (R420). -/
def State.newestSession (s : State) (slot : Nat) : Option SessRec := s.leg.sess.reverse.find? (fun x => x.slot == slot)

/-- An energy in mWh as a screen shows it: kWh with three decimals, truncated (R420). -/
def shownEnergy (mwh : Nat) : Bytes := be 8 (mwh / 1000)

/-- What a screen shows (R420), for the firmware to draw. -/
def State.screenContent (s : State) : Bytes :=
  let scr := s.get F.DISP_STATUS_SCREEN
  if scr = 0 then be 1 (b2n s.disp.full) ++ s.leg.chkNow ++ be 4 (s.running 0x4C).ver
  else if scr = 1 then
    match s.disp.post.bind (fun p => s.newestSession p) with
    | some x => sub x.body 188 36 ++ s.screenTime x.slot (beAt x.body 20 8) ++ s.screenTime x.slot (beAt x.body 32 8) ++
      shownEnergy (beAt x.body 52 8 - beAt x.body 44 8) ++ be 4 x.seq ++ sub x.body 17 1
    | none => []
  else
    let h := s.disp.digits.foldl (fun a d => a * 16 + d) 0
    let cur := be 3 h ++ be 1 s.disp.cursor
    match s.disp.shown with
    | none => cur
    | some n =>
      if (s.mrec n).state = 0 then cur ++ be 1 0
      else
        let r := s.lrec n
        cur ++ be 1 1 ++ be 4 n ++ (r.imp.map shownEnergy).flatten ++ shownEnergy r.exp.sum

/-- The screen of the selections composed and committed over its changed commons. -/
def State.drawScreen (s : State) : State :=
  let img := fit 2400 (Config.screenImage (s.get F.DISP_STATUS_SCREEN) s.screenContent)
  s.commitImage img (diffSpan s.plate img)

/-- The posts that have a stored session, in ascending handle. -/
def State.sessionPosts (s : State) : List Nat :=
  uniq (sortBy (fun a b => decide (a ≤ b)) (s.leg.sess.map (fun x => x.slot)))

/-- The post selected on entering SESSION, where none is: the first (the manual names none). -/
def State.firstPost (s : State) : State :=
  if s.disp.post.isSome then s else { s with disp := { s.disp with post := s.sessionPosts.head? } }

/-- The next post up or down (R421). Past the end the manual names no post: whether the selection stays or goes round is free. -/
def State.stepPost (s : State) (up : Bool) : State :=
  let l := if up then s.sessionPosts else s.sessionPosts.reverse
  let now := s.disp.post.getD 0
  let nxt := l.find? (fun p => if up then decide (now < p) else decide (p < now))
  match nxt with
  | some p => { s with disp := { s.disp with post := some p } }
  | none =>
    let (n, s1) := s.draw
    if n % 2 = 0 then s1 else { s1 with disp := { s1.disp with post := l.head? } }

/-- A digit at the cursor changed by one, modulo 16. -/
def State.stepDigit (s : State) (up : Bool) : State :=
  let d := s.disp.digits.getD s.disp.cursor 0
  { s with disp := { s.disp with digits := s.disp.digits.set s.disp.cursor ((if up then d + 1 else d + 15) % 16) } }

/-- What a key does to the selections (R421). -/
def State.keyAct (s : State) (k : Nat) : State :=
  let scr := s.get F.DISP_STATUS_SCREEN
  if k = 0 then
    let n := (scr + 1) % 3
    let s1 := s.set F.DISP_STATUS_SCREEN n
    if n = 1 then s1.firstPost else s1
  else if k = 3 then
    if scr = 0 then { s with disp := { s.disp with full := !s.disp.full } }
    else if scr = 2 then
      if s.disp.cursor = 4 then
        { s with disp := { s.disp with cursor := 0, shown := some (s.disp.digits.foldl (fun a d => a * 16 + d) 0) } }
      else { s with disp := { s.disp with cursor := s.disp.cursor + 1 } }
    else s
  else if scr = 1 then s.stepPost (k == 1)
  else if scr = 2 then s.stepDigit (k == 1)
  else s

/-- KEY_PRESS (R421): into the queue of 8; a ninth press is ignored. -/
def execKeyPress (key : Fin 4) (s : State) : Out :=
  let s1 : State := { s with disp := { s.disp with keyAt := s.time.clk } }
  ok (if s.disp.keys.length < 8 then { s1 with disp := { s1.disp with keys := s1.disp.keys ++ [key.val] } } else s1)

/-- SCREEN_KEY (R421): the legal core pair takes a press and commits the screen that it leads to. -/
def execScreenKey (s : State) : Out :=
  ok (match s.disp.keys with
    | [] => s
    | k :: t =>
      if !s.on F.BILL_STATUS_RUN then s
      else (({ s with disp := { s.disp with keys := t } } : State).keyAct k).drawScreen)

/-- SCREEN_IDLE (R420): IDLE seconds without a press return the display to CHECK. -/
def execScreenIdle (s : State) : Out :=
  ok (if s.get F.DISP_STATUS_SCREEN = 0 ∨ ¬ s.on F.BILL_STATUS_RUN then s
  else ((s.advTo (s.disp.keyAt + s.get F.DISP_CTRL_IDLE * nsS)).set F.DISP_STATUS_SCREEN 0).drawScreen)

/-! ## The plate at the seal port (R423) -/

/-- What a write of DISP_PLATE through the seal port does: SEQ, CUR and the 25 B of one common are copied at one instant. -/
def plateAct : Act := fun p _ _ s =>
  if p ≠ .seal then s
  else { s with disp := { s.disp with
    plated := le 4 s.disp.seq ++ le 4 s.disp.cur ++ sub s.plate (25 * s.get F.DISP_PLATE_COMMON) 25 ++ zeros 3 } }

/-- DISP_PLATE (R423). -/
def execDispPlate (p : Port) (v : Word) (s : State) : Out := ok (s.regWrite plateAct p F.DISP_PLATE_COMMON.addr v.toNat).st

end Sys2Proof.Machine
end

