-- ==== Sys2Proof/Machine/Frames.lean ====
section
/-! DEFINITION. What the frames of the three recognised forms hold: the Gucor envelope (R60 to R63), wireless M-Bus (R69, R72,
R82, R256) and DLMS/COSEM (R69, R72, R82), and the conversion to canonical fields (R81 to R83). The encodings of EN 13757 and
DLMS/COSEM are those standards' (PRESUMED, log entry 9). -/

namespace Sys2Proof.Machine

/-! ## IPv6 (R279, R286) -/

/-- The sum of a byte string's 16-bit words. -/
def sum16 : Bytes → Nat
  | a :: b :: t => a.toNat * 256 + b.toNat + sum16 t
  | [a] => a.toNat * 256
  | [] => 0

/-- The sum over which the checksum of an upper layer is taken: the pseudo-header and the message. -/
def sumOf (src dst nh : Nat) (m : Bytes) : Nat := sum16 (be 16 src ++ be 16 dst ++ be 4 m.length ++ be 4 nh) + sum16 m

/-- Whether a message's checksum is right; UDP over IPv6 must carry one. -/
def sumGood (src dst nh : Nat) (m : Bytes) : Bool := sumOf src dst nh m % 65535 == 0 && (nh != 17 || beAt m 6 2 != 0)

/-- A message with its checksum, at offset 6 in UDP and 2 in ICMPv6; the field stands at zero. -/
def withSum (src dst nh : Nat) (m : Bytes) : Bytes :=
  let o := if nh = 17 then 6 else 2
  let c := 65535 - (sumOf src dst nh m + 65534) % 65535 - 1
  m.take o ++ be 2 (if c = 0 then 65535 else c) ++ m.drop (o + 2)

/-- An IPv6 packet without extension headers. -/
def ip6 (nh src dst : Nat) (m : Bytes) : Bytes :=
  be 4 0x60000000 ++ be 2 m.length ++ be 1 nh ++ be 1 255 ++ be 16 src ++ be 16 dst ++ m

/-- A UDP datagram in an IPv6 packet. -/
def udp6 (src dst sport dport : Nat) (b : Bytes) : Bytes :=
  ip6 17 src dst (withSum src dst 17 (be 2 sport ++ be 2 dport ++ be 2 (8 + b.length) ++ zeros 2 ++ b))

/-- The link-local address that a MAC address forms (R279). -/
def linkLocal (mac : Nat) : Nat :=
  0xFE80 * 2 ^ 112 + (mac / 2 ^ 24 ^^^ 0x20000) * 2 ^ 40 + 0xFFFE * 2 ^ 24 + mac % 2 ^ 24

/-! ## Addresses (R279, R308) -/

/-- The MAC address of an uplink (R308). -/
def upMac (u : Nat) : Nat := (Config.baseMac + u) % 2 ^ 48

/-- The part's IPv6 address on an uplink: UPLINK_IP. -/
def State.upIp (s : State) (u : Nat) : Nat :=
  ((s.geti F.UPLINK_IP0 u * 2 ^ 32 + s.geti F.UPLINK_IP1 u) * 2 ^ 32 + s.geti F.UPLINK_IP2 u) * 2 ^ 32 + s.geti F.UPLINK_IP3 u

/-- An address of the part on an uplink. -/
def State.ownIp (s : State) (u a : Nat) : Bool := a == linkLocal (upMac u) || (a != 0 && a == s.upIp u)

/-- A multicast address that the part listens to: all nodes, the solicited-node addresses of its own, and those of PTP. -/
def State.joined (s : State) (u a : Nat) : Bool :=
  let sol := 0xFF02 * 2 ^ 112 + 0x1FF * 2 ^ 24
  a == 0xFF02 * 2 ^ 112 + 1 || a == sol + linkLocal (upMac u) % 2 ^ 24 || a == sol + s.upIp u % 2 ^ 24 ||
  a == 0xFF02 * 2 ^ 112 + 0x6B || (a / 2 ^ 120 == 0xFF && a % 2 ^ 112 == 0x181)

/-! ## Recognition (R65, stage 1) -/

/-- The UDP payload of an IPv6 packet with its destination port and source address; none where it is no UDP datagram, and
`some none` where its lengths are broken. -/
def udpOf (b : Bytes) : Option (Option (Nat × Bytes × Bytes)) :=
  if b.length < 40 ∨ beAt b 0 1 / 16 ≠ 6 then none
  else if beAt b 6 1 ≠ 17 then none
  else
    let n := beAt b 4 2
    let u := b.drop 40
    let l := beAt u 4 2
    if u.length < n ∨ n < 8 ∨ l < 8 ∨ n < l then some none
    else some (some (beAt u 2 2, sub b 8 16, sub u 8 (l - 8)))

/-- What stage 1 finds: an outcome, or the form with its content and the sender's IPv6 address. -/
inductive Seen where
  | ends (code : Nat)
  | gucor (env addr : Bytes)
  | wmbus (frame : Bytes)
  | dlms (apdu addr : Bytes)

/-- Recognition by medium and content (R65, R256). -/
def Item.recognise (i : Item) (port : Nat) : Seen :=
  if i.medium = 1 then
    if i.frame.length < 11 then .ends 0x10
    else if beAt i.frame 10 1 = 0xA0 then .gucor (i.frame.drop 11) (zeros 16)
    else .wmbus i.frame
  else if i.medium = 2 ∧ beAt i.frame 12 2 ≠ 0x86DD then .ends 0x11
  else match udpOf (i.frame.drop i.net) with
    | none => .ends 0x11
    | some none => .ends 0x10
    | some (some (dp, addr, pl)) =>
      if dp = port then .gucor pl addr
      else if dp = 4059 then
        if pl.length < 8 ∨ beAt pl 0 2 ≠ 1 ∨ beAt pl 6 2 ≠ pl.length - 8 then .ends 0x10 else .dlms (pl.drop 8) addr
      else .ends 0x11

/-- The length of SIG by algorithm (R60). -/
def sigLen (alg : Nat) : Nat := if alg = 0 then 0 else if alg = 3 then 96 else 64

/-- The check of a Gucor envelope at stage 1: the outcome that ends it, if one does. VERSION, CONTENT and SIGALG come before
the length. -/
def gucorCheck (e : Bytes) : Option Nat :=
  let content := beAt e 18 1
  if e.length < 3 ∨ beAt e 0 2 ≠ 0x4775 then some 0x10
  else if beAt e 2 1 ≠ 1 then some 0x11
  else if e.length < 19 then some 0x10
  else if ¬ (content = 1 ∨ content = 2 ∨ content = 3 ∨ content = 4 ∨ content = 0x30) ∨ 4 ≤ beAt e 17 1 then some 0x11
  else if e.length < 36 then some 0x10
  else if 8 ≤ beAt e 3 1 ∨ beAt e 19 1 ≠ 0 ∨ beAt e 34 2 ≠ 0 ∨ 2147483648 ≤ beAt e 12 4 then some 0x10
  else if e.length ≠ 36 + beAt e 32 2 + sigLen (beAt e 17 1) + (if bit (beAt e 3 1) 0 then 16 else 0) then some 0x10
  else none

/-- The class of an item by its content (R66). An item that stage 1 will end is class 3. -/
def Item.classOf (i : Item) (port : Nat) : Nat :=
  match i.recognise port with
  | .gucor e _ =>
    if (gucorCheck e).isSome then 3
    else if beAt e 18 1 = 0x30 then 0
    else if beAt e 18 1 = 2 ∨ bit (beAt e 3 1) 1 ∨ bit (beAt e 3 1) 2 then 1
    else if beAt e 18 1 = 4 then 2 else 3
  -- RSP_UD answers a request: 0x08 with the bits ACD and DFC free
  | .wmbus f => if beAt f 1 1 % 16 = 8 ∧ beAt f 1 1 / 64 = 0 then 2 else 3
  | .dlms a _ => let t := beAt a 0 1; if t = 0xC4 ∨ t = 0xCC ∨ t = 0xD4 then 2 else 3
  | .ends _ => 3

/-- The identity in a wireless M-Bus frame's M- and A-field (R99, R256). -/
def wmbIdent (f : Bytes) : Nat :=
  ofBe ((sub f 2 2).reverse ++ (sub f 4 4).reverse ++ sub f 8 2)

/-! ## Wireless M-Bus -/

/-- The layers of a wireless M-Bus frame behind the A-field: the authentication and fragmentation layer's fields, and the
transport header: CI, the meter's M- and A-field where the long header gives them, access number, security mode, configuration, and the application data. -/
structure WmbTpl where
  meter : Option Bytes := none
  afl : Option (Nat × Nat × Bytes × Nat) := none
  ci : Nat
  acc : Nat
  mode : Nat
  blocks : Nat
  data : Bytes
  auth : Bytes

/-- The transport layer (CI 0x72 with the long header, 0x7A with the short one). -/
def wmbTpl (b : Bytes) : Option WmbTpl :=
  let ci := beAt b 0 1
  let o := if ci = 0x72 then 9 else 1
  if (ci ≠ 0x72 ∧ ci ≠ 0x7A) ∨ b.length < o + 4 then none
  else
    let cfg := ofLe (sub b (o + 2) 2)
    let mode := cfg / 256 % 32
    some { meter := if ci = 0x72 then some (sub b 5 2 ++ sub b 1 4 ++ sub b 7 2) else none
           ci := ci, acc := beAt b o 1, mode := mode, blocks := cfg / 16 % 16
           data := b.drop (o + 4 + (if mode = 7 then 1 else 0)), auth := b }

/-- The frame parsed: the extended link layers and the authentication layer (CI 0x90) are passed over. -/
def wmbParse : Nat → Bytes → Option WmbTpl
  | 0, _ => none
  | n + 1, b =>
    let ci := beAt b 0 1
    if ci = 0x8C then wmbParse n (b.drop 3)
    else if ci = 0x8D then wmbParse n (b.drop 9)
    else if ci = 0x90 then
      let l := beAt b 1 1
      let fcl := ofLe (sub b 2 2)
      let o1 := 4 + (if bit fcl 13 then 1 else 0)
      let kv := if bit fcl 9 then beAt b (o1 + 1) 1 else 0
      let o2 := o1 + (if bit fcl 9 then 2 else 0)
      let mcr := if bit fcl 11 then ofLe (sub b o2 4) else 0
      let o3 := o2 + (if bit fcl 11 then 4 else 0)
      let mac := if bit fcl 10 then sub b o3 8 else []
      match wmbTpl (b.drop (2 + l)) with
      | some t => some { t with afl := some (beAt b 4 1, mcr, mac, kv) }
      | none => none
    else wmbTpl b

/-- The CI-field behind the link and authentication layers; none where the frame is cut off in one. -/
def wmbCi : Nat → Bytes → Option Nat
  | 0, _ => none
  | n + 1, b =>
    let ci := beAt b 0 1
    if b = [] then none
    else if ci = 0x8C then wmbCi n (b.drop 3)
    else if ci = 0x8D then wmbCi n (b.drop 9)
    else if ci = 0x90 then wmbCi n (b.drop (2 + beAt b 1 1))
    else some ci

/-- The outcome of a wireless M-Bus frame that is not read (R65): cut off inside a layer or header it is malformed; under a CI-field that
stage 6 does not read (R82) it is unsupported. DESIGN CHOICE: the spec gives no outcome for such a CI-field. -/
def wmbEnds (b : Bytes) : Nat :=
  match wmbCi 4 b with
  | none => 0x10
  | some ci => if ci = 0x72 ∨ ci = 0x7A then 0x10 else 0x11

/-- What a frame of profile 1 gives (R72): mode 5, AES-128-CBC under the first 16 B of the key, authentic when the plaintext
begins 0x2F2F. The initial value holds the meter's address, which a long header gives. -/
def wmbMode5 (key f : Bytes) (t : WmbTpl) : Option Bytes :=
  let n := 16 * t.blocks
  let iv := t.meter.getD (sub f 2 8) ++ List.replicate 8 (BitVec.ofNat 8 t.acc)
  let p := cbcDec (key.take 16) iv (t.data.take n)
  if t.data.length < n ∨ p.take 2 ≠ [0x2F, 0x2F] then none else some (p ++ t.data.drop n)

/-- What a frame of profile 2 gives (R72): mode 7, the message keys of EN 13757-7 from the message counter, AES-128-CBC and an
8 B AES-CMAC. -/
def wmbMode7 (key f : Bytes) (t : WmbTpl) : Option Bytes :=
  match t.afl with
  | none => none
  | some (mcl, mcr, mac, _) =>
    let idf := match t.meter with | some a => sub a 2 4 | none => sub f 4 4
    let kd := fun (d : Nat) => cmac (key.take 16) (be 1 d ++ le 4 mcr ++ idf ++ List.replicate 7 7)
    let want := (cmac (kd 1) (be 1 mcl ++ le 4 mcr ++ t.auth)).take 8
    let n := 16 * t.blocks
    if mac ≠ want ∨ mac.length ≠ 8 ∨ t.data.length < n then none
    else
      let p := cbcDec (kd 0) (zeros 16) (t.data.take n)
      some (p ++ t.data.drop n)

/-! ## Values in mWh (R83) -/

/-- A value times a power of ten of Wh, in mWh: exact and in 64 bits, or none. -/
def mWhOf (v : Nat) (exp : Int) : Option Nat :=
  let e := exp + 3
  let r := if 0 ≤ e then some (v * 10 ^ e.toNat)
    else if v % 10 ^ (-e).toNat = 0 then some (v / 10 ^ (-e).toNat) else none
  match r with
  | some x => if x < 18446744073709551616 then some x else none
  | none => none

/-- A value times a power of ten of J, in mWh: 1 J is 5/18 mWh. -/
def mWhOfJ (v : Nat) (e : Int) : Option Nat :=
  let n := v * 5 * 10 ^ e.toNat
  let d := 18 * 10 ^ (-e).toNat
  if n % d = 0 ∧ n / d < 18446744073709551616 then some (n / d) else none

/-- A field taken into a reading: 0x00 and 0x01 the totals, 0x10 to 0x1F the meter-kept registers, 0x40 to 0x42 currents. -/
def Reading.put (r : Reading) (target v : Nat) : Reading :=
  if target = 0 then { r with imp := some v }
  else if target = 1 then { r with exp := some v }
  else if 0x10 ≤ target ∧ target ≤ 0x1F then { r with regs := insertK target v r.regs }
  else if 0x40 ≤ target ∧ target ≤ 0x42 then
    let c := r.cur.getD (0, 0, 0)
    { r with cur := some (if target = 0x40 then (v, c.2.1, c.2.2) else if target = 0x41 then (c.1, v, c.2.2) else (c.1, c.2.1, v)) }
  else r

/-! ## Gucor payloads (R61) -/

/-- The register numbers of R61. -/
def regOk (n : Nat) : Bool := decide (n ≤ 1) || (decide (0x10 ≤ n) && decide (n ≤ 0x1F))

/-- The session body's own conditions (R154). -/
def sessionOk (b : Bytes) : Bool :=
  let te := (List.range 8).map (fun i => beAt b (76 + 8 * i) 8)
  let imp0 := beAt b 44 8
  let imp1 := beAt b 52 8
  decide (beAt b 18 2 < 8) && beAt b 186 2 == 0 && (sub b 224 16).all (fun x => x == 0) &&
  decide (beAt b 20 8 * nsS + beAt b 28 4 ≤ beAt b 32 8 * nsS + beAt b 40 4) &&
  decide (imp0 ≤ imp1) && decide (beAt b 60 8 ≤ beAt b 68 8) &&
  (te.all (fun x => x == 0) || te.sum == imp1 - imp0)

/-- One payload record taken into the reading, or the outcome that ends the item. DESIGN CHOICE: R61 gives no outcome for a register number it does not
list, which ends 0x62 as an unsupported coding, nor for a known record of another length, which ends 0x60 as a broken structure. -/
def gucorRec (r : Reading) (type : Nat) (v : Bytes) : Except Nat Reading :=
  if type = 1 then
    if v.length ≠ 10 then .error 0x60
    else if !regOk (beAt v 0 1) then .error 0x62
    else match mWhOf (beAt v 2 8) (ofTc 1 (beAt v 1 1)) with
      | some x => .ok (r.put (beAt v 0 1) x)
      | none => .error 0x62
  else if type = 2 then
    if v.length ≠ 12 then .error 0x60 else .ok { r with cur := some (beAt v 0 4, beAt v 4 4, beAt v 8 4) }
  else if type = 3 then
    if v.length ≠ 2 then .error 0x60 else .ok { r with tamper := some (beAt v 0 2) }
  else if type = 4 then
    if v.length ≠ 240 then .error 0x60 else .ok { r with session := some v }
  else if type = 5 then
    if v.length ≠ 4 then .error 0x60 else .ok { r with tag := some (beAt v 0 4) }
  else if 0x80 ≤ type then .ok r
  else .error 0x62

/-- The records in order. -/
def gucorRecs : List (Nat × Bytes) → Reading → Except Nat Reading
  | [], r => .ok r
  | (t, v) :: l, r => match gucorRec r t v with
    | .ok r' => gucorRecs l r'
    | .error e => .error e

/-! ## The parse map (R82, R97) -/

/-- The entry of a form whose pattern matches: target and scaler. -/
def mapFind (form : Nat) (pat : Bytes) : Nat → Bytes → Option (Nat × Int)
  | 0, _ => none
  | n + 1, m =>
    if beAt m 0 1 = form ∧ beAt m 3 1 = pat.length ∧ (sub m 4 12).take pat.length = pat ∧ pat ≠ [] then
      some (beAt m 1 1, ofTc 1 (beAt m 2 1))
    else mapFind form pat n (m.drop 16)

/-- A number of BCD digits, least significant byte first; none where a digit is no decimal one. -/
def bcdOf : Bytes → Option Nat
  | [] => some 0
  | b :: t =>
    let lo := b.toNat % 16
    let hi := b.toNat / 16
    if 9 < lo ∨ 9 < hi then none else (bcdOf t).map (fun x => lo + 10 * hi + 100 * x)

/-- The data length and coding of a DIF: length, whether BCD, whether the coding is used (R82). -/
def difLen (d : Nat) : Nat × Bool × Bool :=
  match d % 16 with
  | 1 => (1, false, true) | 2 => (2, false, true) | 3 => (3, false, true) | 4 => (4, false, true)
  | 6 => (6, false, true) | 7 => (8, false, true) | 9 => (1, true, true) | 10 => (2, true, true)
  | 11 => (3, true, true) | 12 => (4, true, true) | 14 => (6, true, true) | 5 => (4, false, false)
  | _ => (0, false, false)

/-- The bytes of a DIF or VIF chain: the first and its extensions. -/
def chain : Nat → Bytes → Bytes
  | 0, _ => []
  | _, [] => []
  | n + 1, b :: t => if b.toNat < 128 then [b] else b :: chain n t

/-- A type F time point as device time: UTC minute, hour, day, month and year. -/
def State.typeF (s : State) (v : Nat) : Option Nat :=
  let d := v / 65536 % 32
  let m := v / 16777216 % 16
  let y := 2000 + v / 2097152 % 8 + 8 * (v / 268435456)
  if m = 0 ∨ d = 0 ∨ bit v 7 then none
  else some (s.ofUtc ((daysOf y m d) * 86400 + (v / 256 % 32) * 3600 + (v % 64) * 60) * nsS)

/-- The power of ten that the VIFEs behind a VIF multiply by. -/
def vifeScale (l : List Nat) : Int :=
  (l.map (fun (v : Nat) => if 0x70 ≤ v ∧ v < 0x78 then (v : Int) - 0x76 else if v = 0x7D then 3 else 0)).sum

/-- The energy exponent of a VIF with its VIFEs, as the power of ten of Wh or, where the flag says so, of joules, where the VIF carries one. -/
def vifScale (vif : Bytes) : Option (Int × Bool) :=
  match (vif.map (fun b => b.toNat % 128) : List Nat) with
  | 0x7B :: v :: l =>
    if v < 2 then some ((v : Int) + 5 + vifeScale l, false)
    else if 8 ≤ v ∧ v < 10 then some ((v : Int) + vifeScale l, true) else none
  | v :: l =>
    if v < 8 then some ((v : Int) - 3 + vifeScale l, false)
    else if v < 16 then some ((v : Int) - 8 + vifeScale l, true) else none
  | [] => none

/-- The power of ten of A that a VIF for currents carries. -/
def vifAmps (vif : Bytes) : Option Int :=
  match (vif.map (fun b => b.toNat % 128) : List Nat) with
  | 0x7D :: v :: l => if 0x50 ≤ v ∧ v < 0x60 then some ((v : Int) - 0x5C + vifeScale l) else none
  | _ => none

/-- A phase current in mA (R81) from a value and a power of ten. DESIGN CHOICE: for a current the parse map's SCALER, which R97 calls a power of ten
of Wh, counts as one of A where the VIF carries none, and a fraction of a mA is dropped; the spec does not say how a current is scaled. -/
def mAOf (v : Nat) (e : Int) : Nat := if 0 ≤ e + 3 then v * 10 ^ (e + 3).toNat else v / 10 ^ (-(e + 3)).toNat

/-- The data bytes of a record of variable length (LVAR), the length byte included; none for a reserved one. -/
def lvarLen (l : Nat) : Option Nat :=
  if l < 0xC0 then some (1 + l)
  else if l < 0xCA then some (1 + (l - 0xC0))
  else if 0xD0 ≤ l ∧ l < 0xDA then some (1 + (l - 0xD0))
  else if 0xE0 ≤ l ∧ l < 0xF0 then some (1 + (l - 0xE0))
  else if 0xF0 ≤ l ∧ l < 0xF5 then some (1 + 4 * (l - 0xEC))
  else if l = 0xF5 then some 49
  else if l = 0xF6 then some 65
  else none

/-- The VIF and VIFE bytes at a place, and how many bytes they take: a plain-text VIF carries its length and text behind it. -/
def vifAt (b : Bytes) : Bytes × Nat :=
  let v := beAt b 0 1
  if v % 128 = 0x7C then
    let n := 2 + beAt b 1 1
    let l := if v = 0xFC then chain 10 (b.drop n) else []
    (b.take 1 ++ l, n + l.length)
  else
    let l := chain 11 b
    (l, l.length)

/-- The records of the wireless M-Bus application layer (R82): those with a storage number, a coding or a value that the map
does not name are skipped. -/
def wmbRecs (s : State) : Nat → Bytes → Reading → Except Nat Reading
  | 0, _, r => .ok r
  | _, [], r => .ok r
  | n + 1, d :: t, r =>
    if d = 0x2F then wmbRecs s n t r
    else if d.toNat % 16 = 15 then .ok r
    else
      let dif := chain 11 (d :: t)
      let (vif, vn) := vifAt ((d :: t).drop dif.length)
      let o := dif.length + vn
      let (len0, bcd, used) := difLen d.toNat
      let lvar := if d.toNat % 16 = 13 then lvarLen (beAt (d :: t) o 1) else some len0
      let len := lvar.getD 0
      let raw := sub (d :: t) o len
      let rest := (d :: t).drop (o + len)
      if lvar.isNone ∨ raw.length < len ∨ vif = [] then .error 0x60
      else if bit d.toNat 6 || (dif.drop 1).any (fun x => x.toNat % 16 != 0) || !used then wmbRecs s n rest r
      else if vif = [0x6D] ∧ len = 4 then
        wmbRecs s n rest (match s.typeF (ofLe raw) with | some x => { r with rt := x, meterTime := true } | none => r)
      else match mapFind 1 (dif ++ vif) 256 s.pipe.parseMap with
        | none => wmbRecs s n rest r
        | some (target, sc) =>
          -- the integer coding is signed: a negative value has no unsigned representation
          match (if bcd then bcdOf raw else if ofTc len (ofLe raw) < 0 then none else some (ofLe raw)) with
          | none => .error 0x62
          | some v =>
            if 0x40 ≤ target then wmbRecs s n rest (r.put target (mAOf v ((vifAmps vif).getD sc)))
            else
              let (e, joule) := (vifScale vif).getD (sc, false)
              match (if joule then mWhOfJ v e else mWhOf v e) with
              | some y => wmbRecs s n rest (r.put target y)
              | none => .error 0x62

/-! ## DLMS/COSEM -/

/-- A COSEM date-time as device time, where all its fields and its deviation are given. -/
def State.dlmsTime (s : State) (b : Bytes) : Option Nat :=
  let y := beAt b 0 2
  let m := beAt b 2 1
  let d := beAt b 3 1
  if b.length ≠ 12 ∨ y = 0xFFFF ∨ m = 0 ∨ 12 < m ∨ d = 0 ∨ 31 < d ∨ 23 < beAt b 5 1 ∨ 59 < beAt b 6 1 ∨ 59 < beAt b 7 1 ∨
      beAt b 9 2 = 0x8000 then none
  else
    let sec : Nat := daysOf y m d * 86400 + beAt b 5 1 * 3600 + beAt b 6 1 * 60 + beAt b 7 1
    let loc : Int := sec
    some (s.ofUtc (loc + 60 * ofTc 2 (beAt b 9 2)).toNat * nsS)

/-- A length as A-XDR writes it, and what follows: one byte below 128, else the number of length bytes. -/
def axLen (b : Bytes) : Option (Nat × Bytes) :=
  let n := beAt b 0 1
  if b = [] then none
  else if n < 128 then some (n, b.drop 1)
  else if 0x81 ≤ n ∧ n ≤ 0x84 ∧ n - 0x80 < b.length then some (beAt b 1 (n - 0x80), b.drop (1 + (n - 0x80)))
  else none

/-- A type description of a compact array passed over, with the number of descriptions still to come. -/
def axDesc : Nat → Nat → Bytes → Option Bytes
  | _, 0, b => some b
  | 0, _, _ => none
  | _, _, [] => none
  | n + 1, k + 1, t :: b =>
    if t = 1 then axDesc n (k + 1) (b.drop 2)
    else if t = 2 then (axLen b).bind (fun x => axDesc n (k + x.1) x.2)
    else axDesc n k b

/-- The bytes of a COSEM value of fixed length by its type; a type of R82's list or one that is skipped. -/
def axFixed (t : Nat) : Option Nat :=
  match t with
  | 0 => some 0 | 3 => some 1 | 5 => some 4 | 6 => some 4 | 13 => some 1 | 15 => some 1 | 16 => some 2 | 17 => some 1
  | 18 => some 2 | 20 => some 8 | 21 => some 8 | 22 => some 1 | 23 => some 4 | 24 => some 8 | 25 => some 12 | 26 => some 5
  | 27 => some 4 | 28 => some 1 | 29 => some 2 | 30 => some 4 | 31 => some 1 | 32 => some 2 | 33 => some 4 | 255 => some 0
  | _ => none

/-- The values of COSEM data in order, with the number of values still to come: octet strings and the two unsigned numbers; every other value is
passed over. None where the structure breaks. -/
def dlmsVals : Nat → Nat → Bytes → Option (List (Sum Bytes Nat))
  | _, 0, [] => some []
  | _, 0, _ :: _ => none
  | 0, _, _ => none
  | _, _, [] => none
  | n + 1, k + 1, t :: b =>
    match axFixed t.toNat with
    | some l =>
      if b.length < l then none
      else (dlmsVals n k (b.drop l)).map (fun r => if t = 6 ∨ t = 21 then .inr (ofBe (b.take l)) :: r else r)
    | none => match axLen b with
      | none => none
      | some (x, c) =>
        if t = 1 ∨ t = 2 then dlmsVals n (k + x) c
        else if t = 4 then if c.length < (x + 7) / 8 then none else dlmsVals n k (c.drop ((x + 7) / 8))
        else if t = 9 then if c.length < x then none else (dlmsVals n k (c.drop x)).map (fun r => .inl (c.take x) :: r)
        else if t = 10 ∨ t = 12 then if c.length < x then none else dlmsVals n k (c.drop x)
        else if t = 19 then (axDesc (b.length + 1) 1 b).bind (fun d => (axLen d).bind (fun y =>
          if y.2.length < y.1 then none else dlmsVals n k (y.2.drop y.1)))
        else none

/-- The values taken into a reading: a number belongs to the OBIS code before it, a 12 B string is a time. -/
def dlmsTake (s : State) : List (Sum Bytes Nat) → Bytes → Reading → Except Nat Reading
  | [], _, r => .ok r
  | .inl b :: l, o, r =>
    if b.length = 12 then
      dlmsTake s l o (match s.dlmsTime b with | some x => { r with rt := x, meterTime := true } | none => r)
    else dlmsTake s l (if b.length = 6 then b else o) r
  | .inr v :: l, o, r =>
    match mapFind 2 o 256 s.pipe.parseMap with
    | none => dlmsTake s l [] r
    | some (target, sc) =>
      if 0x40 ≤ target then dlmsTake s l [] (r.put target (mAOf v sc))
      else match mWhOf v sc with
        | some x => dlmsTake s l [] (r.put target x)
        | none => .error 0x62

/-- The body of a data-notification or a get-response-normal (R82). -/
def dlmsBody (s : State) (a : Bytes) (r : Reading) : Except Nat Reading :=
  let t := beAt a 0 1
  let r0 := if t = 0x0F ∧ beAt a 5 1 = 12 then
      (match s.dlmsTime (sub a 6 12) with | some x => { r with rt := x, meterTime := true } | none => r) else r
  let d := if t = 0x0F then some (a.drop (6 + beAt a 5 1))
    else if t = 0xC4 ∧ beAt a 1 1 = 1 ∧ beAt a 3 1 = 0 then some (a.drop 4) else none
  match d.bind (fun b => dlmsVals (b.length + 1) 1 b) with
  | some vs => dlmsTake s vs [] r0
  | none => .error 0x60

/-- A ciphered APDU: system title, security control, invocation counter, ciphertext and 12 B tag. The title of a
service-specific ciphering is the meter's identity. -/
def dlmsSec (a : Bytes) (ident : Nat) : Option (Bytes × Nat × Nat × Bytes × Bytes) :=
  let t := beAt a 0 1
  let o := if t = 0xDB then 2 + beAt a 1 1 else 1
  let title := if t = 0xDB then sub a 2 (beAt a 1 1) else be 8 ident
  let l0 := beAt a o 1
  let o2 := if l0 < 128 then o + 1 else o + 1 + (l0 - 128)
  let body := a.drop o2
  if (t ≠ 0xDB ∧ t ≠ 0xCC ∧ t ≠ 0xD4) ∨ body.length < 17 then none
  else some (title, beAt body 0 1, beAt body 1 4, (body.drop 5).take (body.length - 17), body.drop (body.length - 12))

/-- The key version of a security control byte is not carried; the invocation counter is the item's counter (R69). -/
def dlmsOpen (ek ak : Bytes) (title : Bytes) (sc ic : Nat) (c tag : Bytes) : Option Bytes :=
  gcmOpen ek (title ++ be 4 ic) (be 1 sc ++ ak) c tag

/-- `n` octet strings passed over: the rest. -/
def skipOctets : Nat → Bytes → Bytes
  | 0, b => b
  | n + 1, b => skipOctets n (b.drop (1 + beAt b 0 1))

/-- A general-signing APDU: the signed bytes, the content and the signature. -/
def dlmsSigned (a : Bytes) : Option (Bytes × Bytes × Bytes) :=
  if beAt a 0 1 ≠ 0xDF then none
  else
    let b := skipOctets 5 (a.drop 1)
    let k := b.drop 1
    let l := beAt k 0 1
    let o := if l = 0x81 then 2 else if l = 0x82 then 3 else 1
    let n := if l = 0x81 then beAt k 1 1 else if l = 0x82 then beAt k 1 2 else l
    let rest := k.drop (o + n)
    if k.length < o + n ∨ rest.length < 1 + beAt rest 0 1 then none
    else some ((a.drop 1).take (a.length - 1 - rest.length), sub k o n, sub rest 1 (beAt rest 0 1))

end Sys2Proof.Machine
end

