-- ==== Sys2Proof/Machine/Ingress.lean ====
section
/-! DEFINITION. The ingress of the part: policing (R208), the ingest regions and their rings (R93, R94), the receiver of
10BASE-T1S and the relay of RELAYUP (R57, R58, R297, R306, R490). -/

namespace Sys2Proof.Machine

/-! ## Policing (R208) -/

/-- The port rates of R207 in bit/s: the uplinks by their mode, 10BASE-T1S, the DBPSK rate of a power-line band, radio. -/
def State.upRate (s : State) (u : Nat) : Nat := if s.geti F.UPLINK_CFG_MODE u = 0 then 10000000000 else 1000000000

/-- Both token buckets of a port: whether they hold enough for a frame of `len` B at a port rate, and the state after it. -/
def State.police (s : State) (port len rate : Nat) : State × Bool :=
  let fps := s.get F.QOS_C0POL_FPS
  let burst := s.get F.QOS_C0POL_BURST
  let pct := s.get F.QOS_C0POL_PCT
  let now := s.time.clk
  let b := (s.port.police.find? (fun x => x.port == port)).getD ⟨port, 0, 0, now⟩
  let f := b.frames - (now - b.at_) * fps
  let y := b.bytes - (now - b.at_) * (rate * pct)
  let needF := nsS
  let needY := len * 8 * 100 * nsS
  let ok := decide (f + needF ≤ burst * nsS) && decide (y + needY ≤ burst * 256 * 8 * 100 * nsS)
  let b1 : Police := ⟨port, if ok then f + needF else f, if ok then y + needY else y, now⟩
  ({ s with port := { s.port with police := b1 :: s.port.police.filter (fun x => x.port != port) } }, ok)

/-- A class-0 frame out of profile: counted and logged at the end of the second (R208). -/
def State.outProfile (s : State) (port : Nat) : State := (s.inc F.QOS_OUTPROF).logCount 0x5101 port nsS 1 (.ag 9)

/-! ## Items and regions (R57 to R59, R93) -/

/-- FLAGS of an item (R57). -/
def Item.flags (i : Item) : Nat :=
  b2n i.mainsValid + 2 * b2n i.retry + 4 * b2n i.injected + 8 * b2n i.relayed + 16 * b2n i.spilled

/-- The length of an item, padding included (R57). -/
def Item.len (i : Item) : Nat := 40 + (i.frame.length + 7) / 8 * 8

/-- An item on a wire (R59): header fields most significant byte first, the frame and its padding. -/
def Item.wire (i : Item) : Bytes :=
  be 2 i.len ++ be 1 i.medium ++ be 1 i.port ++ be 1 i.cls ++ be 1 i.flags ++ be 2 i.frame.length ++ be 8 i.seq ++
  timeBytes i.stamp ++ be 2 i.frac ++ be 2 i.angle ++ be 6 i.cycle ++ be 1 i.linkq ++ zeros 1 ++ fit (i.len - 40) i.frame

/-- The ingest region of a class. -/
def State.region (s : State) (c : Nat) : List Item :=
  if c = 0 then s.pipe.reg0 else if c = 1 then s.pipe.reg1 else if c = 2 then s.pipe.reg2 else s.pipe.reg3

/-- The ingest region of a class replaced. -/
def State.setRegion (s : State) (c : Nat) (l : List Item) : State :=
  { s with pipe :=
    if c = 0 then { s.pipe with reg0 := l } else if c = 1 then { s.pipe with reg1 := l }
    else if c = 2 then { s.pipe with reg2 := l } else { s.pipe with reg3 := l } }

/-- The ring of a class that spills. -/
def State.ring (s : State) (c : Nat) : List Item := if c = 2 then s.pipe.ring2 else if c = 3 then s.pipe.ring3 else []

/-- The words a region holds (R213). -/
def itemWords (l : List Item) : Nat := (l.map (fun i => pktWords i.len)).sum

/-- Whether a region takes another packet (R213: 1 + 1,536 ÷ 8 words free). -/
def State.regionFits (s : State) (c : Nat) : Bool := decide (itemWords (s.region c) + 193 ≤ queueWords c)

/-- Whether a region holds more than its watermark (R93). -/
def State.overWm (s : State) (c : Nat) : Bool :=
  decide ((if c = 2 then 192 else s.get F.PIPE_IQWM_WM3) * 128 < itemWords (s.region c))

/-- Whether a ring has room for an item: items framed only by LENGTH (R93). -/
def State.ringFits (s : State) (c : Nat) (i : Item) : Bool :=
  decide (((s.ring c).map Item.len).sum + i.len ≤ (if c = 2 then 67108864 else 1073741824))

/-- How an item entered: into the queue, into the ring, or not at all. -/
inductive Entered where
  | queue | ring | full
  deriving DecidableEq, Repr

/-- An item with its class offered to its region (R93): numbered when it is taken. -/
def State.offer (s : State) (i : Item) : State × Entered :=
  let c := i.cls
  let x : Item := { i with seq := s.pipe.nextSeq }
  let s1 : State := { s with pipe := { s.pipe with nextSeq := s.pipe.nextSeq + 1 } }
  if (s.ring c).isEmpty && s.regionFits c && !(decide (2 ≤ c) && s.overWm c && s.on F.SYS_STATUS_FULLREADY) then
    (s1.setRegion c (s.region c ++ [x]), .queue)
  else if 2 ≤ c ∧ s.on F.SYS_STATUS_FULLREADY ∧ s.ringFits c x then
    let started := (s.ring c).isEmpty
    let s2 : State := { s1 with pipe := if c = 2
      then { s1.pipe with ring2 := s1.pipe.ring2 ++ [x], spilled2 := s1.pipe.spilled2 + 1 }
      else { s1.pipe with ring3 := s1.pipe.ring3 ++ [x], spilled3 := s1.pipe.spilled3 + 1 } }
    (if started then s2.log 0x2001 [(1, c)] (.ag 4) else s2, .ring)
  else (s, .full)

/-- An item that ended in a second, shown in PIPE_RATE once the second is over (R97). -/
def State.countRate (s : State) : State :=
  if s.pipe.finSec = s.secs then { s with pipe := { s.pipe with fin := s.pipe.fin + 1 } }
  else
    let last := if s.pipe.finSec + 1 = s.secs then s.pipe.fin else 0
    (({ s with pipe := { s.pipe with finSec := s.secs, fin := 1 } } : State)).set F.PIPE_RATE last

/-- The count of items that ended with an outcome (R89, R97). -/
def State.countOut (s : State) (code : Nat) : State := s.inci F.PIPE_OCNT_COUNT code 1

/-- An item from a receiver (R66, R93, R94, R208): a class-0 item is policed at its port, and one that finds no room is dropped.
A class-0 item takes no outcome code (R89); its drop is that of R210. -/
def State.receive (s : State) (i : Item) (port rate : Nat) : State :=
  let c := i.classOf (s.get F.PIPE_GUCOR_UDPPORT)
  let x : Item := { i with cls := c }
  let (s1, inProf) := if c = 0 ∧ i.medium ≠ 3 then s.police port i.frame.length rate else (s, true)
  if !inProf then s1.outProfile port
  else match s1.offer x with
    | (s2, .full) =>
      let s3 := s2.logCount 0x2003 c nsS 1 (.ag 4)
      if c = 0 then (s3.inc F.QOS_C0DROP).log 0x5102 [(1, 0)] (.ag 9) else (s3.countOut 0x12).countRate
    | (s2, _) => s2

/-- The fraction of a nanosecond of the stamp, in units of 2^-16 ns (R57). -/
def State.stampFrac (s : State) : Nat := min 65535 (s.time.acc * 65536 / 1000000).toNat

/-- SPILL_DRAIN (R93): the oldest item of a class's ring goes to its region when there is room. -/
def execSpillDrain (cls : Nat) (s : State) : Out :=
  ok (match s.ring cls with
    | [] => s
    | i :: t =>
      if s.regionFits cls then
        let s1 := s.setRegion cls (s.region cls ++ [{ i with spilled := true }])
        let n := if cls = 2 then s.pipe.spilled2 else s.pipe.spilled3
        let s2 : State := { s1 with pipe := if cls = 2 then { s1.pipe with ring2 := t } else { s1.pipe with ring3 := t } }
        if t.isEmpty then
          ({ s2 with pipe := if cls = 2 then { s2.pipe with spilled2 := 0 } else { s2.pipe with spilled3 := 0 } } : State).log
            0x2002 [(1, cls), (4, n)] (.ag 4)
        else s2
      else s)

/-- RELAYUP (R58, R297): an IPv6 packet that the head-end relays becomes an item of MEDIUM 3, with the stamp of its frame. -/
def execRelayup (r : Req) (packet : Bytes) (s : State) : Out :=
  ok (hcpRun r 0x0331 (fun s =>
    if packet.length < 40 ∨ beAt packet 0 1 / 16 ≠ 6 ∨ 1496 < packet.length then .no s stBADFRAME
    else
      let u := if r.port = .uplink1 then 1 else 0
      let at_ := s.port.reqAt.getD (s.time.dev, s.stampFrac)
      let i : Item := { medium := 3, port := u, stamp := at_.1, frac := at_.2, frame := packet }
      { st := s.receive i u (s.upRate u) }) s)

end Sys2Proof.Machine
end

