-- ==== Sys2Proof/Machine/Pipeline.lean ====
section
/-! DEFINITION. The nine stages of the reading pipeline (R65 to R92, R96): what each stage does with one item, the order in which
outcomes become final, the Burin's batches, commit and acknowledgement. -/

namespace Sys2Proof.Machine

/-! ## Items in flight -/

/-- The item in flight with a sequence number. -/
def State.workOf (s : State) (seq : Nat) : Option Work := s.pipe.work.find? (fun w => w.item.seq == seq)

/-- An item in flight replaced; the list stays in the order of SEQ. -/
def State.setWork (s : State) (w : Work) : State :=
  { s with pipe := { s.pipe with work := s.pipe.work.map (fun x => if x.item.seq == w.item.seq then w else x) } }

/-- An item that has left the pipeline. -/
def State.dropWork (s : State) (seq : Nat) : State :=
  { s with pipe := { s.pipe with work := s.pipe.work.filter (fun x => x.item.seq != seq) } }

/-- The outcome of a life state at stage 3 (R70). -/
def lifeOutcome (st : Nat) : Option Nat :=
  if st = 1 then some 0x31 else if st = 4 then some 0x32 else if st = 5 then some 0x33 else if st = 6 then some 0x34 else none

/-- Whether an outcome sends its item to quarantine (R89). -/
def State.quarantines (s : State) (c : Nat) : Bool :=
  if c = 0x20 then s.on F.PIPE_CTRL_QUAR_DUP else !([0x12, 0x40, 0x44].contains c) && decide (0x10 ≤ c)

/-- An outcome made final (R89, R96, R75, R300): counted, quarantined, reported, and the deferral entry released. -/
def State.finish (s : State) (w : Work) (code stage : Nat) : State :=
  let slot := if w.authentic then w.slot else none
  -- a slot that the item's meter has left meanwhile keeps its record as it is (R104)
  let here := match w.slot with | some n => s.holds n w.ident | none => false
  let s1 := (s.countOut code).countRate
  let s2 : State := if s1.quarantines code then
      let q : Quar := ⟨s1.pipe.nextQuar, code, stage, slot, s1.secs, if slot.isSome then w.wide.toNat else w.counter, w.item⟩
      let s' : State := { s1 with pipe := { s1.pipe with quar := s1.pipe.quar ++ [q], nextQuar := s1.pipe.nextQuar + 1 } }
      match slot with
      | some n => if code = 0x80 || !here then s' else s'.onRec n (fun r => { r with qitems := min max32 (r.qitems + 1) })
      | none => s'
    else s1
  let s3 := match w.slot with
    | some n => if code = 0x41 && here then s2.onRec n (fun r => { r with authf := min max32 (r.authf + 1) }) else s2
    | none => s2
  let s4 := match slot with
    | some n => if code = 0x33 then
        ((if here then s3.onRec n (fun r => { r with heard := min max32 (r.heard + 1) }) else s3)).log 0x2031 [(4, n), (4, w.counter)] (.ag 4)
      else s3
    | none => s3
  let s5 := if w.item.cls = 2 then
      s4.notify 2 0x8003 2 (be 1 code ++ zeros 3 ++ be 4 (slot.getD max32) ++ w.item.wire) else s4
  { s5 with pipe := { s5.pipe with deferOut := s5.pipe.deferOut.filter (fun d => d.1 != w.item.seq) } }

/-- Whether an earlier item of the same slot and class has no outcome yet (R90). -/
def State.blocked (s : State) (w : Work) : Bool :=
  s.pipe.work.any (fun x => decide (x.item.seq < w.item.seq) && x.ident == w.ident && x.item.cls == w.item.cls &&
    x.outcome.isNone)

/-- An outcome that is due made final if its turn has come: an authentic item goes on to stage 8, any other leaves (R65, R90). -/
def State.finalOne (s : State) (seq : Nat) : State :=
  match s.workOf seq with
  | none => s
  | some w => match w.due with
    | none => s
    | some c =>
      if s.blocked w then s
      else
        let s1 := s.finish w c w.outStage
        if w.authentic then s1.setWork { w with due := none, outcome := some c } else s1.dropWork seq

/-- Every due outcome whose turn has come made final, in ascending SEQ (R90). -/
def State.finalise (s : State) : State := (s.pipe.work.map (fun w => w.item.seq)).foldl State.finalOne s

/-- An item that a stage ends with an outcome. -/
def Work.ends (w : Work) (code stage : Nat) : Work := { w with due := some code, outStage := stage }

/-- A stage that waits for nothing but the item: it has passed the stage before and has no outcome. -/
def Work.at_ (w : Work) (k : Nat) : Bool := w.stage + 1 == k && w.outcome.isNone && w.due.isNone

/-- A stage's command (R65): it acts when the pipeline runs stages 2 to 9 (R97), outside a supply warning for stages 4 to 8
(R452), and on an item that has reached it. -/
def stageCmd (k seq : Nat) (f : Work → State → State) (s : State) : State :=
  if !s.on F.PIPE_CTRL_EN || (decide (4 ≤ k) && decide (k ≤ 8) && s.on F.PWR_STATUS_WARN) then s
  else match s.workOf seq with
    | some w => if w.at_ k then (f w s).finalise else s
    | none => s

/-! ## Stage 1 -/

/-- The item as stage 1 recognises it: its form, identity, counter, key version, algorithm and content; or the outcome that
ends it. DESIGN CHOICE: a wireless M-Bus frame with a CI-field that R82 does not read is unsupported (0x11), and a DLMS frame without
ciphering, which has no invocation counter, has counter 0, so that of two such frames the second is a duplicate. -/
def State.recognised (s : State) (i : Item) : Except Nat Work :=
  match i.recognise (s.get F.PIPE_GUCOR_UDPPORT) with
  | .ends c => .error c
  | .gucor e a => match gucorCheck e with
    | some c => .error c
    | none => .ok { item := i, form := .gucor, ident := beAt e 4 8, counter := beAt e 12 4, keyver := beAt e 16 1
                    sigalg := beAt e 17 1, content := beAt e 18 1, enc := bit (beAt e 3 1) 0, lastgasp := bit (beAt e 3 1) 2
                    addr := a, apdu := e }
  | .wmbus f => match wmbParse 4 (f.drop 10) with
    | none => .error (wmbEnds (f.drop 10))
    | some t => match t.afl with
      | some (_, mcr, _, kv) => .ok { item := i, form := .wmbus, ident := wmbIdent f, apdu := f, addr := zeros 16
                                      counter := if t.mode = 7 then mcr else t.acc, narrow := t.mode != 7
                                      keyver := if t.mode = 7 then kv else 0 }
      | none => .ok { item := i, form := .wmbus, ident := wmbIdent f, apdu := f, addr := zeros 16, counter := t.acc
                      narrow := true }
  | .dlms a ad =>
    let ident := beAt ad 8 8
    .ok { item := i, form := .dlms, ident := ident, apdu := a, addr := ad
          counter := match dlmsSec a ident with | some (_, _, ic, _, _) => ic | none => 0 }

/-- The DIST class-0 input queue takes an item (R189, R210, R217). One above its largest packet, which no acknowledgement reaches, finds no room. -/
def State.toDist (s : State) (i : Item) : State :=
  if i.len ≤ 256 ∧ itemWords s.pipe.distQ + 33 ≤ queueWords 5 then { s with pipe := { s.pipe with distQ := s.pipe.distQ ++ [i] } }
  else (s.inc F.QOS_C0DROP).log 0x5102 [(1, 5)] (.ag 9)

/-- The bytes of the working store that items hold: the 6 MiB of R15 without the 1 MiB tag array of the key cache. -/
def workRoom : Nat := 5242880

/-- Whether the working store takes another item (R15, R87): one of the greatest length fits. -/
def State.workFits (s : State) : Bool := decide ((s.pipe.work.map (fun w => w.item.len)).sum + 1536 ≤ workRoom)

/-- INGRESS_AND_CLASS_SORTING (R21, R65, R66, R87): the oldest item of a class's region passes stage 1. Stage 1 serves a lower class number
first, and classes 1 to 3 wait where the working store is full. -/
def execIngressAndClassSorting (cls : Nat) (s : State) : Out :=
  ok (match s.region cls with
    | [] => s
    | i :: t =>
      if (cls ≠ 0 ∧ (¬ s.on F.SYS_STATUS_FULLREADY ∨ s.workFits = false)) ∨ (List.range cls).any (fun c => !(s.region c).isEmpty) = true then s
      else
        match (s.setRegion cls t).qTake cls ((s.region cls).map Item.len) with
        | (s1, .flush) => s1.setRegion cls []
        | (s1, .discard) => s1
        | (s1, .fine) =>
          if cls = 0 then s1.toDist i
          else match s1.recognised i with
            | .error c => s1.finish { item := i } c 1
            | .ok w =>
              let l := insBy (fun a b => decide (a.item.seq ≤ b.item.seq)) w s1.pipe.work
              { s1 with pipe := { s1.pipe with work := l } })

/-! ## Stages 2 and 3 -/

/-- A counter widened by a record's window (R69). -/
def Work.widen (w : Work) (h : Nat) : Int :=
  if w.narrow then
    let b : Int := (h : Int) - 63
    b + ((w.counter : Int) - b) % 256
  else w.counter

/-- The window's test (R67): the outcome that ends the item, if one does. -/
def MRec.window (r : MRec) (c : Int) : Option Nat :=
  if (r.h : Int) < c then none
  else if 63 < r.h - c then some 0x21
  else if bit r.map (r.h - c).toNat then some 0x20
  else none

/-- The window moved by an accepted counter (R67). -/
def MRec.accept (r : MRec) (c : Int) : MRec :=
  if (r.h : Int) < c then
    let d := (c - r.h).toNat
    { r with map := if 64 ≤ d then 1 else (r.map * 2 ^ d) % 2 ^ 64 ||| 1, h := c.toNat }
  else if 63 < r.h - c then r
  else { r with map := setBit r.map (r.h - c).toNat true }

/-- DUPLICATE_SUPPRESSION (R67, stage 2): the two candidates alone are asked. An item of a slot whose record cannot be read ends here, and at
every stage that reads the record (R86, R115). -/
def execDuplicateSuppression (seq : Nat) (s : State) : Out :=
  ok (stageCmd 2 seq (fun w s =>
    let (c1, c2) := s.candidates w.ident
    let pass := fun (n : Nat) =>
      if s.meter.lostRec.contains n then s.setWork (w.ends 0x80 2) else
      let r := s.mrec n
      let c := w.widen r.h
      match r.window c with
      | none => s.setWork { w with stage := 2, wide := c, tested := true }
      | some o => s.setWork (Work.ends { w with wide := c, tested := true } o 2)
    if s.holds c1 w.ident then pass c1
    else if s.holds c2 w.ident then pass c2
    else s.setWork { w with stage := 2 }) s)

/-- What the population gives an item of a slot now (R91). -/
def State.popOf (s : State) (slot : Nat) : Pop :=
  let r := s.mrec slot
  ⟨r.profile, r.minkv, r.seed, r.sigreq, r.pmax, s.keyEntry slot⟩

/-- What the population gave an item at stage 3 (R91). -/
def State.popAt (s : State) (w : Work) : Pop := w.pop.getD (s.popOf (w.slot.getD 0))

/-- METER_SLOT_LOOKUP (R70, stage 3). A counter that stage 2 had no window for is widened here (R69). -/
def execMeterSlotLookup (seq : Nat) (s : State) : Out :=
  ok (stageCmd 3 seq (fun w s => match s.findSlot w.ident with
    | none => s.setWork (w.ends 0x30 3)
    | some (n, _) =>
      if s.meter.lostRec.contains n then s.setWork (w.ends 0x80 3) else
      let r := s.mrec n
      let w1 : Work := { w with slot := some n, recGen := r.gen, pop := some (s.popOf n), wide := if w.tested then w.wide else w.widen r.h }
      if r.state = 6 then s.setWork (w1.ends 0x34 3)
      else s.setWork { w1 with stage := 3, held := lifeOutcome r.state }) s)

/-! ## Stage 4 -/

/-- What stage 4 gives: plaintext, signature, signed bytes and the key that it used. -/
structure Opened where
  plain : Bytes
  sig : Bytes := []
  signed : Bytes := []
  key : Bytes := []

/-- A Gucor payload split off its signature (R60, R62). -/
def gucorSplit (e b key : Bytes) : Opened :=
  let n := beAt e 32 2
  { plain := b.take n, sig := (b.drop n).take (sigLen (beAt e 17 1)), signed := e.take 36 ++ b.take n, key := key }

/-- A DLMS plaintext under general-signing (R72, profiles 6 and 7). -/
def dlmsSplit (p key : Bytes) : Option Opened :=
  (dlmsSigned p).map (fun x => { plain := x.2.1, sig := x.2.2, signed := x.1, key := key })

/-- Whether a frame's protocol and security mode are the profile's (R72, R73): a DLMS frame is authenticated and encrypted, under the suite
of its security control byte. -/
def Work.fits (w : Work) (ident profile : Nat) : Bool :=
  let t := wmbParse 4 (w.apdu.drop 10)
  let suite := match dlmsSec w.apdu ident with | some (_, sc, _, _, _) => if sc / 16 % 4 = 3 then some (sc % 16) else none | none => none
  match profile with
  | 0 => true
  | 1 => w.form == .wmbus && (t.map (fun x => x.mode)) == some 5
  | 2 => w.form == .wmbus && (t.map (fun x => x.mode)) == some 7
  | 3 => w.form == .dlms && suite == some 0
  | 4 => w.form == .gucor && w.enc
  | 5 => w.form == .gucor && !w.enc && w.sigalg != 0
  | 6 => w.form == .dlms && suite == some 1
  | 7 => w.form == .dlms && suite == some 2
  | _ => false

/-- Whether a profile authenticates at stage 4 (R68). -/
def authProfile (p : Nat) : Bool := p != 0 && p != 5

/-- What opens a frame under a derived key (R72), or the outcome of R73: a tag, CMAC or 0x2F2F check that fails is 0x41, and a frame of
profile 6 or 7 whose tag verifies but which carries no general-signing is of another security mode. -/
def Work.open_ (w : Work) (profile : Nat) (key key2 : Bytes) : Except Nat Opened :=
  let or41 := fun (o : Option Opened) => match o with | some x => Except.ok x | none => .error 0x41
  match profile with
  | 4 =>
    let e := w.apdu
    let b := e.drop 36
    or41 ((gcmOpen key (sub e 4 12) (e.take 36) (b.take (b.length - 16)) (b.drop (b.length - 16))).map (fun p => gucorSplit e p key))
  | 1 => or41 ((wmbParse 4 (w.apdu.drop 10)).bind (fun t => (wmbMode5 key w.apdu t).map (fun p => { plain := p, key := key })))
  | 2 => or41 ((wmbParse 4 (w.apdu.drop 10)).bind (fun t => (wmbMode7 key w.apdu t).map (fun p => { plain := p, key := key })))
  | _ =>
    let ek := if profile = 7 then key else key.take 16
    let ak := if profile = 7 then key2 else key.drop 16
    match (dlmsSec w.apdu w.ident).bind (fun (title, sc, ic, c, tag) => dlmsOpen ek ak title sc ic c tag) with
    | none => .error 0x41
    | some p =>
      if profile = 3 then .ok { plain := p, key := key }
      else match dlmsSplit p key with
        | some o => .ok o
        | none => .error 0x43

/-- A frame without protection (R72, profiles NONE and GPLAIN). -/
def Work.bare (w : Work) : Opened :=
  match w.form with
  | .gucor => gucorSplit w.apdu (w.apdu.drop 36) []
  | .wmbus => { plain := ((wmbParse 4 (w.apdu.drop 10)).map (fun t => t.data)).getD [] }
  | .dlms => { plain := w.apdu }

/-- Whether meter keys are wanting for an item (R74): the profile uses a derived key, and its seed is not held. A seed that
was never imported is a key that does not exist, outside flat key mode and ZEROIZE. -/
def State.noKeys (s : State) (w : Work) (r : Pop) : Bool :=
  authProfile r.profile && (s.meterKey r.seed w.ident w.keyver).isNone &&
    (s.on F.KEY_STATUS_FLAT || !s.rootOpen || s.geti F.KEY_SEEDCNT_COUNT r.seed != 0)

/-- What stage 4 finds. -/
inductive S4 where
  | pass (o : Opened)
  | out (code : Nat)
  | defer

/-- Stage 4 on an item under what its slot gives it (R72 to R74). A seed that was never imported gives no key, so nothing authenticates. -/
def State.stage4 (s : State) (w : Work) (r : Pop) : S4 :=
  if s.noKeys w r then .defer
  else if !w.fits w.ident r.profile then .out 0x43
  else if r.profile ≠ 0 ∧ w.keyver < r.minkv then .out 0x42
  else if !authProfile r.profile then .pass w.bare
  else match s.meterKey r.seed w.ident w.keyver with
    | none => .out 0x41
    | some k => match w.open_ r.profile k ((s.meterKey r.seed w.ident ((w.keyver + 128) % 256)).getD []) with
      | .ok o => .pass o
      | .error c => .out c

/-- The key cache after stage 4 asked for the keys of a profile (R317). -/
def State.touchKeys (s : State) (w : Work) (r : Pop) : State :=
  if !authProfile r.profile || (s.seedOf r.seed).isNone then s
  else
    let s1 := s.cacheKey lblMTR r.seed (mtrCtx w.ident w.keyver) false
    if r.profile = 7 then s1.cacheKey lblMTR r.seed (mtrCtx w.ident ((w.keyver + 128) % 256)) false else s1

/-- The bytes that the deferral area holds (R74, R75). -/
def State.deferUsed (s : State) : Nat := (s.pipe.defer.map Item.len).sum + (s.pipe.deferOut.map (fun d => d.2)).sum

/-- The attempt of a sleeper that an item answers (R269): it was sent, and the item arrived within the wait after it. -/
def State.replyTo (s : State) (slot stamp : Nat) : Option Attempt :=
  s.radio.tries.find? (fun a =>
    let at_ : Int := (s.time.clk : Int) + (stamp : Int) - s.time.dev
    a.slot == slot && a.sent && decide (at_ ≤ a.replyEnd) &&
      decide ((a.replyEnd : Int) ≤ at_ + s.get F.RADIO_SLEEP_REPLYMS * 1000000))

/-- An attempt that succeeded (R269): its frame leaves the store, and a producer's waiting frame takes the place. -/
def State.replied (s : State) (slot : Nat) : State :=
  let mine := (s.radio.tries.find? (fun a => a.slot == slot && a.sent)).map (fun a => a.pkt.body)
  let rest := s.radio.store.eraseP (fun f => f.slot == slot && some f.pkt.body == mine)
  let next := s.radio.waitSl.find? (fun f => f.slot == slot)
  let s1 : State := { s with radio := { s.radio with
    tries := s.radio.tries.filter (fun a => a.slot != slot)
    store := rest ++ next.toList
    waitSl := s.radio.waitSl.eraseP (fun f => f.slot == slot) } }
  s1.onRec slot (fun r => { r with radio := { r.radio with slflags := setBit r.radio.slflags 2 (!(s1.sleepers slot).isEmpty) } })

/-- KEY_DERIVATION_AND_DECRYPTION (R72 to R74, stage 4). -/
def execKeyDerivationAndDecryption (seq : Nat) (s : State) : Out :=
  ok (stageCmd 4 seq (fun w s =>
    let slot := w.slot.getD 0
    let r := s.popAt w
    let s0 := s.touchKeys w r
    match s.stage4 w r with
    | .out c => s0.setWork (w.ends c 4)
    | .pass o =>
      let s1 := if (s0.replyTo slot w.item.stamp).isSome ∧ w.item.medium = 1 then s0.replied slot else s0
      s1.setWork { w with stage := 4, authentic := authProfile r.profile, plain := o.plain, sig := o.sig, signed := o.signed
                          key := o.key }
    | .defer =>
      if 34359738368 < s.deferUsed + w.item.len then s0.setWork (w.ends 0x44 4)
      else
        let s1 : State := { s0 with pipe := { s0.pipe with
          defer := insBy (fun a b => decide (a.seq ≤ b.seq)) w.item s0.pipe.defer } }
        let s2 := if s1.on F.PIPE_STATUS_DEFER then s1
          else (s1.set F.PIPE_STATUS_DEFER 1).markedIf s.key.flatBy (fun x =>
            x.log 0x2020 [(1, if s.on F.KEY_STATUS_FLAT then 0 else 1)] (.ag 4))
        s2.setWork (w.ends 0x40 4)) s)

/-- Whether meter keys are available (R74, R75). -/
def State.keysBack (s : State) : Bool :=
  s.rootOpen && !s.on F.KEY_STATUS_FLAT && s.key.seeds.any (fun e => (s.seedOf e.1).isSome)

/-- Whether a deferred item's meter keys are available, or it needs none any more. -/
def State.itemReady (s : State) (i : Item) : Bool :=
  match s.recognised i with
  | .ok w => (match s.findSlot w.ident with
    | some (n, _) => !s.noKeys w (s.popOf n)
    | none => true)
  | .error _ => true

/-- DEFERRAL_REPLAY (R75): the deferred item of the lowest SEQ whose keys are available goes back into stage 1 with a new SEQ. At 125,000
items a second each takes 8 µs. -/
def execDeferralReplay (s : State) : Out :=
  ok (match s.pipe.defer.find? s.itemReady with
    | none => s
    | some i =>
      let t := s.pipe.defer.erase i
      if !s.keysBack then s
      else
        let s' := s.adv 8000
        let s0 := if t.all s'.itemReady then s'.set F.PIPE_STATUS_DEFER 0 else s'
        match s0.offer { i with retry := true } with
        | (_, .full) => s0
        | (s1, _) =>
          let s2 : State := { s1 with pipe := { s1.pipe with
            defer := t, deferOut := (s.pipe.nextSeq, i.len) :: s1.pipe.deferOut, replayed := s1.pipe.replayed + 1 } }
          if !t.any s.itemReady then
            ({ s2 with pipe := { s2.pipe with replayed := 0 } } : State).log 0x2021 [(4, s2.pipe.replayed)] (.ag 4)
          else s2)

/-! ## Stage 5 -/

/-- The Burin engines that run: passed and not disabled (R98). -/
def State.engines (s : State) : Nat :=
  (List.range 24).foldl (fun m e => if bit s.pipe.engOk e && !bit (s.get F.BURIN_ENG_DIS) e then m + 2 ^ e else m) 0

/-- Whether the array takes work. -/
def State.burinRuns (s : State) : Bool := s.on F.BURIN_CTRL_EN && s.engines != 0

/-- A signature counted as passed or failed (R98); algorithms 1 to 3. -/
def State.countSig (s : State) (alg : Nat) (pass : Bool) : State :=
  if pass then s.inci F.BURIN_VCNT_COUNT (alg - 1) 1 else s.inci F.BURIN_FCNT (alg - 1) 1

/-- The encodings that the Burin refuses before batching (R77). -/
def sigRefused (alg : Nat) (sig : Bytes) : Bool :=
  if alg = 1 then decide (edL ≤ ofLe (sig.drop 32)) || (edDecode (sig.take 32)).isNone
  else
    let n := if alg = 2 then p256.n else p384.n
    let l := sig.length / 2
    let r := ofBe (sig.take l)
    let x := ofBe (sig.drop l)
    r == 0 || x == 0 || decide (n ≤ r) || decide (n ≤ x)

/-- One signature's verification alone (R62, R77). -/
def sigVerify (alg : Nat) (key msg sig : Bytes) : Bool :=
  if alg = 1 then edVerify (sub key 2 32) msg sig
  else if alg = 2 then ecdsaVerify p256 (sub key 2 33) (sha256 msg) sig
  else ecdsaVerify p384 (sub key 2 49) (sha384 msg) sig

/-- An item's signature algorithm under a profile; 0 where it carries none (R76). -/
def Work.alg (w : Work) (profile : Nat) : Nat :=
  match w.form with
  | .gucor => w.sigalg
  | .dlms => if profile = 6 then 2 else if profile = 7 then 3 else 0
  | .wmbus => 0

/-- Stage 5's checks before verification (R76): the outcome that ends the item, if one does. -/
def Work.keyCheck (w : Work) (k : Bytes) (alg : Nat) : Option Nat :=
  if keyEmpty k then some 0x52
  else if beAt k 0 1 ≠ alg ∨ beAt k 1 1 ≠ w.keyver then some 0x51
  else none

/-- The signature's result taken by its item (R68): under GPLAIN it is what makes the item authentic. -/
def Work.sigDone (w : Work) (pass : Bool) (profile : Nat) : Work :=
  if pass then { w with stage := 5, authentic := w.authentic || profile == 5 } else w.ends 0x50 5

/-- A batch closed (R78): it draws a fresh 128-bit coefficient for each of up to 64 items. -/
def State.closeBatch (s : State) (id : Nat) : State :=
  let (c, s1) := s.drawBytes 1024
  { s1 with pipe := { s1.pipe with batches := s1.pipe.batches.map (fun x => if x.id = id then { x with closed := true, coef := c } else x) } }

/-- Whether the Burin has work of a class before another (R21, R78): a closed batch, or an item at stage 5 under ECDSA. -/
def State.burinBefore (s : State) (cls : Nat) : Bool :=
  s.pipe.batches.any (fun b => b.closed && decide (b.cls < cls)) ||
  s.pipe.work.any (fun w => w.at_ 5 && decide (w.item.cls < cls) && decide (2 ≤ w.alg (s.popAt w).profile) && !w.sig.isEmpty)

/-- SIGNATURE_VERIFICATION (R76 to R78, stage 5): an Ed25519 item joins the open batch of its class, and an ECDSA item takes an engine once
no work of a lower class number waits for one. -/
def execSignatureVerification (seq : Nat) (s : State) : Out :=
  ok (stageCmd 5 seq (fun w s =>
    let x := s.popAt w
    let p := x.profile
    let alg := w.alg p
    if alg = 0 then s.setWork { w with stage := 5 }
    else match w.keyCheck x.pkey alg with
    | some c => s.setWork (w.ends c 5)
    | none =>
      if sigRefused alg w.sig then (s.countSig alg false).setWork (w.ends 0x50 5)
      else if !s.burinRuns then s
      else if alg ≠ 1 then
        if s.burinBefore w.item.cls then s
        else
          let pass := sigVerify alg x.pkey w.signed w.sig
          (s.countSig alg pass).setWork (w.sigDone pass p)
      else if s.pipe.batches.any (fun b => b.seqs.contains seq) then s
      else
        let full := decide (s.get F.BURIN_CTRL_BMAX ≤ ((s.pipe.batches.find? (fun b => b.cls == w.item.cls && !b.closed)).map
          (fun b => b.seqs.length)).getD 0 + 1)
        match s.pipe.batches.find? (fun b => b.cls == w.item.cls && !b.closed) with
        | some b =>
          let s := if full then s.closeBatch b.id else s
          { s with pipe := { s.pipe with batches := s.pipe.batches.map (fun x =>
            if x.id = b.id then { x with seqs := x.seqs ++ [seq] } else x) } }
        | none =>
          let s1 : State := { s with pipe := { s.pipe with
              batches := s.pipe.batches ++ [⟨s.pipe.nextBatch, w.item.cls, [seq], false, s.time.clk, []⟩]
              nextBatch := s.pipe.nextBatch + 1 } }
          if full then s1.closeBatch s.pipe.nextBatch else s1) s)

/-- BATCH_CLOSE (R78): the open batch of a class has waited BURIN_BWAIT. Under a supply warning no batch starts (R452), and with PIPE_CTRL.EN
0 stage 5 stands (R97). -/
def execBatchClose (cls : Nat) (s : State) : Out :=
  ok (if s.on F.PWR_STATUS_WARN || !s.on F.PIPE_CTRL_EN then s else match s.pipe.batches.find? (fun b => b.cls == cls && !b.closed) with
    | none => s
    | some b =>
      (s.advTo (b.openAt + s.get F.BURIN_BWAIT_US * 1000)).closeBatch b.id)

/-- The parts that a failing list of more than two items is verified in (R79). -/
def bisectParts : Nat → List Bool → Nat
  | 0, _ => 0
  | n + 1, l =>
    if l.length ≤ 2 ∨ l.all (fun b => b) then 0
    else
      let h := (l.length + 1) / 2
      2 + bisectParts n (l.take h) + bisectParts n (l.drop h)

/-- BATCH_VERIFY_COMPLETE (R78, R79): a closed batch verified, a lower class number first; an item fails only by failing its single
verification. That a sound batch equation with random coefficients passes a bad signature (2^-128) is left out. -/
def execBatchVerifyComplete (id : Nat) (s : State) : Out :=
  ok (match s.pipe.batches.find? (fun b => b.id == id) with
    | none => s
    | some b =>
      if !b.closed || !s.burinRuns || !s.on F.PIPE_CTRL_EN || s.burinBefore b.cls then s
      else
        let ws := b.seqs.filterMap s.workOf
        let res := ws.map (fun w => (w, sigVerify 1 (s.popAt w).pkey w.signed w.sig))
        let bad := (res.filter (fun x => !x.2)).length
        let s1 : State := { s with pipe := { s.pipe with batches := s.pipe.batches.filter (fun x => x.id != id) } }
        let s2 := s1.inc F.BURIN_BATCH
        let s3 := if bad = 0 then s2
          else if ws.length ≤ 2 then s2.inc F.BURIN_BFAIL
          else ((s2.inc F.BURIN_BFAIL).inci F.BURIN_BPART 0 (bisectParts 8 (res.map (fun x => x.2)))).logOnce 0x2011 0 nsS
            [(1, ws.length), (4, bad)] (.ag 4)
        (res.foldl (fun (t : State) x =>
          (t.countSig 1 x.2).setWork (x.1.sigDone x.2 (s.popAt x.1).profile)) s3).finalise)

/-! ## Stages 6 and 7 -/

/-- The canonical reading of an item's plaintext, or the outcome that ends it (R81 to R83). DESIGN CHOICE: an MTIME_NS from 10^9 to
0xFFFF_FFFE, and a CONTENT 0x02 item without a record 0x04, is a broken structure (0x60). -/
def State.parse (s : State) (w : Work) : Except Nat Reading :=
  let mt := beAt w.apdu 28 4
  let base : Reading := { rt := w.item.stamp, lastgasp := w.lastgasp }
  let got : Except Nat Reading := match w.form with
    | .gucor =>
      if mt ≠ 0xFFFFFFFF ∧ nsS ≤ mt then .error 0x60
      else match records (w.plain.length + 1) w.plain with
        | none => .error 0x60
        | some l => match gucorRecs l { base with rt := if mt = 0xFFFFFFFF then w.item.stamp else beAt w.apdu 20 8 * nsS + mt
                                                  meterTime := mt != 0xFFFFFFFF } with
          | .error c => .error c
          | .ok r =>
            if w.content = 2 then (match r.session with
              | some b => if sessionOk b then .ok r else .error 0x60
              | none => .error 0x60)
            else .ok r
    | .wmbus => wmbRecs s (w.plain.length + 1) w.plain base
    | .dlms => dlmsBody s w.plain base
  match got with
  | .error c => .error c
  | .ok r =>
    if (w.form ≠ .gucor ∨ w.content = 1 ∨ w.content = 4) ∧ r.imp.isNone ∧ r.exp.isNone then .error 0x61 else .ok r

/-- PARSING (stage 6). An item that a life state holds an outcome for ends with it here (R70, R89). -/
def execParsing (seq : Nat) (s : State) : Out :=
  ok (stageCmd 6 seq (fun w s => match s.parse w with
    | .error c => s.setWork (w.ends c 6)
    | .ok r =>
      let w1 : Work := { w with stage := 6, reading := some r }
      match w.held with
      | some c => s.setWork (w1.ends c 3)
      | none => s.setWork w1) s)

/-- A value that lies below its last committed one (R84, check 2). -/
def MRec.decreases (r : MRec) (x : Reading) : Bool :=
  (bit r.vmask 0 && (match x.imp with | some v => decide (v < r.imp) | none => false)) ||
  (bit r.vmask 1 && (match x.exp with | some v => decide (v < r.exp) | none => false)) ||
  x.regs.any (fun e => bit r.vmask (e.1 - 0x10 + 2) && decide (e.2 < r.keptReg e.1))

/-- An increase that the rated maximum does not allow (R84, check 5): Δt in whole ms, and the division is exact. -/
def MRec.tooFast (r : MRec) (x : Reading) (pmax m : Nat) : Bool :=
  let fast := fun (valid : Bool) (new : Option Nat) (old : Nat) => match new with
    | some v => valid && decide (pmax * ((x.rt - r.rt) / 1000000) * (100 + m) < (v - old) * 360000)
    | none => false
  pmax != 0 && (fast (bit r.vmask 0) x.imp r.imp || fast (bit r.vmask 1) x.exp r.exp)

/-- The checks of stage 7 in their order (R84). -/
def State.validate (s : State) (w : Work) (p : Pop) (r : MRec) (x : Reading) : Option Nat :=
  if w.sig.isEmpty && (p.sigreq || (w.item.cls == 1 && s.on F.PIPE_CTRL_SIGREQ_LEGAL)) then some 0x74
  else if !r.first && r.decreases x then some 0x70
  else if !r.first && decide (x.rt ≤ r.rt) then some 0x73
  else if s.on F.TIME_STATUS_TRUSTED && decide (w.item.stamp + s.get F.PIPE_VAL_TSKEW * nsS < x.rt) then some 0x72
  else if !r.first && r.tooFast x p.pmax (s.get F.PIPE_VAL_RATEM) then some 0x71
  else none

/-- The note bits of R85. -/
def State.notesOf (s : State) (w : Work) (r : MRec) (x : Reading) : Nat :=
  b2n (decide ((r.h : Int) + 1 < w.wide)) + 2 * b2n (!s.on F.TIME_STATUS_TRUSTED) + 4 * b2n (!x.meterTime)

/-- VALIDATION (stage 7). -/
def execValidation (seq : Nat) (s : State) : Out :=
  ok (stageCmd 7 seq (fun w s =>
    let r := s.mrec (w.slot.getD 0)
    let x := w.reading.getD { rt := w.item.stamp }
    if s.meter.lostRec.contains (w.slot.getD 0) then s.setWork (w.ends 0x80 7) else
    match s.validate w (s.popAt w) r x with
    | some c => s.setWork (w.ends c 7)
    | none => s.setWork { w with stage := 7, notes := s.notesOf w r x }) s)

/-! ## Stage 8 -/

/-- The radio row and mode of an item's demodulator written into its slot (R260). -/
def State.noteRadio (s : State) (slot : Nat) (i : Item) : State :=
  if i.medium ≠ 1 then s
  else s.onRec slot (fun r => { r with radio := { r.radio with
    row := s.geti F.RADIO_DMCFG_ROW i.port
    mode := s.geti F.RADIO_DMCFG_MODE i.port, relayed := i.relayed, fofs := i.fofs } })

/-- The LINK area of a slot whose authentic item arrived (R232, R286). -/
def State.linkOf (s : State) (r : MRec) (i : Item) : LinkA :=
  if i.medium = 2 then { kind := 2, chan := i.port, mac := sub i.frame 6 6, heardt := s.secs }
  else if i.medium = 0 then
    match s.plc.nodes.find? (fun n => n.ch == i.port && n.ident == r.ident) with
    | some n => { n.link with kind := 1, chan := i.port }
    | none => if r.link.kind = 1 then r.link else { kind := 1, chan := i.port }
  else r.link

/-- The sleeper's anchor and recovery at an unsolicited item (R270). -/
def State.unsolicited (s : State) (slot : Nat) (i : Item) : State :=
  let r := s.mrec slot
  if !r.sleeper ∨ i.medium ≠ 1 then s
  else
    let lost := bit r.radio.slflags 1
    let s1 := s.onRec slot (fun r => { r with radio := { r.radio with
      anch := i.stamp
      slflags := setBit r.radio.slflags 1 false
      mult := if lost then 0 else r.radio.mult
      resyncs := if lost then min max32 (r.radio.resyncs + 1) else r.radio.resyncs } })
    if lost then s1.log 0x6111 [(4, slot)] (.ag 11) else s1

/-- A change of DKV (R181, R182, R186): the counter starts again under a new reservation, and a post's keys are pinned anew. -/
def State.newDkv (s : State) (slot kv : Nat) : State :=
  let r := s.mrec slot
  if r.dist.dkv = kv then s
  else
    let s1 := s.onRec slot (fun r => { r with dist := { r.dist with dkv := kv, dctr := 0, dctrj := 0 } })
    let s2 := match s1.post slot with
      | some p => (s1.setPost { p with dkv := kv, dctr := 0, dctrj := 0 }).pinPost r.seed r.ident kv
      | none => s1
    s2.reserve slot

/-- What every authentic item leaves in its slot at stage 8 (R68, R104, R181, R186, R232, R260, R270, R286). -/
def State.noteAuth (s : State) (slot : Nat) (w : Work) : State :=
  let i := w.item
  let s1 := s.onRec slot (fun r => { (r.accept w.wide) with
    medium := i.medium, port := i.port, linkq := i.linkq, addr := w.addr, link := s.linkOf r i })
  let s2 := if w.authentic ∧ (s1.replyTo slot i.stamp).isNone then (s1.noteRadio slot i).unsolicited slot i else s1.noteRadio slot i
  let s3 := match s2.post slot with | some p => s2.setPost (p.route (s2.mrec slot)) | none => s2
  s3.newDkv slot w.keyver

/-- The strike rule (R108). -/
def State.strike (s : State) (slot code : Nat) : State :=
  let s1 := s.onRec slot (fun r => { r with strikes := min 255 (r.strikes + 1) })
  let r := s1.mrec slot
  let lim := s1.get F.METER_QCFG_STRIKES
  if lim ≠ 0 ∧ lim ≤ r.strikes ∧ 2 ≤ r.state ∧ r.state ≤ 4 then
    (s1.lifeTo slot 6 (.ag 4)).log 0x2032 [(4, slot), (1, code)] (.ag 5)
  else s1

/-- A legal queue entry written (R86, R87); a halted partition's entries are discarded (R123). -/
def State.toLegal (s : State) (e : LqEnt) : State :=
  if s.on F.BILL_STATUS_HALTED then s else { s with leg := { s.leg with queue := s.leg.queue ++ [e] } }

/-- Whether stage 8 waits for the legal queue (R87, R123). -/
def State.legalWaits (s : State) : Bool := s.lqFull && !s.on F.BILL_STATUS_HALTED

/-- The words of an item for the balance engine (two readings and what goes with them) and for DIST (a descriptor of an event body) in the
queues between engines and cores (R217). DESIGN CHOICE: queue 70 leads to the balance engine and 71 to DIST, with these sizes. -/
def handWords (id : Nat) : Nat := if id = 70 then pktWords 512 else pktWords 32

/-- Whether stage 8 waits for the queue to the balance engine or to DIST (R217): neither takes another packet. -/
def State.handWaits (s : State) : Bool :=
  decide (queueWords 70 < s.bal.inbox.length * handWords 70 + pktWords 1024) ||
  decide (queueWords 71 < s.dist.inbox.length * handWords 71 + pktWords 1024)

/-- What an authentic item that does not commit leaves at stage 8 (R65): its window, strikes, cut notice. -/
def State.notCommitted (s : State) (slot code : Nat) (w : Work) : State :=
  let st := (s.mrec slot).state
  let cut := w.lastgasp && decide (2 ≤ st) && decide (st ≤ 4)
  let s1 := if s.holds slot w.ident then s.noteAuth slot w else s
  let s2 := if cut then s1.toLegal (.cut s1.pipe.serN s1.time.dev slot w.item.stamp) else s1
  let s3 : State := if w.lastgasp then
    { s2 with bal := { s2.bal with gasps := s2.bal.gasps ++ [(slot, w.item.stamp)] } } else s2
  if (code = 0x70 ∨ code = 0x71) ∧ s3.holds slot w.ident = true ∧ (s3.mrec slot).profile ≠ 0 then s3.strike slot code else s3

/-- The slot's last committed reading that carried a total, since its commissioning. -/
def State.lastReading (s : State) (slot : Nat) : Option Reading :=
  let r := s.mrec slot
  if r.first then none
  else ((s.pipe.series.filter (fun e => e.slot == slot && decide (r.commT * nsS ≤ e.ct) &&
    (e.rd.imp.isSome || e.rd.exp.isSome))).getLast?).map (fun e => e.rd)

/-- A record with a reading committed (R86, R104, R105, R108). -/
def MRec.commit (r : MRec) (w : Work) (x : Reading) (ct : Nat) : MRec :=
  let gap := (w.wide - r.h - 1).toNat
  let kept := x.regs.foldl (fun l e => insertK e.1 e.2 l) r.kept
  let mask := x.regs.foldl (fun m e => setBit m (e.1 - 0x10 + 2) true) r.vmask
  let mask1 := if x.imp.isSome then setBit mask 0 true else mask
  { (r.accept w.wide).flag 3 false with
    imp := x.imp.getD r.imp, exp := x.exp.getD r.exp, kept := kept
    vmask := if x.exp.isSome then setBit mask1 1 true else mask1
    rt := x.rt, ct := ct, strikes := 0
    lost := min max32 (r.lost + gap)
    curA := (x.cur.getD (r.curA, r.curB, r.curC)).1
    curB := (x.cur.getD (r.curA, r.curB, r.curC)).2.1
    curC := (x.cur.getD (r.curA, r.curB, r.curC)).2.2
    tamper := x.tamper.getD r.tamper }

/-- Stage 8's indivisible step (R86): record, legal queue, balance engine, DIST, INTERVAL. -/
def State.commitItem (s : State) (slot : Nat) (w : Work) : State :=
  let r := s.mrec slot
  let x := w.reading.getD { rt := w.item.stamp }
  let ct := s.time.dev
  let s1 := s.setMrec slot (r.commit w x ct)
  let s2 := if w.authentic then s1.noteAuth slot w else s1.noteRadio slot w.item
  let e : SerEnt := ⟨s.pipe.serN, slot, w.wide.toNat, x, ct, w.item.stamp, w.lastgasp && w.authentic, r.kept, w.apdu, s.time.clk⟩
  let s3 := s2.toLegal (.reading e ⟨r.imp, r.exp, r.rt, r.vmask, r.kept⟩)
  let s4 : State := { s3 with
    pipe := { s3.pipe with series := s3.pipe.series ++ [e], serN := s3.pipe.serN + 1 }
    bal := { s3.bal with
      inbox := s3.bal.inbox ++ [⟨slot, (s.lastReading slot).map (fun p => p.rt), x, ct, ⟨r.imp, r.exp, r.rt, r.vmask, r.kept⟩, r.tamper,
        r.state == 2 || r.state == 3⟩]
      gasps := if w.lastgasp then s3.bal.gasps ++ [(slot, w.item.stamp)] else s3.bal.gasps }
    dist := if w.form = .gucor ∧ w.content = 3 then { s3.dist with inbox := s3.dist.inbox ++ [(slot, w.item.stamp, w.plain)] }
      else s3.dist }
  if r.state = 2 then s4.lifeTo slot 3 (.ag 4) else s4

/-- Stages 4 and 5 run again after a population change (R91): the outcome that ends the item, if one does, and the signature's algorithm
and result where one is verified. Items past stage 4 when the keys went finish their remaining stages (R74). -/
def State.rerun (s : State) (w : Work) (slot : Nat) : Option Nat × Option (Nat × Bool) :=
  let r := s.popOf slot
  match s.stage4 w r with
  | .out c => (some c, none)
  | .defer => (none, none)
  | .pass o =>
    let alg := w.alg r.profile
    if alg = 0 then (none, none)
    else match w.keyCheck r.pkey alg with
    | some c => (some c, none)
    | none =>
      let good := !sigRefused alg o.sig && sigVerify alg r.pkey o.signed o.sig
      (if good then none else some 0x50, some (alg, good))

/-- Whether stage 8 runs stages 4 and 5 again (R91): a population change has reached the slot that still holds the item's identity. -/
def State.reruns (s : State) (w : Work) (slot : Nat) : Bool :=
  !s.meter.lostRec.contains slot && s.holds slot w.ident && (lifeOutcome (s.mrec slot).state).isNone && (s.mrec slot).gen != w.recGen

/-- What stage 8 finds before it commits (R86, R91, R92): the outcome that ends the item, if one does; `again` is what stages 4 and 5 found
when they ran again. -/
def State.recheck8 (s : State) (w : Work) (slot : Nat) (again : Option Nat) : Option Nat :=
  let r := s.mrec slot
  if s.meter.lostRec.contains slot then some 0x80
  else if !s.holds slot w.ident then some 0x30
  else match lifeOutcome r.state with
  | some c => some c
  | none =>
    match again with
    | some c => some c
    | none => r.window w.wide

/-- COMMIT (R86 to R92, stage 8): it waits for earlier items of the slot and class, and for the legal queue. -/
def execCommit (seq : Nat) (s : State) : Out :=
  ok (if !s.on F.PIPE_CTRL_EN || s.on F.PWR_STATUS_WARN then s
  else match s.workOf seq with
  | none => s
  | some w =>
    let slot := w.slot.getD 0
    match w.outcome with
    | some c =>
      if 8 ≤ w.stage ∨ (w.lastgasp ∧ s.legalWaits) then s
      else if s.meter.lostRec.contains slot then s.setWork { w with stage := 8 }
      else (s.notCommitted slot c w).setWork { w with stage := 8 }
    | none =>
      let again := if s.reruns w slot then s.rerun w slot else (none, none)
      if w.stage ≠ 7 ∨ w.due.isSome = true ∨ s.blocked w = true ∨ s.legalWaits = true ∨ s.handWaits = true ∨
          (again.2.isSome && !s.burinRuns) = true then s
      else
      let s := match again.2 with | some (alg, good) => s.countSig alg good | none => s
      match s.recheck8 w slot again.1 with
      | some c =>
        -- an item that fails stage 4 under the new keys is no longer authentic, and one that fails stage 5 only where that
        -- stage is its protection
        let p := (s.mrec slot).profile
        let auth := if 0x41 ≤ c ∧ c < 0x50 then false else if 0x50 ≤ c ∧ c < 0x60 then authProfile p else w.authentic
        let w1 : Work := { w with stage := 8, authentic := auth && c != 0x30, outcome := some c }
        let s1 := s.finish w1 c 8
        if !w1.authentic then (s1.dropWork seq).finalise
        else if c = 0x80 then (s1.setWork w1).finalise
        else ((s1.notCommitted slot c w1).setWork w1).finalise
      | none =>
        let s1 := s.commitItem slot w
        ((s1.finish w w.notes 8).setWork { w with stage := 8, outcome := some w.notes }).finalise)

/-! ## Stage 9 -/

/-- The acknowledgement of an item (R64, R88). -/
def State.ackEnv (s : State) (w : Work) (code : Nat) : Bytes :=
  let rec_ := recBytes 6 (be 1 code ++ be 1 0)
  if w.enc then sealEnv w.key w.ident w.counter w.keyver 0x7F s.time.dev rec_
  else plainEnv w.ident w.counter w.keyver 0x7F s.time.dev rec_

/-- ACKNOWLEDGEMENT (R88, stage 9): an authentic Gucor item is answered at its medium and port in its class. -/
def execAcknowledgement (seq : Nat) (s : State) : Out :=
  ok (if !s.on F.PIPE_CTRL_EN then s
  else match s.workOf seq with
  | none => s
  | some w => match w.outcome with
    | none => s
    | some c =>
      if w.stage ≠ 8 then s
      else if w.form = .gucor ∧ w.authentic ∧ 1 ≤ w.content ∧ w.content ≤ 4 ∧ s.on F.PIPE_CTRL_ACK_EN then
        let slot := w.slot.getD 0
        let e := s.ackEnv w c
        let ch := if w.item.medium = 0 then w.item.port else 0
        let pk : EgPkt := { cls := w.item.cls, len := frameLen w.item.medium e.length, body := .down slot e, chan := ch }
        let s1 := if w.item.medium = 1 ∧ (s.mrec slot).sleeper then (s.sleepPut ⟨slot, true, pk⟩ false).1
          else s.enq (portOf w.item.medium w.item.port) pk .drop
        s1.dropWork seq
      else s.dropWork seq)

/-! ## Quarantine and counters -/

/-- QUARANTINE_EXPIRE (R96): the days of the entry of the least quarantine time are over; every entry whose days are over is deleted. -/
def execQuarantineExpire (s : State) : Out :=
  ok (match s.pipe.quar with
    | [] => s
    | q :: l =>
      let keep := s.get F.PIPE_QCFG_DAYS * 86400
      let s1 := s.advDev (((l.map (fun x => x.secs)).foldl min q.secs + keep) * nsS)
      let old := s1.pipe.quar.filter (fun x => decide (x.secs + keep ≤ s1.secs))
      (({ s1 with pipe := { s1.pipe with quar := s1.pipe.quar.filter (fun x => decide (s1.secs < x.secs + keep)) } } : State).discard 2
        ((old.map (fun x => 16 + x.item.len)).sum)).log 0x2040 [(4, old.length)] (.ag 4))

/-- What a write of PIPE_CNTCLR does: every PIPE_OCNT counter and the counters of R98 go to 0 at one instant. -/
def pipeClrAct : Act := fun _ _ v s =>
  if bit v 0 then
    let s1 := (List.range 256).foldl (fun (t : State) i => t.seti F.PIPE_OCNT_COUNT i 0) s
    let s2 := (List.range 3).foldl (fun (t : State) i => (t.seti F.BURIN_VCNT_COUNT i 0).seti F.BURIN_FCNT i 0) s1
    ((s2.set F.BURIN_BATCH 0).set F.BURIN_BFAIL 0).set F.BURIN_BPART 0
  else s

/-- PIPE_CNTCLR (R97, R98). -/
def execPipeCntclr (p : Port) (v : Word) (s : State) : Out :=
  ok (s.regWrite pipeClrAct p F.PIPE_CNTCLR_CLR.addr v.toNat).st

end Sys2Proof.Machine
end

