-- ==== Sys2Proof/Machine/Dist.lean ====
section
/-! DEFINITION. DIST (R180 to R201): curtailment, the resume budget, tariff pushes, campaigns, target reports; and XCLOSE (R304). -/

namespace Sys2Proof.Machine

/-! ## Envelopes of DIST -/

/-- The first class-0 packet that each egress port took since an earlier state is measured from the instant T (R204, R221). -/
def State.markPairs (old s : State) (t : Nat × Nat × Nat) : State :=
  (List.range 14).foldl (fun (x : State) p =>
    let id := 14 + 4 * p
    let n := (old.egq id).q.length
    let q := x.egq id
    match q.q[n]? with
    | some pk => x.setEgq { q with q := q.q.set n { pk with pairT := some t } }
    | none => x) s

/-- The record of a post's latest command sent: its counter is the one whose acknowledgement counts (R189, R190). -/
def State.postSent (s : State) (slot : Nat) (resume fresh : Bool) (c : Option Nat) : State :=
  match s.post slot with
  | none => s
  | some p => s.setPost { p with
      cmd := match c with | some x => some x | none => p.cmd
      resume := resume, waits := true, sentAt := s.time.clk
      left := if fresh then s.get F.DIST_CURT_RETRY else p.left }

/-- A CURTAIL or RESUME envelope sent to a post (R180, R181, R190): in class 0, or in class 1 for a command that was demoted (R202, R208). None is
sent in flat key mode or with CURT_EN clear (R201, R323). -/
def State.sendCmd (s : State) (slot : Nat) (resume fresh : Bool) : State :=
  match s.post slot with
  | none => s
  | some p =>
    let cls := b2n p.demoted
    if !s.on F.DIST_CTRL_CURT_EN then s.postSent slot resume fresh none
    else
      let (s1, c) := if resume then s.sendDown slot 0x32 cls 0x21 [] else s.sendDown slot 0x31 cls 0x20 (be 4 p.climit)
      s1.postSent slot resume fresh c

/-- Why a post is not acted on (R181, R182, R188, R192, R323): its status. -/
def State.postRefusal (s : State) (slot : Nat) (resume : Bool) : Option Nat :=
  match s.post slot with
  | none => some stNOTACTIVE
  | some p =>
    if s.on F.KEY_STATUS_FLAT || (s.seedOf p.seed).isNone then some stBADKEY
    else if !s.canSend slot then some stBADSTATE
    else if resume ∧ p.climit = max32 then some stNOTCURT
    else none

/-- The posts that a command names, in ascending handle order (R188): those of a group, or the slots listed. -/
def State.named (s : State) (group : Nat) (slots : List Nat) : List Nat :=
  if group = 255 then uniq (sortBy (fun a b => decide (a ≤ b)) slots)
  else (s.dist.posts.filter (fun p => bit p.groups group)).map (fun p => p.slot)

/-- Whether a command's group and slots are in range: either a group or slots (R188, R296). -/
def groupRange (group : Nat) (slots : List Nat) (most : Nat) : Bool :=
  decide (slots.length ≤ most) && slots.all (fun x => decide (x < 1048576)) &&
    (group == 255 || (decide (group ≤ 63) && slots.isEmpty))

/-- The response body that names the posts not acted on (R296), as many as one frame holds. -/
def refusedBody (r : Req) (l : List (Nat × Nat)) : Bytes :=
  let l := l.take ((1436 - r.ref.length - 4) / 8)
  be 2 l.length ++ zeros 2 ++ (l.map (fun x => be 4 x.1 ++ be 2 x.2 ++ zeros 2)).flatten

/-- The posts named and those refused, with their status. -/
def State.refusals (s : State) (l : List Nat) (resume : Bool) : List (Nat × Nat) :=
  l.filterMap (fun x => (s.postRefusal x resume).map (fun c => (x, c)))

/-! ## Curtailment (R188 to R191) -/

/-- One post curtailed (R188, steps 2 to 4). -/
def State.curtailOne (s : State) (demoted : Bool) (limit slot : Nat) : State :=
  let s1 := s.rqDrop slot
  match s1.post slot with
  | none => s1
  | some p =>
    (s1.setPost { p with climit := limit, curt := 1, demoted := demoted
                         refAt := s1.time.clk + s1.get F.DIST_CURT_REFRESH * nsS }).sendCmd slot false true

/-- CURTAIL (R188). -/
def execCurtail (r : Req) (limit group : Nat) (slots : List Nat) (s : State) : Out :=
  ok (hcpRun r 0x0300 (fun s =>
    if !groupRange group slots 64 then .no s stBADRANGE
    else if !s.on F.DIST_CTRL_CURT_EN then .no s stBADSTATE
    else
      let l := s.named group slots
      let no := s.refusals l false
      let act := l.filter (fun x => !no.any (fun y => y.1 == x))
      let s1 := act.foldl (fun t x => t.curtailOne r.outprof limit x) s
      let s2 := if r.outprof then s1 else s.markPairs s1 (s.port.c0At.getD (s.time.clk, 0, 0))
      { st := s2.log 0x5001 [(2, 0x0300), (4, l.length), (4, no.length)] (reqOrg r 8), body := refusedBody r no }) s)

/-- Whether a post waits in the resume queue. -/
def State.resuming (s : State) (slot : Nat) : Bool := s.dist.rq.contains slot

/-- The item of a post's acknowledgement opened under the pinned key v (R189): the records it carries. -/
def State.ackOpen (s : State) (p : Post) (e : Bytes) : Option (List (Nat × Bytes)) :=
  if !bit (beAt e 3 1) 0 then none
  else (s.meterKey p.seed p.ident p.dkv).bind (fun k =>
    let b := e.drop 36
    (gcmOpen k (sub e 4 12) (e.take 36) (b.take (b.length - 16)) (b.drop (b.length - 16))).map (fun pl =>
      (records (pl.length + 1) (pl.take (beAt e 32 2))).getD []))

/-- A class-0 item refused (R189). The cause's coding is not stated: a free value. -/
def State.c0Bad (s : State) (slot : Nat) : State :=
  let (v, s1) := (s.inc F.DIST_C0BAD).draw
  s1.log 0x5011 [(4, slot), (1, v % 256)] (.ag 8)

/-- A matching acknowledgement (R189): CURT 2, or for a RESUME CURT 0 without limit. The head-end is notified in class 0. -/
def State.acked (s : State) (p : Post) (c : Nat) (limit : Bytes) (t : Nat × Nat × Nat) : State :=
  let p1 := if p.resume then { p with curt := 0, climit := max32, waits := false }
    else { p with curt := 2, waits := false }
  let s1 := s.setPost p1
  s1.markPairs (s1.notify 1 0x8002 0 (be 4 p.slot ++ be 4 c ++ limit)) t

/-- CURTAIL_ACK (R189): the oldest class-0 item that stage 1 handed over. -/
def execCurtailAck (s : State) : Out :=
  ok (match s.pipe.distQ with
    | [] => s
    | i :: rest =>
      let q := ({ s with pipe := { s.pipe with distQ := rest } } : State).qTake 5 (s.pipe.distQ.map Item.len)
      let s1 := q.1
      match q.2, i.recognise (s.get F.PIPE_GUCOR_UDPPORT) with
      | .flush, _ => { s1 with pipe := { s1.pipe with distQ := [] } }
      | .fine, .gucor e _ =>
        match s1.dist.posts.find? (fun p => p.ident == beAt e 4 8) with
        | none => s1.c0Bad max32
        | some p => match s1.ackOpen p e with
          | none => s1.c0Bad p.slot
          | some recs => match recs.find? (fun x => x.1 == 0x92 && x.2.length == 8) with
            | some (_, v) =>
              if p.cmd = some (beAt v 0 4) then s1.acked p (beAt v 0 4) (v.drop 4)
                (s.time.clk - (s.time.dev - i.stamp) + i.dur, i.frame.length + (if i.medium = 2 then 4 else 0), 5) else s1
            | none => s1
      | _, _ => s1)

/-- CURT_ACK_TIMEOUT (R190): DIST_CURT.ACKMS pass without the acknowledgement: the envelope goes again, or CURT becomes 3. -/
def execCurtAckTimeout (slot : Nat) (s : State) : Out :=
  ok (match s.post slot with
    | none => s
    | some p =>
      if !p.waits then s
      else
        let s1 := s.advTo (p.sentAt + s.get F.DIST_CURT_ACKMS * 1000000)
        if 0 < p.left then (s1.setPost { p with left := p.left - 1 }).sendCmd slot p.resume false
        else (s1.setPost { p with waits := false, curt := 3 }).log 0x5010 [(4, slot)] (.ag 8))

/-- CURT_REFRESH (R190, R194): while CLIMIT is set a fresh envelope goes out every REFRESH seconds. -/
def execCurtRefresh (slot : Nat) (s : State) : Out :=
  ok (match s.post slot with
    | none => s
    | some p =>
      let n := s.get F.DIST_CURT_REFRESH
      if p.climit = max32 ∨ n = 0 then s
      else
        let s1 := s.advTo p.refAt
        (s1.setPost { p with refAt := s1.time.clk + n * nsS }).sendCmd slot p.resume true)

/-- POST_MIRROR_WRITE (R187): the mirror entry of a slot is written in one state-store write. -/
def execPostMirrorWrite (slot : Nat) (s : State) : Out :=
  ok (if s.dist.mdue.contains slot then s.mirrorWrite slot else s)

/-! ## Resume and the resume budget (R192 to R194) -/

/-- A post entered at a position drawn uniformly among those waiting (R192). -/
def State.rqEnter (demoted : Bool) (s : State) (slot : Nat) : State :=
  match s.post slot with
  | none => s
  | some p =>
    if s.resuming slot then s
    else
      let (v, s1) := s.draw
      let q := s1.dist.rq
      let i := v % (q.length + 1)
      let first := q.isEmpty
      let s2 : State := { s1 with dist := { s1.dist with
        rq := q.take i ++ slot :: q.drop i
        tokens := if first then 0 else s1.dist.tokens
        tokAt := if first then s1.time.clk else s1.dist.tokAt
        rqFrom := if first then s1.time.clk else s1.dist.rqFrom
        fullAt := if first then none else s1.dist.fullAt
        rqOut := if first then 0 else s1.dist.rqOut } }
      s2.setPost { p with curt := 4, demoted := demoted }

/-- RESUME (R192). -/
def execResumePosts (r : Req) (group : Nat) (slots : List Nat) (s : State) : Out :=
  ok (hcpRun r 0x0301 (fun s =>
    if !groupRange group slots 64 then .no s stBADRANGE
    else if !s.on F.DIST_CTRL_CURT_EN then .no s stBADSTATE
    else
      let l := s.named group slots
      let no := s.refusals l true
      let act := l.filter (fun x => !no.any (fun y => y.1 == x))
      let s1 := act.foldl (State.rqEnter r.outprof) s
      let s2 : State := if s1.dist.cur.isSome then s1
        else { s1 with dist := { s1.dist with cur := s1.dist.rq.head?, curAt := s1.time.clk } }
      { st := s2.log 0x5001 [(2, 0x0301), (4, l.length), (4, no.length)] (reqOrg r 8), body := refusedBody r no }) s)

/-- The step of a post in W (R193). DESIGN CHOICE: PMAX stands in the post table, which the class-0 path reads, and the mirror does not hold it:
of a post that comes from the mirror it counts as 0 until the meter store is rebuilt. -/
def State.stepOf (s : State) (p : Post) : Nat := (if p.pmax = 0 then s.get F.DIST_RESDEF_W else p.pmax) - p.climit

/-- The tokens accrued by an elapsed time, in W·ns (R193). -/
def State.tokensAt (s : State) (t : Nat) : Nat := s.dist.tokens + s.get F.DIST_RESUME_KWPS * 1000 * (t - s.dist.tokAt)

/-- RESUME_RELEASE (R193): once the tokens cover the awaited post's step and the drawn delay has passed, its RESUME envelope
goes out and it leaves the queue. -/
def execResumeRelease (s : State) : Out :=
  ok (match s.dist.cur.bind s.post with
    | none => s
    | some p =>
      if !s.on F.DIST_CTRL_CURT_EN then s
      else
        let b := s.get F.DIST_RESUME_KWPS * 1000
        let need := s.stepOf p * nsS
        let full := max s.dist.curAt (s.dist.fullAt.getD (s.dist.tokAt + (need - s.dist.tokens + b - 1) / b))
        let (v, s0) := s.draw
        let s1 := s0.advTo (full + v % (s.get F.DIST_RESUME_JITTER * 1000000 + 1))
        let q := s1.dist.rq.filter (fun x => x != p.slot)
        let s2 : State := { s1 with dist := { s1.dist with
          rq := q, cur := q.head?, curAt := s1.time.clk, fullAt := none, tokens := s1.tokensAt s1.time.clk - need, tokAt := s1.time.clk, rqOut := s1.dist.rqOut + 1 } }
        let s3 := (s2.setPost { p with curt := 1 }).sendCmd p.slot true true
        let s4 := s2.markPairs s3 (s3.time.clk, 0, 0)
        if q.isEmpty then s4.rqEmptied else s4)

/-! ## Groups (R187) -/

/-- GROUP (R187, R296). -/
def execGroup (r : Req) (g op : Nat) (slots : List Nat) (s : State) : Out :=
  ok (hcpRun r 0x0302 (fun s =>
    if 63 < g ∨ 2 < op ∨ 256 < slots.length ∨ slots.any (fun x => decide (1048576 ≤ x)) then .no s stBADRANGE
    else if op ≠ 2 ∧ slots.any (fun x => (s.post x).isNone) then .no s stNOTACTIVE
    else if op ≠ 2 ∧ slots.any (fun x => !s.canSend x) then .no s stBADSTATE
    else
      let who := if op = 2 then (s.dist.posts.filter (fun p => bit p.groups g)).map (fun p => p.slot) else slots
      { st := who.foldl (fun t x => match t.post x with
          | some p => t.setPost { p with groups := setBit p.groups g (op == 0) }
          | none => t) s }) s)

/-! ## Tariff pushes (R195) -/

/-- The segments of a calendar image: offset and bytes; by radio at most 176 B (R180, R257). -/
def segments (n ofs : Nat) : Nat → Bytes → List (Nat × Bytes)
  | 0, _ => []
  | k + 1, b => if b = [] then [] else (ofs, b.take n) :: segments n (ofs + n) k (b.drop n)

/-- A calendar image sent to a slot in CALSEG envelopes, in ascending offset (R195). -/
def State.sendCal (s : State) (slot calid : Nat) (image : Bytes) : State :=
  let n := if (s.slotPort slot).1 = 1 then 176 else 1024
  (segments n 0 (image.length + 1) image).foldl (fun (t : State) x =>
    (t.sendDown slot 0x40 3 0x22 (be 4 calid ++ be 2 image.length ++ be 2 x.1 ++ x.2)).1) s

/-- The CALID of a calendar image (R136: its bytes 4 to 7). -/
def calidOf (image : Bytes) : Nat := match parseCal image with | some c => c.calid | none => 0

/-- A push to a slot begun (R195): it replaces an earlier one. -/
def State.pushTo (s : State) (calid : Nat) (image : Bytes) (slot : Nat) : State :=
  let s1 := s.onRec slot (fun r => { r with dist := { r.dist with pstate := 1, pcalid := calid } })
  let rest := s1.dist.pushes.filter (fun x => x.slot != slot)
  let s2 : State := { s1 with dist := { s1.dist with
    pushes := rest ++ [⟨slot, image, s1.get F.DIST_PUSH_RETRY, s1.time.clk⟩] } }
  s2.sendCal slot calid image

/-- The slots that a group or a list of kind 5 names: none where the handle is no such list. -/
def State.targetsOf (s : State) (r : Req) (group handle : Nat) : Except Nat (List Nat × Option Xfer) :=
  if group = 255 then
    if 15 < handle then .error stBADRANGE
    else match s.closedXfer r handle 5 with
      | none => .error stBADXFER
      | some x =>
        let l := uniq (sortBy (fun a b => decide (a ≤ b)) (slotList (x.image.length + 1) x.image))
        if l.any (fun y => decide (1048576 ≤ y)) then .error stBADRANGE else .ok (l, some x)
  else if 63 < group ∨ handle ≠ 255 then .error stBADRANGE
  else .ok (s.named group [], none)

/-- PUSHCAL (R195). -/
def execPushcal (r : Req) (scheme which group handle : Nat) (s : State) : Out :=
  ok (hcpRun r 0x0201 (fun s =>
    if 1023 < scheme ∨ 1 < which then .no s stBADRANGE
    else if !s.on F.DIST_CTRL_PUSH_EN then .no s stBADSTATE
    else match s.targetsOf r group handle with
    | .error c => .no s c
    | .ok (l, x) =>
      let cs := s.calSet scheme
      match (if which = 0 then cs.active else cs.passive) with
      | none => .no s stNOTFOUND
      | some c =>
        if l.any (fun y => (s.mrec y).state == 0 || !s.canSend y) then .no s stBADSTATE
        else
          let s1 := l.foldl (fun t y => t.pushTo c.calid c.image y) s
          { st := match x with | some f => s1.dropXfer f | none => s1 }) s)

/-- PUSH_RETRY (R195): RETRYMIN minutes pass without an answer. -/
def execPushRetry (slot : Nat) (s : State) : Out :=
  ok (match s.dist.pushes.find? (fun x => x.slot == slot) with
    | none => s
    | some p =>
      if !s.on F.DIST_CTRL_PUSH_EN then s
      else
      let s1 := s.advTo (p.at_ + s.get F.DIST_PUSH_RETRYMIN * 60 * nsS)
      let rest := s1.dist.pushes.filter (fun x => x.slot != slot)
      let id := (s1.mrec slot).dist.pcalid
      if p.left = 0 then
        (({ s1 with dist := { s1.dist with pushes := rest } } : State).onRec slot (fun r =>
          { r with dist := { r.dist with pstate := 4 } })).log 0x5030 [(4, slot), (4, id)] (.ag 8)
      else
        ({ s1 with dist := { s1.dist with pushes := rest ++ [{ p with left := p.left - 1, at_ := s1.time.clk }] } } : State).sendCal
          slot id p.image)

/-! ## Campaigns (R196 to R200) -/

/-- A campaign's instants refused as too soon (R196). -/
def State.taSoon (s : State) (ta : Nat) : Bool := decide (ta * nsS < s.time.dev + s.get F.DIST_CAMP_ARMLEAD * 60 * nsS)

/-- The instant at which a campaign is armed. -/
def State.armAt (s : State) (ta : Nat) : Nat := (ta - s.get F.DIST_CAMP_ARMLEAD * 60) * nsS

/-- The lowest campaign number not in use. -/
def State.freeCamp (s : State) : Nat := ((List.range 16).find? (fun n => !s.openCamps.any (fun c => c.n == n))).getD 0

/-- CAMPDEF (R196). -/
def execCampdef (r : Req) (tag size block group handle version : Nat) (sha : Bytes) (ta : Nat) (s : State) : Out :=
  ok (hcpRun r 0x0310 (fun s =>
    if size = 0 ∨ 16777216 < size ∨ !([128, 256, 512, 1024].contains block) then .no s stBADRANGE
    else if !s.on F.DIST_CTRL_CAMP_EN then .no s stBADSTATE
    else match s.targetsOf r group handle with
    | .error c => .no s c
    | .ok (l, x) =>
      if 16 ≤ s.openCamps.length ∨ l.any (fun t => (s.mrec t).state != 0 && (s.mrec t).dist.camp != 255) then .no s stBUSY
      else if l.any (fun t => !((s.mrec t).state == 2 || (s.mrec t).state == 3) || !s.canSend t) then .no s stBADSTATE
      else if s.taSoon ta then .no s stBADTIME
      else if s.agFull then .no (s.agRefuse 8) stBUSY
      else
        let n := s.freeCamp
        let c : Camp := { n, tag, size, block, version, sha, ta, targets := l, state := 0 }
        let s1 : State := { s with dist := { s.dist with camps := s.dist.camps.filter (fun y => y.n != n) ++ [c] } }
        let s2 := l.foldl (fun (t : State) y => t.onRec y (fun r => { r with dist := { r.dist with
          camp := n, cstate := 0, aslot := 0, missing := 0 } })) s1
        let s3 := (s2.setCampState n 1).agAdd (s.armAt ta) (.campArm n)
        { st := match x with | some f => s3.dropXfer f | none => s3
          body := be 1 n ++ zeros 3 }) s)

/-- A campaign command on a campaign number: range, then presence. -/
def campCmd (n : Nat) (s : State) (f : Camp → HRes) : HRes :=
  if 15 < n then .no s stBADRANGE
  else match s.camp n with
    | none => .no s stNOTFOUND
    | some c => f c

/-- The FWOFFER of a campaign (R180). -/
def Camp.offer (c : Camp) : Bytes :=
  be 4 c.tag ++ be 4 c.size ++ be 2 c.block ++ zeros 2 ++ be 4 c.blocks ++ be 4 c.version ++ fit 32 c.sha

/-- CAMPSTART (R197, step 1; R257). -/
def execCampstart (r : Req) (camp : Nat) (s : State) : Out :=
  ok (hcpRun r 0x0311 (fun s => campCmd camp s (fun c =>
    if c.state ≠ 1 ∨ !c.got ∨ !s.on F.DIST_CTRL_CAMP_EN then .no s stBADSTATE
    else
      let s1 := c.targets.foldl (fun (t : State) y => ((t.sendDown y 0x50 3 0x23 c.offer).1).setCstate y 1) s
      let radio := decide (c.block ≠ 128) && c.targets.any (fun y => (s.slotPort y).1 == 1)
      let s2 := if radio then s1.log 0x6112 [(1, camp)] (.ag 11) else s1
      { st := s2.setCampState camp 3 })) s)

/-- Whether the blocks of a campaign reach a target by its medium (R257). -/
def State.blockable (s : State) (c : Camp) (y : Nat) : Bool := (s.slotPort y).1 != 1 || c.block == 128

/-- Whether multicast counts on a target (R197): not on a sleeper. -/
def State.multicastable (s : State) (c : Camp) (y : Nat) : Bool := s.blockable c y && !(s.mrec y).sleeper

/-- A block of a campaign. -/
def Camp.blk (c : Camp) (b : Nat) : Bytes := sub c.image (b * c.block) c.block

/-- The channel on which a target last spoke (R197): a power-line receive channel, counted from 16, or an egress port. -/
def State.slotPlace (s : State) (slot : Nat) : Nat :=
  let (m, p) := s.slotPort slot
  if m = 0 then 16 + s.slotChan slot else p

/-- The identity of a campaign's multicast frames (R197): MFR and DEVTYPE of its targets, SERIAL 0xFFFF_FFFF. DESIGN CHOICE: the first target
gives them, and IDVER. -/
def State.campIdent (s : State) (c : Camp) : Nat :=
  let i := (c.targets.head?.map (fun y => (s.mrec y).ident)).getD 0
  i / 2 ^ 48 * 2 ^ 48 + max32 * 2 ^ 16 + i % 65536

/-- The FWBLOCK envelope of a multicast block (R180, R197): ENC 0. DESIGN CHOICE: COUNTER is the block index and KEYVER 0. -/
def State.blockEnv (s : State) (c : Camp) (b : Nat) : Bytes :=
  plainEnv (s.campIdent c) b 0 0x51 s.time.dev (recBytes 0x24 (be 4 c.tag ++ be 4 b ++ c.blk b))

/-- A Gucor envelope in a wireless M-Bus frame (R256), from the L-field on: `ctl` is the C-field. PRESUMED: the L-field of format B counts its CRC
fields and that of format A does not, as in EN 13757-4. -/
def wmbWrap (ctl ident : Nat) (fmtB : Bool) (env : Bytes) : Bytes :=
  let i := be 8 ident
  let crc := if !fmtB then 0 else if env.length ≤ 115 then 2 else 4
  be 1 (10 + env.length + crc) ++ be 1 ctl ++ (sub i 0 2).reverse ++ (sub i 2 4).reverse ++ sub i 6 2 ++ be 1 0xA0 ++ env

/-- The frame that carries a packet on its medium (R256, R279, R286, R297): an envelope goes by UDP to the slot's ADDR at PIPE_GUCOR.UDPPORT, an opaque
frame to port 4059, and by radio in a wireless M-Bus frame. DESIGN CHOICE: the source port is the destination port. -/
def State.outFrame (s : State) (p : Nat) (pk : EgPkt) : Bytes :=
  let to_ := fun (slot port : Nat) (b : Bytes) =>
    let (addr, mac) := match s.post slot with
      | some x => (x.addr, (s.mrec slot).link.mac)
      | none => ((s.mrec slot).addr, (s.mrec slot).link.mac)
    let own := if p < 2 then (if s.upIp p = 0 then linkLocal (upMac p) else s.upIp p)
      else if 10 ≤ p then 0xFE80 * 2 ^ 112 + 0xFFFE * 2 ^ 24 else linkLocal (upMac p)
    let d := udp6 own (ofBe (fit 16 addr)) port port b
    if 2 ≤ p ∧ p < 10 then fit 6 mac ++ be 6 (upMac p) ++ be 2 0x86DD ++ d else d
  match pk.body with
  | .down slot env =>
    if p = 13 then
      let ident := match s.post slot with | some x => x.ident | none => (s.mrec slot).ident
      let mode := match s.post slot with | some x => x.mode | none => (s.mrec slot).radio.mode
      wmbWrap 0x53 ident (mode == 2 && s.on F.RADIO_CTRL_CFMT) env
    else to_ slot (s.get F.PIPE_GUCOR_UDPPORT) env
  | .relay slot f => if p = 13 then f else to_ slot 4059 f
  | .block _ _ f => f
  | .hcp a sport _ f =>
    udp6 (if s.upIp p = 0 ∨ a / 2 ^ 118 = 0x3FA then linkLocal (upMac p) else s.upIp p) a (s.geti F.UPLINK_HCP_UDPPORT p) sport f
  | .link _ _ f => f
  | .ptp _ m => m
  | .ip _ x => x
  | .mpkt _ => []

/-- A multicast block as it goes onto a channel (R197, R256): a wireless M-Bus frame of CI-field 0xA0, or a UDP datagram to ff02::1 at
PIPE_GUCOR.UDPPORT, on 10BASE-T1S in its Ethernet frame. DESIGN CHOICE: the source port is the same, and on power-line the source address
that of the coordinator's short address 0. -/
def State.blockFrame (s : State) (c : Camp) (q b : Nat) : Bytes :=
  let e := s.blockEnv c b
  let port := s.get F.PIPE_GUCOR_UDPPORT
  let all := 0xFF02 * 2 ^ 112 + 1
  if q = 13 then wmbWrap 0x44 (s.campIdent c) false e
  else if 16 ≤ q then udp6 (0xFE80 * 2 ^ 112 + 0xFFFE * 2 ^ 24) all port port e
  else be 6 0x333300000001 ++ be 6 (upMac q) ++ be 2 0x86DD ++ udp6 (linkLocal (upMac q)) all port port e

/-- A block multicast on a channel (R197): class 3. -/
def State.mcast (s : State) (c : Camp) (q b : Nat) : State :=
  let f := s.blockFrame c q b
  s.enq (if 16 ≤ q then 10 + (q - 16) / 2 else q)
    { cls := 3, len := f.length + (if q < 13 then 4 else 0), body := .block c.n b f, chan := q - 16 } .wait

/-- The channels on which accepted targets last spoke. -/
def State.campPorts (s : State) (c : Camp) : List Nat :=
  uniq (sortBy (fun a b => decide (a ≤ b)) ((c.targets.filter (fun y =>
    (s.cstate y == 2 || s.cstate y == 3) && s.multicastable c y)).map (fun y => s.slotPlace y)))

/-- The repair of one block (R197, step 4): multicast on each channel where MCMIN targets miss it, unicast to the others. -/
def State.repair (s : State) (c : Camp) (b : Nat) : State :=
  let who := (c.miss.filter (fun m => m.2.contains b && c.targets.contains m.1 && s.blockable c m.1)).map (fun m => m.1)
  (uniq (who.map (fun y => s.slotPlace y))).foldl (fun (t : State) p =>
    let here := who.filter (fun y => s.slotPlace y == p)
    -- a sleeper is reached in its windows alone
    let many := decide (s.get F.DIST_CAMP2_MCMIN ≤ (here.filter (fun y => s.multicastable c y)).length)
    (here.filter (fun y => !many || !s.multicastable c y)).foldl (fun (u : State) y => (u.sendDown y 0x51 3 0x24 (be 4 c.tag ++ be 4 b ++ c.blk b)).1) (if many then t.mcast c p b else t)) s

/-- CAMP_ROUND (R197, steps 3 and 4): a multicast round, or after the rounds a repair and a query. -/
def execCampRound (camp : Nat) (s : State) : Out :=
  ok (match s.camp camp with
    | none => s
    | some c =>
      if (c.state ≠ 3 ∧ c.state ≠ 4) ∨ c.armed ∨ !s.on F.DIST_CTRL_CAMP_EN then s
      else if c.rounds < s.get F.DIST_CAMP_ROUNDS then
        let ps := s.campPorts c
        ((List.range c.blocks).foldl (fun t b => ps.foldl (fun u p => u.mcast c p b) t) s).setCamp { c with rounds := c.rounds + 1 }
      else
        let bs := uniq (sortBy (fun a b => decide (a ≤ b)) ((c.miss.map (fun m => m.2)).flatten))
        let s1 := bs.foldl (fun t b => t.repair c b) s
        let ask := c.targets.filter (fun y => s.cstate y == 2 || s.cstate y == 3)
        let s2 := ask.foldl (fun (t : State) y =>
          (t.sendDown y 0x53 3 0x26 (be 4 c.tag ++ be 4 ((lookupK y c.ask).getD 0))).1) s1
        s2.setCamp { c with miss := [] })

/-- The complete targets of one node in handle order, each with its slot index (R198). -/
def State.armList (s : State) (c : Camp) : List (Nat × Nat) :=
  let full := c.targets.filter (fun y => s.cstate y == 4)
  let nodes := uniq (full.map (fun y => (s.mrec y).node))
  (nodes.map (fun n =>
    let l := full.filter (fun y => (s.mrec y).node == n)
    l.zip ((List.range l.length).map (fun k => k / s.get F.DIST_CAMP_CAP)))).flatten

/-- CAMP_ARM (R197 to R199, step 6): the arming instant of a running campaign comes. -/
def execCampArm (camp : Nat) (s : State) : Out :=
  ok (match s.takeDue (.campArm camp), s.camp camp with
    | some s1, some c =>
      if c.state ≠ 3 ∨ c.armed ∨ !s1.on F.DIST_CTRL_CAMP_EN then s1
      else if !s1.on F.TIME_STATUS_TRUSTED then (s1.setCampState camp 4).log 0x5022 [(1, camp)] (.ag 8)
      else
        let l := s1.armList c
        let inst := fun (k : Nat) => c.ta + k * s1.get F.DIST_CAMP_ACTSLOT
        let s2 := l.foldl (fun (t : State) x =>
          ((t.sendDown x.1 0x52 3 0x25 (be 4 c.tag ++ zeros 4 ++ be 8 (inst x.2))).1).onRec x.1 (fun r =>
            { r with dist := { r.dist with cstate := 5, aslot := x.2 } })) s1
        let out := c.targets.filter (fun y => s1.cstate y != 4 && s1.cstate y != 9)
        let s3 := out.foldl (fun (t : State) y => t.setCstate y 8) s2
        (s3.setCamp { c with armed := true, arms := l.map (fun x => (x.1, inst x.2)) }).campDone camp
    | _, _ => s)

/-- CAMP_CONFIRM_TIMEOUT (R197, step 8). -/
def execCampConfirmTimeout (slot : Nat) (s : State) : Out :=
  ok (match s.dist.camps.find? (fun c => c.armed && c.targets.contains slot && decide (c.state < 5)) with
    | none => s
    | some c => match lookupK slot c.arms with
      | some t =>
        if s.cstate slot ≠ 5 then s
        else ((s.advDev ((t + s.get F.DIST_CAMP2_CONFIRM * 60) * nsS)).setCstate slot 7).campDone c.n
      | none => s)

/-- CAMPTIME (R199): a new common instant; a held campaign runs again. -/
def execCamptime (r : Req) (camp ta : Nat) (s : State) : Out :=
  ok (hcpRun r 0x0312 (fun s => campCmd camp s (fun c =>
    if 5 ≤ c.state ∨ c.armed then .no s stBADSTATE
    else if s.taSoon ta then .no s stBADTIME
    else
      let s1 := (s.agDrop (.campArm camp)).undue (.campArm camp)
      if s1.agFull then .no (s.agRefuse 8) stBUSY
      else
        let s2 := (s1.setCamp { c with ta := ta }).agAdd (s.armAt ta) (.campArm camp)
        { st := if c.state = 4 then s2.setCampState camp 3 else s2 })) s)

/-- CAMPABORT (R200). -/
def execCampabort (r : Req) (camp : Nat) (s : State) : Out :=
  ok (hcpRun r 0x0313 (fun s => campCmd camp s (fun c =>
    if 5 ≤ c.state then .no s stBADSTATE
    else
      let s1 := (c.targets.filter (fun y => s.cstate y == 5)).foldl (fun (t : State) y =>
        (t.sendDown y 0x52 3 0x25 (be 4 c.tag ++ zeros 12)).1) s
      let s2 := match s1.port.xfers.find? (fun x => x.kind == 2 && x.target == camp) with
        | some x => s1.dropXfer x
        | none => s1
      { st := s2.endCamp camp 6 })) s)

/-- DIST_CINFO of a campaign. -/
def Camp.info (c : Camp) : Nat := c.state + 16384 * c.blocks

/-- CAMPREAD (R296). -/
def execCampread (r : Req) (camp : Nat) (s : State) : Out :=
  ok (hcpRun r 0x0314 (fun s => campCmd camp s (fun c =>
    { st := s, changed := false
      body := be 4 c.info ++ be 4 c.tag ++ be 4 c.targets.length ++ be 4 c.have_.length ++ be 4 c.done.length })) s)

/-- What a write of DIST_CSEL does (R201): the campaign is copied at one instant. -/
def distCselAct : Act := fun _ _ _ s =>
  let c := s.camp (s.get F.DIST_CSEL_CAMP)
  let v := fun (f : Camp → Nat) => (c.map f).getD 0
  (((((s.set F.DIST_CINFO_STATE (v (fun c => c.state))).set F.DIST_CINFO_BLOCKS (v Camp.blocks)).set F.DIST_CTAG
    (v (fun c => c.tag))).set F.DIST_CTGT (v (fun c => c.targets.length))).set F.DIST_CHAVE (v (fun c => c.have_.length))).set
    F.DIST_CDONE (v (fun c => c.done.length))

/-- DIST_CSEL (R201). -/
def execDistCsel (p : Port) (v : Word) (s : State) : Out :=
  ok (s.regWrite distCselAct p F.DIST_CSEL_CAMP.addr v.toNat).st

/-! ## Target reports (R185, R195, R197) -/

/-- An answer to a push (R195): PSTATE 2 or 3. -/
def State.calReport (s : State) (slot : Nat) (v : Bytes) : State :=
  if v.length ≠ 6 ∨ beAt v 0 4 ≠ (s.mrec slot).dist.pcalid ∨ (s.mrec slot).dist.pstate = 0 ∨ 1 < beAt v 4 1 then s
  else
    let s1 : State := { s with dist := { s.dist with pushes := s.dist.pushes.filter (fun x => x.slot != slot) } }
    s1.onRec slot (fun r => { r with dist := { r.dist with pstate := 2 + beAt v 4 1 } })

/-- The blocks that a bitmap shows missing. -/
def missingOf (first blocks : Nat) (b : Bytes) : List Nat :=
  ((List.range (8 * b.length)).filter (fun i =>
    decide (first + i < blocks) && !bit (beAt b (i / 8) 1) (i % 8))).map (fun i => first + i)

/-- A target's bitmap taken (R184, R197): its missing blocks, and where the next query begins. -/
def State.takeBitmap (s : State) (c : Camp) (slot first : Nat) (b : Bytes) : State :=
  let m := missingOf first c.blocks b
  let next := match m.head? with | some x => x | none => if first + 8 * b.length < c.blocks then first + 8 * b.length else 0
  let s1 := s.onRec slot (fun r => { r with dist := { r.dist with missing := min 65535 m.length } })
  s1.setCamp { c with miss := insertK slot m c.miss, ask := insertK slot next c.ask }

/-- A campaign report of a target (R185, R197, steps 2, 5, 7 and 8). -/
def State.fwReport (s : State) (slot : Nat) (v : Bytes) : State :=
  match s.camp (s.mrec slot).dist.camp with
  | none => s
  | some c =>
    if v.length < 12 ∨ 140 < v.length ∨ beAt v 0 4 ≠ c.tag ∨ !c.targets.contains slot ∨ 5 ≤ c.state then s
    else
      let st := beAt v 4 1
      let cs := s.cstate slot
      let early := decide (1 ≤ cs) && decide (cs ≤ 4) && !c.armed
      let s1 := if early && 12 < v.length then s.takeBitmap c slot (beAt v 8 4) (v.drop 12) else s
      let c1 := (s1.camp c.n).getD c
      if st = 0 ∧ early then s1.setCstate slot 9
      else if st = 1 ∧ cs = 1 ∧ !c.armed then s1.setCstate slot 2
      else if st = 2 ∧ early then
        (s1.setCamp { c1 with have_ := if c1.have_.contains slot then c1.have_ else slot :: c1.have_
                              miss := eraseK slot c1.miss }).setCstate slot 4
      else if st = 3 ∧ early then s1.setCstate slot 3
      else if st = 4 ∧ cs = 5 then
        let s2 := ((s1.setCamp { c1 with done := slot :: c1.done }).setCstate slot 6).campDone c.n
        match s2.post slot with
        | some p => if p.climit = max32 then s2 else s2.sendCmd slot false true
        | none => s2
      else if st = 5 ∧ cs = 5 then (s1.setCstate slot 7).campDone c.n
      else s1

/-- TARGET_REPORT (R185): the oldest event body that stage 8 handed over waits in DIST's queue (R216, R217). -/
def execTargetReport (s : State) : Out :=
  ok (match s.dist.inbox with
    | [] => s
    | (slot, _, payload) :: rest =>
      match ({ s with dist := { s.dist with inbox := rest } } : State).qTake 71 (s.dist.inbox.map (fun _ => 32)) with
      | (s1, .flush) => { s1 with dist := { s1.dist with inbox := [] } }
      | (s1, .discard) => s1
      | (s1, .fine) =>
      ((records (payload.length + 1) payload).getD []).foldl (fun (t : State) x =>
        if x.1 = 0x90 then t.calReport slot x.2 else if x.1 = 0x91 then t.fwReport slot x.2 else t) s1)

/-! ## XCLOSE (R304) -/

/-- The notification of a transfer's verification (R300). -/
def State.xferNotice (s : State) (x : Xfer) (status : Nat) : State :=
  s.notify 4 0x8005 2 (be 1 x.handle ++ be 1 x.kind ++ zeros 2 ++ be 2 status ++ zeros 2)

/-- A campaign's image fails its digest (R196): the campaign ends as FAILED. -/
def State.imageBad (s : State) (n : Nat) : State := (s.log 0x5021 [(1, n)] (.ag 8)).endCamp n 7

/-- A campaign image taken (R196): a mismatch with CAMPDEF's digest ends the campaign as FAILED. -/
def State.takeImage (s : State) (x : Xfer) : State :=
  let s1 : State := { s with port := { s.port with xfers := s.port.xfers.filter (fun y => y.handle != x.handle) } }
  match s1.camp x.target with
  | none => s1
  | some c =>
    if sha256 x.image = c.sha then ((s1.setCamp { c with image := x.image, got := true }).setCampState c.n 1).xferNotice x stOK
    else ((s1.imageBad c.n).discard 3 x.size).xferNotice x stBADHASH

end Sys2Proof.Machine
end

