-- ==== Sys2Proof/Machine/Clocks.lean ====
section
/-! DEFINITION. Clock domains and timing signals (R442 to R446). -/

namespace Sys2Proof.Machine

/-- The domains with a PLL that locks to the reference (R446). -/
def hasPll (d : Dom) : Bool := decide (domIx d ≤ 8)

/-- A domain of an index of CLK_STATUS.RUN. -/
def domOf (n : Nat) : Option Dom :=
  [Dom.SYS, .DDR, .NAND, .UPL, .PTP, .PLC, .RF, .T1S, .DISP, .MAINS, .AON, .SVC][n]?

/-- An access that waits for a domain (R443): whether it stalled longer than 10 µs is free, the times of R442 being the longest. -/
def State.stall (s : State) (d : Dom) : State :=
  if d = .AON ∨ (s.stopCond d = true ∧ s.runs d = false) then
    let (n, s1) := s.draw
    if n % 2 = 1 then s1.inc F.CLK_STALLS else s1
  else s

/-- DOMAIN_WAKE (R444, R445): an access reaches a stopped domain, which runs within its wake latency. -/
def execDomainWake (d : Dom) (s : State) : Out := ok ((s.stall d).wake d)

/-- DOMAIN_STOP (R442, R444): the stop condition holds, and CLK_IDLE.MS has passed since the last access that woke the domain. -/
def execDomainStop (d : Dom) (s : State) : Out :=
  ok (if !s.stopCond d || !s.runs d then s
  else
    let s1 := match s.pwr.woken.find? (fun x => x.1 == d) with
      | some (_, t) => s.advTo (t + s.get F.CLK_IDLE_MS * 1000000)
      | none => s
    { (s1.set F.CLK_STATUS_RUN (setBit (s1.get F.CLK_STATUS_RUN) (domIx d) false)) with
      pwr := { s1.pwr with woken := s1.pwr.woken.filter (fun x => x.1 != d) } })

/-- A domain fails to run within twice its wake latency (R445); the access that waits for it is refused. -/
def State.wakeFails (s : State) (d : Dom) : State :=
  let s1 : State := { s.set F.CLK_STATUS_WAKEERR 1 with pwr := { s.pwr with wakeBad := d :: s.pwr.wakeBad.filter (fun x => x != d) } }
  s1.log 0x0106 [(1, domIx d)] (.ag 21)

/-- An access reaches a domain (R443 to R446), and whether it is refused: the domain failed to run for it, or a lost PLL holds the domain
stopped; else it is woken where it stands still. -/
def State.reach (s : State) (d : Dom) : State × Bool :=
  let s1 := if s.pwr.noPll.contains d && !s.pwr.wakeBad.contains d then s.wakeFails d else s
  if s1.pwr.wakeBad.contains d then ({ s1 with pwr := { s1.pwr with wakeBad := s1.pwr.wakeBad.filter (fun x => x != d) } }, true)
  else ((s1.stall d).wake d, false)

/-- WAKE_FAIL (R445). -/
def execWakeFail (d : Dom) (s : State) : Out := ok (if s.runs d then s else s.wakeFails d)

/-- A PLL loses lock (R446): event 0x0106, and its domain is held stopped. -/
def State.pllLose (s : State) (d : Dom) : State :=
  if !hasPll d || s.pwr.noPll.contains d then s
  else
    let s1 := (s.set F.CLK_STATUS_PLLOK 0).set F.CLK_STATUS_RUN (setBit (s.get F.CLK_STATUS_RUN) (domIx d) false)
    ({ s1 with pwr := { s1.pwr with noPll := d :: s1.pwr.noPll } } : State).log 0x0106 [(1, domIx d)] (.ag 21)

/-- PLL_UNLOCK (R446). -/
def execPllUnlock (d : Dom) (s : State) : Out := ok (s.pllLose d)

/-- PLL_RELOCK (R446, R458): the domain runs again unless its stop condition holds; a forced loss stays until its occurrence ends. -/
def execPllRelock (d : Dom) (s : State) : Out :=
  ok (if !s.pwr.noPll.contains d || s.forces 30 (domIx d) then s
  else
    let rest := s.pwr.noPll.filter (fun x => x != d)
    let s1 := ({ s with pwr := { s.pwr with noPll := rest } } : State).set F.CLK_STATUS_PLLOK (b2n rest.isEmpty)
    if s1.stopCond d then s1 else s1.set F.CLK_STATUS_RUN (setBit (s1.get F.CLK_STATUS_RUN) (domIx d) true))

/-- PPS_OUT (R446, R479): high for 100 ms after each rise. -/
def State.ppsOut (s : State) : Bool :=
  s.on F.CLK_IO_PPSOUT && s.time.pps == some s.secs && decide (s.nanos < 100000000)

/-- CLK10M_OUT (R446): the last rising edge in device time, aligned to PPS_OUT; none while it is not driven. -/
def State.clk10mEdge (s : State) : Option Nat :=
  if s.on F.CLK_IO_TENOUT && s.runs .PTP then some (s.time.dev / 100 * 100) else none

/-- PPS_IN_EDGE (R446): a rising edge stamped in device time, the three registers changing together. -/
def execPpsInEdge (s : State) : Out :=
  ok (if !s.on F.CLK_IO_PPSIN then s
  else
    let s1 := (s.set F.CLK_PPSSL (s.secs % 4294967296)).set F.CLK_PPSSH (s.secs / 4294967296)
    ({ s1 with pwr := { s1.pwr with ppsAt := some s1.time.clk } } : State).set F.CLK_PPSNS s.nanos)

/-- PPS_IN_MISSING (R446): a second passes without an edge. -/
def execPpsInMissing (s : State) : Out :=
  ok (if !s.on F.CLK_IO_PPSIN then s
  else
    let s1 := match s.pwr.ppsAt with
      | some t => s.advTo (t + nsS)
      | none => s
    ({ s1 with pwr := { s1.pwr with ppsAt := some s1.time.clk } } : State).log 0x0107 [] (.ag 21))

end Sys2Proof.Machine
end

