-- ==== Sys2Proof/Machine/Mains.lean ====
section
/-! DEFINITION. The mains angle clock (R44 to R46, R56): its states, the crossings of phase A, the removal of a phase error, the
snapshot and the frozen crossing stamps. -/

namespace Sys2Proof.Machine

/-- A phase error within `n` units of zero in either direction (R44, R45). -/
def errWithin (e n : Nat) : Bool := decide (e % 65536 < n) || decide (65536 - n < e % 65536)

/-- A frequency within 45 to 65 Hz, in units of 2^-16 Hz (R44). -/
def freqInRange (f : Nat) : Bool := decide (45 * 65536 ≤ f) && decide (f ≤ 65 * 65536)

/-- The crossing stamp registers written from a stamp in device ns and a cycle count (R46). -/
def State.showCrossing (s : State) (x : Nat × Nat) : State :=
  (((s.set F.MAINS_XSL (x.1 / nsS % 4294967296)).set F.MAINS_XSH (x.1 / nsS / 4294967296)).set F.MAINS_XNS (x.1 % nsS)).set
    F.MAINS_XCYC (x.2 % 4294967296)

/-- A phase's displacement and amplitude (R46, R56). -/
def State.showPhase (s : State) (n disp ampl : Nat) : State :=
  (s.seti F.MAINS_PHASE_DISP n disp).seti F.MAINS_PHASE_AMPL n ampl

/-- HOLDOVER entered from LOCKING or LOCKED (R44): the clock goes on at the last frequency in range, masks are withdrawn (R242),
and where phase A is absent a span of mains absence begins at the last valid crossing (R144). The code of the cause is not stated and is free. -/
def State.mainsHoldover (s : State) (absent : Bool) : State :=
  if s.get F.MAINS_STATUS_STATE = 1 ∨ s.get F.MAINS_STATUS_STATE = 2 then
    let s0 := s.tickAngle
    let (c, s1) := (s0.set F.MAINS_STATUS_STATE 3).draw
    let s2 : State := { s1 with mains := { s1.mains with freq := s1.mains.base, good := 0, bad := 0,
                                                         lastX := if absent then none else s1.mains.lastX,
                                                         absentFrom := if absent then some (s1.mains.lastX.getD s1.time.clk) else none } }
    let from_ := (s2.mains.latest.map (fun x => x.1)).getD s2.time.dev
    let s3 := if absent then ({ s2 with leg := { s2.leg with cutFrom := some from_ } } : State).powerRecord from_ else s2
    (s3.log 0x1010 [(1, c % 256)] (.ag 3)).withdraw 0
  else s

/-- The angle carried forward (R45): into the cycle count where it passes angle 0; entries it passes fire late (R52). -/
def State.stepAngle (s : State) (e : Nat) : State :=
  let a0 := s.angle
  let s1 := s.tickAngle
  ({ s1 with mains := { s1.mains with ang := a0 + e } } : State).lateAngle a0

/-- The magnitude of a phase error (R44, R45): the nearer way round. -/
def errMag (e : Nat) : Nat := if e % 65536 < 32768 then e % 65536 else 65536 - e % 65536

/-- A slew (R45): the frequency in force is the measured one changed by at most 2 % toward the phase, and by no more than what takes the error
away within a cycle. How far within that bound is not stated and is free. -/
def State.slewAngle (s : State) (f e : Nat) : State :=
  let m := min (f / 50) (f * errMag e / 65536)
  if m = 0 then { s with mains := { s.mains with freq := f } }
  else
    let (d, s1) := s.draw
    let by_ := 1 + d % m
    { s1 with mains := { s1.mains with freq := if e % 65536 < 32768 then f + by_ else f - by_ } }

/-- LOCKED entered (R44, R45): the phase error is taken directly before the first lock, slewed where it is small, else stepped;
masks are published again (R242). -/
def State.mainsLock (s : State) (f e : Nat) : State :=
  let s1 := s.set F.MAINS_STATUS_STATE 2
  let s2 := if !s.mains.everLocked then s1.stepAngle (e % 65536)
    else if errWithin e 4097 then s1.slewAngle f e
    else ((s1.stepAngle (e % 65536)).set F.MAINS_STATUS_STEPPED 1).log 0x1012 [(4, e % 65536)] (.ag 3)
  let s3 : State := { s2 with mains := { s2.mains with everLocked := true } }
  (s3.log 0x1011 [(4, f)] (.ag 3)).restoreMasks

/-- The first valid crossing after a mains absence ends its span (R144): a power-state transition (R143), and event 0x3150 once. -/
def State.absenceEnds (s : State) : State :=
  match s.leg.cutFrom with
  | none => s
  | some t =>
    let ms := (match s.mains.absentFrom with | some c => s.time.clk - c | none => s.time.dev - t) / 1000000
    let s1 : State := { s with leg := { s.leg with cutFrom := none, cuts := s.leg.cuts ++ [(t, s.time.dev)] }
                               mains := { s.mains with absentFrom := none } }
    let s2 := if s1.on F.BILL_CTRL_MAINSCUT then s1.log 0x3150 [(4, ms)] (.ag 6) else s1
    s2.powerRecord s2.time.dev

/-- The stamp of a crossing (R46): kept, and shown unless the registers are frozen. The crossing is angle 0 of the nearest cycle. -/
def State.stampCrossing (s : State) : State :=
  let x := (s.time.dev, (s.angle + 32768) / 65536)
  let s1 : State := { s with mains := { s.mains with lastX := some s.time.clk, latest := some x } }
  if s1.mains.frozen then s1 else s1.showCrossing x

/-- A crossing of a present phase A moves the state of the clock (R44): 8 consecutive cycles in range with a phase error below
256 units lock it. A cycle lies between two crossings: the first crossing, or the first after an absence, ends none. In HOLDOVER the counting clock
keeps its own error until the lock removes it (R45), so the error there is taken against that of the crossing before; before the first
lock it takes phase A's phase at every crossing instead. -/
def State.trackCrossing (s : State) (f e : Nat) : State :=
  let inR := freqInRange f
  let st := s.get F.MAINS_STATUS_STATE
  let was := s.on F.MAINS_STATUS_OUTRANGE
  let s1 := (s.set F.MAINS_FREQ_FREQ f).set F.MAINS_STATUS_OUTRANGE (b2n (!inR))
  let s2 := if !inR && !was then s1.log 0x1013 [(4, f)] (.ag 3) else s1
  let near := if s.mains.everLocked ∧ st = 3 then errWithin (e + 65536 - s.mains.lastErr % 65536) 256 else errWithin e 256
  let good := if inR && near && s.mains.lastX.isSome then s.mains.good + 1 else 0
  let bad := if inR then 0 else s.mains.bad + 1
  let s3 : State := { s2.tickAngle with mains := { s2.tickAngle.mains with good, bad, lastErr := e % 65536, base := if inR then f else s2.mains.base } }
  if st = 0 then
    -- before the first lock the clock takes phase A's phase directly, without an event
    let s4 := (s3.set F.MAINS_STATUS_STATE 1).stepAngle (e % 65536)
    { s4 with mains := { s4.mains with freq := if inR then f else s4.mains.freq } }
  else if 8 ≤ bad then s3.mainsHoldover false
  else if (st = 1 ∨ st = 3) ∧ 8 ≤ good then
    let s4 : State := { s3 with mains := { s3.mains with good := 0, freq := f } }
    s4.mainsLock f e
  else if st = 2 ∧ inR then s3.slewAngle f e
  else if inR ∧ ¬ s.mains.everLocked then
    let s4 := s3.stepAngle (e % 65536)
    { s4 with mains := { s4.mains with freq := f } }
  else s3

/-- MAINS_CROSSING (R44 to R46): a positive-going zero crossing of phase A. -/
def execMainsCrossing (c : Crossing) (s : State) : Out :=
  ok (if !s.on F.MAINS_CTRL_EN then s
  else
    let s1 := ((s.showPhase 0 0 c.ampA).showPhase 1 c.dispB c.ampB).showPhase 2 c.dispC c.ampC
    if c.ampA < s.get F.MAINS_CTRL_ABSTHR then
      ({ s1 with mains := { s1.mains with good := 0 } } : State).mainsHoldover true
    else (s1.absenceEnds.trackCrossing c.freq c.err).stampCrossing)

/-- An absent phase A (R56): what amplitude below the threshold its input still shows is not stated and is free. -/
def State.ampGone (s : State) : State :=
  let (n, s1) := s.draw
  s1.seti F.MAINS_PHASE_AMPL 0 (n % max 1 (s.get F.MAINS_CTRL_ABSTHR))

/-- MAINS_CROSSING_TIMEOUT (R44): 30 ms pass without a valid crossing. -/
def execMainsCrossingTimeout (s : State) : Out :=
  ok (match s.mains.lastX with
    | none => s
    | some t => (s.advTo (t + 30000000)).ampGone.mainsHoldover true)

/-- What a write of MAINS_SNAP does (R56): the mains instant is copied and the crossing stamps freeze. -/
def mainsSnapAct : Act := fun _ _ v s =>
  if bit v 0 then
    let a := s.angle
    let s1 := ((s.set F.MAINS_SNAPLO (a / 65536 % 4294967296)).set F.MAINS_SNAPHI_CYCHI (a / 65536 / 4294967296 % 65536)).set
      F.MAINS_SNAPHI_ANGLE (a % 65536)
    let s2 := match s1.mains.latest with
      | some x => s1.showCrossing x
      | none => s1
    { s2 with mains := { s2.mains with frozen := true } }
  else s

/-- MAINS_SNAP (R56). -/
def execMainsSnap (p : Port) (v : Word) (s : State) : Out :=
  ok (s.regWrite mainsSnapAct p F.MAINS_SNAP_TAKE.addr v.toNat).st

/-- The freeze of the crossing stamps ends (R56): they show the latest crossing again. -/
def State.unfreezeX (s : State) : State :=
  let s1 : State := { s with mains := { s.mains with frozen := false } }
  match s1.mains.latest with
  | some x => s1.showCrossing x
  | none => s1

/-- MAINS_XCYC_READ (R56): the read of MAINS_XCYC releases the freeze. A port of role NONE reads nothing (R275). -/
def execMainsXcycRead (p : Port) (s : State) : Out :=
  ok (if s.role p = 0 ∧ p ≠ .none ∧ p ≠ .config then s else s.unfreezeX)

end Sys2Proof.Machine
end

