-- ==== Sys2Proof/Machine/Time.lean ====
section
/-! DEFINITION. Time: the servo layer, the domain layer and the billing layer (R25 to R43), and the firing of timeplate entries. -/

namespace Sys2Proof.Machine

/-! ## Domains -/

/-- The servo and announce state of a domain. -/
def State.dom (s : State) (d : Nat) : DomSt := if d = 0 then s.time.d0 else s.time.d1

/-- The servo and announce state of a domain replaced. -/
def State.setDom (s : State) (d : Nat) (x : DomSt) : State :=
  { s with time := if d = 0 then { s.time with d0 := x } else { s.time with d1 := x } }

/-- A domain is tracked (R55). -/
def State.tracked (s : State) (d : Nat) : Bool := if d = 0 then s.on F.TIME_CTRL_DOM0_EN else s.on F.TIME_CTRL_DOM1_EN

/-- A flag of TIME_DOMSTAT. -/
def State.locked (s : State) (d : Nat) : Bool := s.geti F.TIME_DOMSTAT_LOCKED d != 0

/-- A domain is suspect (R31). -/
def State.suspect (s : State) (d : Nat) : Bool := s.geti F.TIME_DOMSTAT_SUSPECT d != 0

/-- A domain's offset, domain time minus device time in ns. TIME_DOMOFS shows it saturated (R55). -/
def State.domOfs (s : State) (d : Nat) : Int := (s.dom d).ofs

/-- The legal clock limit in ns (R118, R156). -/
def State.legalLimit (s : State) : Nat := s.get F.BILL_LEGCLK_MS * 1000000

/-- The effective guard in ns (R30). -/
def State.guard (s : State) : Nat := min (s.get F.TIME_JGTHR_THR) s.legalLimit

/-! ## Adjustments (R36) -/

/-- What a step of device time by `a` does to a domain's offsets: its prediction, its offset and the measurements of R39 are differences from
device time, and move with it. DEDUCED: R55 and R39 speak of such differences and not of steps. -/
def DomSt.stepped (d : DomSt) (a : Int) : DomSt :=
  { d with pred := d.pred.map (fun p => p - a), ofs := d.ofs - a, run4 := d.run4.map (fun o => o - a) }

/-- An adjustment of `a` ns: slewed within the legal clock limit, else stepped at once and logged; either replaces what
remains of a slew. A step writes the high-water mark before it (R149), moves the offsets by as much, fires what it passed late (R52)
and answers in the legal partition. -/
def State.adjust (s : State) (a : Int) : State :=
  if a.natAbs ≤ s.legalLimit then { s with time := { s.time with slew := a } }
  else
    let t0 := s.time.dev
    let t1 := ((t0 : Int) + a).toNat
    let s1 := s.writeHwm
    let s2 : State := { s1 with time := { s1.time with dev := t1, slew := 0, d0 := s1.time.d0.stepped a, d1 := s1.time.d1.stepped a } }
    let s3 := s2.log 0x3101 [(8, tc 8 a)] (.ag 6)
    let s4 := if t0 < t1 then s3.latePast t0 else s3
    s4.legalStep t0 t1

/-! ## UTC offset (R43) -/

/-- The UTC offset taken from the active domain while valid, else from CFG. -/
def State.takeUtc (s : State) (d : Nat) : State :=
  let x := s.dom d
  let new := if x.utcValid then x.utc else s.get F.TIME_UTCOFS_CFG
  let old := s.get F.TIME_UTCOFS_CUR
  let s1 := (s.set F.TIME_UTCOFS_FROMPTP (b2n x.utcValid)).set F.TIME_UTCOFS_CUR new
  if old = new then s1
  else { s1 with time := { s1.time with utcHist := s1.time.utcHist ++ [(s.secs, old, new)] } }

/-- The leap flags of the active domain: a flag first seen is logged and its instant kept, the end of the last UTC day of the
announcing month; one that takes the place of another turns the change round. -/
def State.takeLeap (s : State) (d : Nat) : State :=
  let x := s.dom d
  let old := s.get F.TIME_UTCOFS_CUR
  let new61 := x.leap61 && !s.on F.TIME_UTCOFS_LEAP61
  let new59 := x.leap59 && !s.on F.TIME_UTCOFS_LEAP59
  let s1 := (s.set F.TIME_UTCOFS_LEAP61 (b2n x.leap61)).set F.TIME_UTCOFS_LEAP59 (b2n x.leap59)
  if new61 || new59 then
    let new := if new61 then old + 1 else old - 1
    let (y, m, _) := dateOf (s.utc s.secs / 86400)
    let s2 : State := { s1 with time := { s1.time with leap := some (nextMonth y m * 86400 + new, new) } }
    s2.log 0x1021 [(1, old), (1, new)] (.ag 2)
  else if !x.leap61 && !x.leap59 then { s1 with time := { s1.time with leap := none } }
  else s1

/-- LEAP_APPLY (R43): the change takes effect. -/
def execLeapApply (s : State) : Out :=
  ok (match s.time.leap with
    | none => s
    | some (e, new) =>
      let s1 := s.advDev (e * nsS)
      let old := s1.get F.TIME_UTCOFS_CUR
      let s2 := ((s1.set F.TIME_UTCOFS_CUR new).set F.TIME_UTCOFS_LEAP61 0).set F.TIME_UTCOFS_LEAP59 0
      let s3 : State := { s2 with time := { s2.time with
        leap := none, utcHist := s2.time.utcHist ++ [(e, old, new)]
        d0 := { s2.time.d0 with leap61 := false, leap59 := false }
        d1 := { s2.time.d1 with leap61 := false, leap59 := false } } }
      s3.log 0x1021 [(1, old), (1, new)] (.ag 2))

/-! ## Active domain, holdover (R33 to R35, R39) -/

/-- A domain becomes the active one; its UTC offset is in force. -/
def State.makeActive (s : State) (d : Nat) : State :=
  (({ s.set F.TIME_STATUS_ACTIVE d with time := { s.time with acqDone := true, acqEnd := none, disagree := false } } : State).takeUtc
    d).takeLeap d

/-- STATE after the active domain's lock is known (R42, R55). -/
def State.lockState (s : State) (d : Nat) : State :=
  if s.locked d then { s.set F.TIME_STATUS_STATE 2 with time := { s.time with everLocked := true } }
  else s.set F.TIME_STATUS_STATE (if s.time.everLocked then 3 else 1)

/-- A domain that could not drive device time now: it has missed three announce intervals, or is suspect (R33). -/
def State.failed (s : State) (d : Nat) : Bool :=
  s.suspect d || ((s.dom d).heard && s.geti F.TIME_DOMSTAT_ANNOUNCE_OK d == 0)

/-- A domain takes the place of the active one (R33 to R35): its offset is an adjustment. DEDUCED: event 0x1003 tells every change of the
active domain that the part makes by itself, one at the end of holdover too. -/
def State.switchTo (s : State) (d : Nat) : State :=
  let a := s.get F.TIME_STATUS_ACTIVE
  let r := s.domOfs d
  let s1 := s.makeActive d
  let s2 := if a = d then s1 else s1.log 0x1003 [(1, a), (1, d), (8, tc 8 r)] (.ag 2)
  (s2.lockState d).adjust r

/-- The rule of R33, at whatever makes one of its conditions true: the active domain has failed, and the standby is locked and not
suspect. -/
def State.reconsider (s : State) : State :=
  let a := s.get F.TIME_STATUS_ACTIVE
  let o := 1 - a
  if s.time.acqDone && s.failed a && s.tracked o && s.locked o && !s.failed o then s.switchTo o else s

/-- The active domain has failed (R33 to R35): the standby takes over with its offset as a residual, or holdover begins. -/
def State.domFail (s : State) (d : Nat) : State :=
  if !s.time.acqDone || s.get F.TIME_STATUS_ACTIVE != d then s
  else
    let s1 := s.reconsider
    if s1.get F.TIME_STATUS_ACTIVE = d ∧ s1.get F.TIME_STATUS_STATE = 2 then
      (s1.set F.TIME_STATUS_STATE 3).log 0x1005 [(1, d)] (.ag 2)
    else s1

/-- A domain that regains announces and lock in holdover, and is not suspect, becomes active (R35). -/
def State.leaveHoldover (s : State) (d : Nat) : State :=
  if s.get F.TIME_STATUS_STATE = 3 ∧ s.locked d ∧ ¬ s.suspect d ∧ s.geti F.TIME_DOMSTAT_ANNOUNCE_OK d = 1 then s.switchTo d else s

/-- The active domain of first acquisition (R39): its offset is an adjustment. -/
def State.acquire (s : State) (d : Nat) : State :=
  let a := s.domOfs d
  ((s.makeActive d).lockState d).adjust a

/-- First acquisition goes on when a domain has become a candidate (R39). -/
def State.acquisition (s : State) : State :=
  if s.time.acqDone ∨ s.time.disagree then s
  else
    let c0 := s.time.d0.cand && s.tracked 0
    let c1 := s.time.d1.cand && s.tracked 1
    if c0 && c1 then
      let diff := s.domOfs 0 - s.domOfs 1
      if diff.natAbs ≤ s.legalLimit then s.acquire 0
      else
        ({ s.set F.TIME_STATUS_STATE 1 with time := { s.time with disagree := true, acqEnd := none } } : State).log 0x1007
          [(8, tc 8 diff)] (.ag 2)
    else if c0 || c1 then
      let d := if c0 then 0 else 1
      if s.tracked (1 - d) then
        match s.time.acqEnd with
        | some _ => s
        | none => { s.set F.TIME_STATUS_STATE 1 with time := { s.time with acqEnd := some (s.time.clk + 60 * nsS) } }
      else (s.set F.TIME_STATUS_STATE 1).acquire d
    else s

/-- ACQUISITION_WAIT_EXPIRE (R39): 60 s pass with one candidate. -/
def execAcquisitionWaitExpire (s : State) : Out :=
  ok (match s.time.acqEnd with
    | none => s
    | some e =>
      let s1 := s.advTo e
      let s2 : State := { s1 with time := { s1.time with acqEnd := none } }
      if s2.time.d0.cand && s2.tracked 0 then s2.acquire 0
      else if s2.time.d1.cand && s2.tracked 1 then s2.acquire 1 else s2)

/-! ## The servo (R30 to R32, R39, R40) -/

/-- Whether the last four consecutive measurements agree with one another within a threshold (R39). -/
def agreeing (l : List Int) (thr : Nat) : Bool :=
  decide (l.length = 4) && l.all (fun a => l.all (fun b => decide ((a - b).natAbs ≤ thr)))

/-- The servo's new prediction and rate are values of its own state that the manual does not state: free, the rate within
TIME_SLEWMAX (R32). -/
def State.servo (s : State) (d : Nat) (x : DomSt) : State :=
  let (p, s1) := s.drawInt
  let s2 := s1.setDom d { x with pred := some p }
  if s.time.acqDone ∧ s.get F.TIME_STATUS_ACTIVE = d then
    let (r, s3) := s2.drawInt
    let m : Int := s.get F.TIME_SLEWMAX_PPM
    { s3 with time := { s3.time with rate := max (-m) (min m r) } }
  else s2

/-- A refused measurement (R30, R31): counted; the sixteenth in a row makes the domain suspect. -/
def State.refused (s : State) (d : Nat) (x : DomSt) (innov : Int) : State :=
  let n := min 16 (s.geti F.TIME_DOMSTAT_REFUSALS d + 1)
  let s1 := (s.seti F.TIME_DOMSTAT_REFUSALS d n).seti F.TIME_DOMSTAT_CLEANRUN d 0
  let s2 := (s1.setDom d { x with run4 := [], run16 := 0 }).log 0x1001 [(1, d), (8, tc 8 innov)] (.ag 2)
  if n = 16 ∧ ¬ s.suspect d then
    let s3 := ((s2.seti F.TIME_DOMSTAT_SUSPECT d 1).seti F.TIME_DOMSTAT_LOCKED d 0).log 0x1002 [(1, d)] (.ag 2)
    s3.domFail d
  else s2

/-- The lock of a domain (R40): logged with its initial offset; then STATE, the switch of R33 and the end of holdover. -/
def State.gainLock (s : State) (d : Nat) (o : Int) : State :=
  let s1 := (s.seti F.TIME_DOMSTAT_LOCKED d 1).log 0x1006 [(1, d), (8, tc 8 o)] (.ag 2)
  if s1.get F.TIME_STATUS_STATE = 3 then s1.leaveHoldover d
  else if s1.time.acqDone ∧ s1.get F.TIME_STATUS_ACTIVE = d then s1.lockState d
  else s1.reconsider

/-- An accepted measurement (R30, R31, R39, R40). The run of 16 does not begin while announces that were once heard are missed. -/
def State.accepted (s : State) (d : Nat) (x : DomSt) (o innov : Int) : State :=
  let run := (o :: x.run4).take 4
  let lost := x.heard && s.geti F.TIME_DOMSTAT_ANNOUNCE_OK d == 0
  let r16 := if innov.natAbs < 1000 && !lost then min 16 (x.run16 + 1) else 0
  let z := { x with run4 := run, run16 := r16, cand := x.cand || agreeing run (s.get F.TIME_JGTHR_THR) }
  let s1 := (s.seti F.TIME_DOMSTAT_REFUSALS d 0).servo d z
  let s2 := if s.suspect d then
      let c := s.geti F.TIME_DOMSTAT_CLEANRUN d + 1
      if c = 64 then (s1.seti F.TIME_DOMSTAT_SUSPECT d 0).seti F.TIME_DOMSTAT_CLEANRUN d 0
      else s1.seti F.TIME_DOMSTAT_CLEANRUN d c
    else s1
  let s3 := if r16 = 16 ∧ ¬ s2.locked d ∧ ¬ s2.suspect d then s2.gainLock d o else s2
  s3.acquisition

/-- An offset measurement of a tracked domain (R30). -/
def State.takeOffset (s : State) (d : Nat) (ofs : Int) : State :=
  let x := { s.dom d with ofs := ofs }
  let s1 := s.setDom d x
  match x.pred with
  | none => s1.setDom d { x with pred := some ofs, run4 := [ofs], run16 := 0 }
  | some p => if (ofs - p).natAbs > s.guard then s1.refused d x (ofs - p) else s1.accepted d x ofs (ofs - p)

/-- SERVO_MEASUREMENT (R30): an offset measurement of a tracked domain. -/
def execServoMeasurement (dom : Fin 2) (ofs : Int) (s : State) : Out :=
  ok (if s.tracked dom.val then s.takeOffset dom.val ofs else s)

/-- An announce of a tracked domain (R33, R35, R43). -/
def State.announced (s : State) (d : Nat) (a : Announce) : State :=
  let back := s.geti F.TIME_DOMSTAT_ANNOUNCE_OK d = 0
  let x := { s.dom d with heard := true, annAt := s.time.clk, annInt := a.interval, utc := a.utc, utcValid := a.utcValid,
                          leap61 := a.leap61, leap59 := a.leap59 }
  let s1 := (s.setDom d x).seti F.TIME_DOMSTAT_ANNOUNCE_OK d 1
  let s2 := if s1.time.acqDone ∧ s1.get F.TIME_STATUS_ACTIVE = d then (s1.takeUtc d).takeLeap d else s1
  if back then s2.leaveHoldover d else s2

/-- ANNOUNCE_RECEIVE (R33, R43): an announce of a tracked domain. -/
def execAnnounceReceive (dom : Fin 2) (a : Announce) (s : State) : Out :=
  ok (if s.tracked dom.val then s.announced dom.val a else s)

/-- ANNOUNCE_TIMEOUT (R33, R40): three intervals pass without an announce. -/
def execAnnounceTimeout (dom : Fin 2) (s : State) : Out :=
  let d := dom.val
  ok (if s.geti F.TIME_DOMSTAT_ANNOUNCE_OK d = 1 then
    let x := s.dom d
    let s1 := s.advTo (x.annAt + 3 * x.annInt)
    let s2 := ((s1.seti F.TIME_DOMSTAT_ANNOUNCE_OK d 0).seti F.TIME_DOMSTAT_LOCKED d 0).setDom d { s1.dom d with run16 := 0 }
    (s2.log 0x1004 [(1, d)] (.ag 2)).domFail d
  else s)

/-- SLEW_COMPLETE (R36): the slew has run out. -/
def execSlewComplete (s : State) : Out := ok (if s.time.slew = 0 then s else s.adv s.slewEnd)

/-- AON_SECONDS_COPY (R38): while a domain is locked, device seconds go into the always-on counter. -/
def execAonSecondsCopy (s : State) : Out :=
  ok (if s.locked 0 ∨ s.locked 1 then { s with time := { s.time with aon := s.secs, aonClk := s.time.clk } } else s)

/-- The snapshot registers of device time (R55). -/
def timeSnapAct : Act := fun _ _ v s =>
  if bit v 0 then
    ((s.set F.TIME_SNAPSL (s.secs % 4294967296)).set F.TIME_SNAPSH (s.secs / 4294967296)).set F.TIME_SNAPNS s.nanos
  else s

/-- TIME_SNAP (R55). -/
def execTimeSnap (p : Port) (v : Word) (s : State) : Out :=
  ok (s.regWrite timeSnapAct p F.TIME_SNAP_TAKE.addr v.toNat).st

/-! ## Operator commands (R37) -/

/-- SET (R37): accepted while STATE is FREE, ACQUIRING or HOLDOVER. -/
def execHcpSet (r : Req) (sec ns : Nat) (s : State) : Out :=
  ok (hcpRun r 0x0010 (fun s =>
    if ns > 999999999 then .no s stBADRANGE
    else if s.get F.TIME_STATUS_STATE = 2 then .no s stBADSTATE
    else
      let a : Int := (sec * nsS + ns : Nat) - (s.time.dev : Int)
      { st := (s.log 0x1008 [(1, 0), (8, tc 8 a)] { port := r.port, agent := 2 }).adjust a }) s)

/-- ADOPT (R37): the named domain becomes active and its offset an adjustment. DESIGN CHOICE: the servo's prediction becomes that offset too,
since a prediction from before a grandmaster's step would refuse every measurement after it; R37 does not speak of the prediction.
DEDUCED: a domain adopted without lock after a lock brings holdover, which 0x1005 tells where it begins. -/
def execAdopt (r : Req) (dom : Nat) (s : State) : Out :=
  ok (hcpRun r 0x0011 (fun s =>
    if dom > 1 then .no s stBADRANGE
    else if s.geti F.TIME_DOMSTAT_ANNOUNCE_OK dom ≠ 1 then .no s stBADSTATE
    else
      let a := s.domOfs dom
      let was := s.get F.TIME_STATUS_STATE
      let last := s.get F.TIME_STATUS_ACTIVE
      let s1 := ((s.seti F.TIME_DOMSTAT_SUSPECT dom 0).seti F.TIME_DOMSTAT_REFUSALS dom 0).seti F.TIME_DOMSTAT_CLEANRUN dom 0
      let s2 := ((s1.makeActive dom).setDom dom { s1.dom dom with pred := some a }).lockState dom
      let s3 := s2.log 0x1008 [(1, 1), (8, tc 8 a)] { port := r.port, agent := 2 }
      let s4 := if was ≠ 3 ∧ s3.get F.TIME_STATUS_STATE = 3 then s3.log 0x1005 [(1, last)] (.ag 2) else s3
      { st := s4.adjust a }) s)

end Sys2Proof.Machine
end

