-- ==== Sys2Proof/Machine/Ptp.lean ====
section
/-! DEFINITION. PTP on the uplinks (R27 to R29): messages of IEEE 1588-2019, the best master of each domain, delay request-response and
peer delay, one-step and two-step, and the boundary clock's master. -/

namespace Sys2Proof.Machine

/-! ## Messages -/

/-- The type of a message: 0 Sync, 1 Delay_Req, 2 Pdelay_Req, 3 Pdelay_Resp, 8 Follow_Up, 9 Delay_Resp, 10 Pdelay_Resp_Follow_Up,
11 Announce. -/
def ptpType (m : Bytes) : Nat := beAt m 0 1 % 16

/-- The correction field in whole ns. -/
def ptpCorr (m : Bytes) : Int := ofTc 8 (beAt m 8 8) / 65536

/-- The source port identity. -/
def ptpSrc (m : Bytes) : Nat := beAt m 20 10

/-- The sequence number. -/
def ptpSeq (m : Bytes) : Nat := beAt m 30 2

/-- The two-step flag. -/
def ptpTwoStep (m : Bytes) : Bool := bit (beAt m 6 1) 1

/-- A time stamp of 10 B: 6 B of seconds, 4 B of nanoseconds (R25). -/
def ptpTs (m : Bytes) (o : Nat) : Nat := beAt m o 6 * nsS + beAt m (o + 6) 4

/-- The interval that a message's logMessageInterval stands for, in ns. -/
def ptpInterval (m : Bytes) : Nat :=
  let l := beAt m 33 1
  if l < 128 then nsS * 2 ^ l else nsS / 2 ^ (256 - l)

/-- A time stamp's bytes. -/
def tsBytes (t : Nat) : Bytes := be 6 (t / nsS) ++ be 4 (t % nsS)

/-- The part's clock identity: the EUI-64 of its base MAC address. -/
def clockId : Nat := Config.baseMac / 2 ^ 24 % 2 ^ 24 * 2 ^ 40 + 0xFFFE * 2 ^ 24 + Config.baseMac % 2 ^ 24

/-- The port identity of an uplink. -/
def ptpPort (u : Nat) : Nat := clockId * 65536 + (u + 1)

/-- A message header: type, body length, domain number, flags, correction in 2^-16 ns, sequence, uplink. -/
def ptpHead (ty n num flags corr seq u : Nat) : Bytes :=
  let ctl := if ty < 2 then ty else if ty = 8 then 2 else if ty = 9 then 3 else 5
  be 1 ty ++ be 1 2 ++ be 2 (34 + n) ++ be 1 num ++ zeros 1 ++ be 2 flags ++ be 8 corr ++ zeros 4 ++ be 10 (ptpPort u) ++ be 2 seq ++
  be 1 ctl ++ zeros 1

/-- A message sent for a domain on an uplink, by the domain's transport. DESIGN CHOICE: PTP leaves in class 1, no chapter names its class. -/
def State.ptpSend (s : State) (u d : Nat) (m : Bytes) : State :=
  let udp := s.geti F.TIME_DOMCFG_TRANSPORT d != 0
  s.enq u { cls := 1, len := (if udp then 62 else 14) + m.length + 36, body := .ptp d m } .wait

/-- The PTP exchange of a domain changed. -/
def State.setPtp (s : State) (d : Nat) (f : PtpDom → PtpDom) : State := s.setDom d { s.dom d with ptp := f (s.dom d).ptp }

/-! ## The best master (R28) -/

/-- Lists of numbers in lexicographic order. -/
def leKey : List Nat → List Nat → Bool
  | [], _ => true
  | _ :: _, [] => false
  | a :: l, b :: m => decide (a < b) || (a == b && leKey l m)

/-- The data set by which an announce is compared: priority 1, class, accuracy, variance, priority 2, grandmaster, steps removed, source. -/
def annKey (m : Bytes) : List Nat :=
  [beAt m 47 1, beAt m 48 1, beAt m 49 1, beAt m 50 2, beAt m 52 1, beAt m 53 8, beAt m 61 2, ptpSrc m]

/-- The best of the masters that have qualified by a second announce within four intervals and have been heard within three (R33). -/
def bestOf (now : Nat) (l : List Master) : Option Nat :=
  ((l.filter (fun m => decide (2 ≤ m.count) && decide (now < m.at_ + 3 * m.int))).foldl (fun (a : Option Master) m =>
    match a with
    | some b => if leKey b.key m.key then a else some m
    | none => some m) none).map (fun m => m.src)

/-- An announce message of a domain: its master is noted, and the best master's announce is the domain's (R28, R33, R43). -/
def State.ptpAnnounce (s : State) (d : Nat) (m : Bytes) : State :=
  if m.length < 64 ∨ 255 ≤ beAt m 61 2 then s
  else
    let p := (s.dom d).ptp
    let now := s.time.clk
    let src := ptpSrc m
    let kept := p.masters.filter (fun x => decide (now < x.at_ + 4 * x.int))
    let n := match kept.find? (fun x => x.src == src) with | some x => x.count + 1 | none => 1
    let l := ⟨src, annKey m, n, now, ptpInterval m, m⟩ :: kept.filter (fun x => x.src != src)
    let best := bestOf now l
    let s1 := s.setPtp d (fun q => if best = q.best then { q with masters := l }
      else { q with masters := l, best := best, wait := none, sync := none, reqAt := none, peer := none, delay := none })
    let f := beAt m 7 1
    if best = some src then
      s1.announced d { interval := ptpInterval m, utc := beAt m 44 2, utcValid := bit f 2, leap61 := bit f 0, leap59 := bit f 1 }
    else s1

/-! ## Measurements (R28, R30) -/

/-- The port that a domain's messages leave by. -/
def State.domPort (s : State) (d : Nat) : Nat := s.geti F.TIME_DOMCFG_PORT d

/-- The part's own delay request of a domain, by its mechanism. DESIGN CHOICE: one follows every complete Sync. -/
def State.askDelay (s : State) (d : Nat) : State :=
  let seq := ((s.dom d).ptp.reqSeq + 1) % 65536
  let s1 := s.setPtp d (fun q => { q with reqSeq := seq, reqAt := none, peer := none })
  let num := s.geti F.TIME_DOMCFG_NUM d
  let u := s.domPort d
  if s.geti F.TIME_DOMCFG_DELAY d = 0 then s1.ptpSend u d (ptpHead 1 10 num 0 0 seq u ++ zeros 10)
  else s1.ptpSend u d (ptpHead 2 20 num 0 0 seq u ++ zeros 20)

/-- A Sync complete with its master's instant: where the delay of the path is known it is an offset measurement, domain time minus device
time. -/
def State.ptpSync (s : State) (d : Nat) (t1 : Int) (t2 : Nat) : State :=
  let s1 := s.setPtp d (fun q => { q with sync := some (t1, t2), wait := none })
  let s2 := match (s.dom d).ptp.delay with
    | some y => s1.takeOffset d (t1 + y - t2)
    | none => s1
  s2.askDelay d

/-- The delay of the path found. -/
def State.ptpDelay (s : State) (d : Nat) (twice : Int) : State :=
  s.setPtp d (fun q => { q with delay := some (twice / 2), reqAt := none, peer := none })

/-- A message of a domain from its best master or peer, received at a device time `at_` on the domain's port. -/
def State.ptpSlave (s : State) (d : Nat) (at_ : Nat) (m : Bytes) : State :=
  let p := (s.dom d).ptp
  let mine := decide (p.best = some (ptpSrc m))
  let asked := beAt m 44 10 == ptpPort (s.domPort d) && ptpSeq m == p.reqSeq
  match ptpType m with
  | 0 =>
    if !mine then s
    else if ptpTwoStep m then s.setPtp d (fun q => { q with wait := some (ptpSeq m, at_, ptpCorr m) })
    else s.ptpSync d ((ptpTs m 34 : Int) + ptpCorr m) at_
  | 8 =>
    match p.wait with
    | some (q, t2, c) => if mine && q == ptpSeq m then s.ptpSync d ((ptpTs m 34 : Int) + c + ptpCorr m) t2 else s
    | none => s
  | 9 =>
    match p.sync, p.reqAt with
    | some (t1, t2), some t3 =>
      if mine && asked then s.ptpDelay d (((t2 : Int) - t1) + ((ptpTs m 34 : Int) - ptpCorr m - t3)) else s
    | _, _ => s
  | 3 =>
    match p.reqAt with
    | some t1 =>
      if !asked then s
      else if ptpTwoStep m then s.setPtp d (fun q => { q with peer := some (ptpTs m 34, at_, ptpCorr m) })
      else s.ptpDelay d ((at_ : Int) - t1 - ptpCorr m)
    | none => s
  | 10 =>
    match p.reqAt, p.peer with
    | some t1, some (t2, t4, c) =>
      if asked then s.ptpDelay d (((t4 : Int) - t1) - ((ptpTs m 34 : Int) - t2) - c - ptpCorr m) else s
    | _, _ => s
  | 11 => s.ptpAnnounce d m
  | _ => s

/-! ## The boundary clock (R29) -/

/-- Whether an uplink acts as master for a domain: the active one, on the uplink that does not receive it, while the part is locked or in
holdover. -/
def State.masters (s : State) (u d : Nat) : Bool :=
  s.on F.TIME_CTRL_BC_EN && s.get F.TIME_STATUS_ACTIVE == d && s.domPort d != u &&
  (s.get F.TIME_STATUS_STATE == 2 || s.get F.TIME_STATUS_STATE == 3)

/-- The flags that tell the UTC offset in force (R43): leap61, leap59, the offset valid, the PTP timescale. -/
def State.utcFlags (s : State) : Nat := b2n (s.on F.TIME_UTCOFS_LEAP61) + 2 * b2n (s.on F.TIME_UTCOFS_LEAP59) + 4 + 8

/-- The announce of the boundary clock's master: the parent data set of the grandmaster while locked, in holdover the part's own identity
with clockClass 248. What R29 does not state of it takes the defaults of IEEE 1588. -/
def State.bcAnnounce (s : State) (u d : Nat) : Option Bytes :=
  let p := (s.dom d).ptp
  let head := ptpHead 11 30 (s.geti F.TIME_DOMCFG_NUM d) s.utcFlags 0 s.time.bcAnnSeq u
  let utc := zeros 10 ++ be 2 (s.get F.TIME_UTCOFS_CUR) ++ zeros 1
  if s.get F.TIME_STATUS_STATE = 3 then
    some (head ++ utc ++ be 1 128 ++ be 1 248 ++ be 1 0xFE ++ be 2 0xFFFF ++ be 1 128 ++ be 8 clockId ++ be 2 0 ++ be 1 0xA0)
  else (p.masters.find? (fun m => p.best == some m.src)).map (fun m =>
    head ++ utc ++ sub m.msg 47 14 ++ be 2 (beAt m.msg 61 2 + 1) ++ sub m.msg 63 1)

/-- What the boundary clock's master owes an uplink by now: an announce at the interval of the domain's own, a Sync each second. DESIGN
CHOICE: R29 states no intervals; what is owed leaves when the transmitter is next served. -/
def State.bcDue (s : State) (u : Nat) : State :=
  let d := s.get F.TIME_STATUS_ACTIVE
  if !s.masters u d then s
  else
    let s1 := match s.bcAnnounce u d with
      | some m =>
        if s.time.bcAnnAt ≤ s.time.clk then
          ({ s with time := { s.time with bcAnnSeq := (s.time.bcAnnSeq + 1) % 65536
                                          bcAnnAt := s.time.clk + (s.dom d).annInt } } : State).ptpSend u d m
        else s
      | none => s
    if s1.time.bcSyncAt ≤ s1.time.clk then
      let two := s.geti F.TIME_DOMCFG_TWOSTEP d
      let m := ptpHead 0 10 (s.geti F.TIME_DOMCFG_NUM d) (512 * two) 0 s1.time.bcSyncSeq u ++ zeros 10
      ({ s1 with time := { s1.time with bcSyncSeq := (s1.time.bcSyncSeq + 1) % 65536
                                        bcSyncAt := s1.time.clk + nsS } } : State).ptpSend u d m
    else s1

/-- A delay request answered (R28, R29): a Delay_Req by the master's port, a Pdelay_Req by any port of the domain. -/
def State.ptpAnswer (s : State) (u d : Nat) (at_ : Nat) (m : Bytes) : State :=
  let num := s.geti F.TIME_DOMCFG_NUM d
  let two := s.geti F.TIME_DOMCFG_TWOSTEP d
  if ptpType m = 1 ∧ s.geti F.TIME_DOMCFG_DELAY d = 0 ∧ s.masters u d = true then
    s.ptpSend u d (ptpHead 9 20 num 0 (beAt m 8 8) (ptpSeq m) u ++ tsBytes at_ ++ be 10 (ptpSrc m))
  else if ptpType m = 2 ∧ s.geti F.TIME_DOMCFG_DELAY d = 1 then
    s.ptpSend u d (ptpHead 3 20 num (512 * two) (beAt m 8 8) (ptpSeq m) u ++ tsBytes at_ ++ be 10 (ptpSrc m))
  else s

/-! ## On the wire -/

/-- A PTP message received on an uplink at a device time (R28): of a kind that is not supported it is counted; else it goes to every tracked
domain of its number and transport, by the domain's receiving port or by the master's. -/
def State.ptpIn (s : State) (u : Nat) (udp : Bool) (at_ : Nat) (m : Bytes) : State :=
  if m.length < 44 ∨ beAt m 1 1 % 16 ≠ 2 ∨ ¬ [0, 1, 2, 3, 8, 9, 10, 11].contains (ptpType m) then
    { s with time := { s.time with ptpIgnored := s.time.ptpIgnored + 1 } }
  else if ptpSrc m / 65536 = clockId then s
  else [0, 1].foldl (fun (s : State) d =>
    if s.tracked d && s.geti F.TIME_DOMCFG_NUM d == beAt m 4 1 && (s.geti F.TIME_DOMCFG_TRANSPORT d != 0) == udp &&
        (s.domPort d == u || s.masters u d) then
      if ptpType m = 1 ∨ ptpType m = 2 then s.ptpAnswer u d at_ m
      else if s.domPort d = u then s.ptpSlave d at_ m else s
    else s) s

/-- A PTP message placed on an uplink at the present instant, which is its stamp (R27, R29): a request's stamp is kept; a one-step message takes
it, a two-step one is followed by it. The message as it leaves. -/
def State.ptpSent (s : State) (u d : Nat) (m : Bytes) : State × Bytes :=
  let t := s.time.dev
  let num := s.geti F.TIME_DOMCFG_NUM d
  match ptpType m with
  | 0 =>
    if ptpTwoStep m then (s.ptpSend u d (ptpHead 8 10 num 0 0 (ptpSeq m) u ++ tsBytes t), m)
    else (s, m.take 34 ++ tsBytes t)
  | 1 => (s.setPtp d (fun q => { q with reqAt := some t }), m)
  | 2 => (s.setPtp d (fun q => { q with reqAt := some t }), m)
  | 3 =>
    if ptpTwoStep m then (s.ptpSend u d (ptpHead 10 20 num 0 0 (ptpSeq m) u ++ tsBytes t ++ sub m 44 10), m)
    else (s, m.take 8 ++ be 8 (beAt m 8 8 + (t - ptpTs m 34) * 65536) ++ sub m 16 18 ++ zeros 10 ++ m.drop 44)
  | _ => (s, m)

end Sys2Proof.Machine
end

