-- ==== Sys2Proof/Machine/Qos.lean ====
section
/-! DEFINITION. Traffic classes (R202 to R222): the transmitters' choice by strict priority, the measure of the class-0 latency,
spill, preemption, the uplinks and 10BASE-T1S on the sending side. -/

namespace Sys2Proof.Machine

/-! ## What stands at the head of a port -/

/-- The highest class of a port with a committed packet (R218); in a supply warning only class 0 starts on power-line, radio and
10BASE-T1S (R452). -/
def State.headCls (s : State) (p : Nat) : Option Nat :=
  let l := if 2 ≤ p ∧ s.on F.PWR_STATUS_WARN then [0] else [0, 1, 2, 3]
  l.find? (fun c => !(s.egq (14 + 4 * p + c)).q.isEmpty)

/-- The packet at the head of a port's queues. -/
def State.headPkt (s : State) (p : Nat) : Option EgPkt :=
  (s.headCls p).bind (fun c => (s.egq (14 + 4 * p + c)).q.head?)

/-! ## Taking a packet (R212 to R220) -/

/-- A queue with its new head, which reaches the head now. -/
def headNow (t : Nat) : List EgPkt → List EgPkt
  | [] => []
  | a :: l => { a with headT := t } :: l

/-- Packets whose producers wait are offered again, in their order (R220). -/
def State.refill (s : State) (p cls : Nat) : State :=
  let q := s.egq (14 + 4 * p + cls)
  q.wait.foldl (fun t pk => t.enq p pk .wait) (s.setEgq { q with wait := [] })

/-- The oldest packet of a class taken from a port's queue, with the check of R216; none where the check discards it. -/
def State.egTake (s : State) (p cls : Nat) : State × Option EgPkt :=
  let id := 14 + 4 * p + cls
  let q := s.egq id
  match q.q with
  | [] => (s, none)
  | pk :: rest =>
    let s1 := s.setEgq { q with q := headNow s.time.clk rest }
    match s1.qTake id (q.q.map EgPkt.size) with
    | (s2, .fine) => (s2.refill p cls, some pk)
    | (s2, .discard) => (s2.refill p cls, none)
    | (s2, .flush) => ((s2.setEgq { s2.egq id with q := [] }).refill p cls, none)

/-- EGRESS_SPILL_DRAIN (R219): the oldest packet of a ring goes to its queue when it has room. -/
def execEgressSpillDrain (port cls : Nat) (s : State) : Out :=
  let id := 14 + 4 * port + cls
  let q := s.egq id
  ok (match q.ring with
    | [] => s
    | pk :: rest =>
      if 14 ≤ port ∨ cls < 2 ∨ 3 < cls ∨ queueWords id < pktsWords q.q + pktWords 1536 then s
      else
        let pk1 := if q.q.isEmpty then { pk with headT := s.time.clk } else pk
        let s1 := s.setEgq { q with q := q.q ++ [pk1], ring := rest, spilled := if rest.isEmpty then 0 else q.spilled }
        let s2 := if rest.isEmpty then s1.log 0x5106 [(1, id), (4, q.spilled)] (.ag 9) else s1
        s2.refill port cls)

/-! ## Measuring the bound (R203, R207, R221) -/

/-- The latency above which a pair counts as over the bound (R203, R221). -/
def State.c0Limit (s : State) (p : Nat) : Nat :=
  if 2 ≤ p ∨ bit (s.get F.QOS_STATUS_PREACT) p then 150000
  else if s.geti F.UPLINK_CFG_MODE p = 0 then 151260 else 162590

/-- The conditions of R207 that did not hold for a pair, in the order of its table: the frames' sizes, egress load over the last
second, configuration, restart, memory on the frame's own path: its ingress queue, its egress queue, the post table, the pinned keys. Only an entering frame in
profile is measured. -/
def State.c0Broken (s : State) (p len t n inq rate : Nat) : Nat :=
  let mine := s.port.egLoad.filter (fun x => x.1 == p)
  let bits := (mine.map (fun x => x.2.2)).sum * 8
  b2n (decide (256 < len) || decide (256 < n)) +
  4 * b2n (decide (2000 < mine.length) || decide (rate < bits * 10)) +
  8 * b2n (s.restricted || s.pwr.noImage || !s.on F.QOS_STATUS_C0READY) +
  16 * b2n (decide (t < s.pwr.c0Ready)) +
  32 * b2n (s.port.memBad.any (fun m => ((if inq = 5 then [0, 5] else [inq]) ++ [14 + 4 * p, 94, 95]).contains m.1 && decide (t ≤ m.2)))

/-- A pair measured at an egress port (R221). -/
def State.measure (s : State) (p len : Nat) (pair : Nat × Nat × Nat) (at_ rate : Nat) : State :=
  let d := at_ - pair.1
  let s1 := (s.inci F.QOS_C0CNT p 1).seti F.QOS_C0MAX_NS p (max (s.geti F.QOS_C0MAX_NS p) (min max32 d))
  if d ≤ s.c0Limit p then s1
  else (s1.inci F.QOS_C0OVR p 1).logOnce 0x5103 p nsS [(1, p), (8, d), (1, s.c0Broken p len pair.1 pair.2.1 pair.2.2 rate)] (.ag 9)

/-- Whether a packet carries an HCP frame. -/
def EgBody.carries (b : EgBody) (fr : Bytes) : Bool :=
  match b with
  | .hcp _ _ _ f => f == fr
  | _ => false

/-- A frame placed on an egress medium: what the port sends with its stamp and on power-line the mains instant (R27), the class-0 load of the last
second, the instant of a notification (R301), the measure, whose leaving instant is `at_`. -/
def State.placed (s : State) (p : Nat) (pk : EgPkt) (at_ rate : Nat) : State :=
  let load := if pk.cls = 0 then
      s.port.egLoad.filter (fun x => decide (s.time.clk < x.2.1 + nsS)) ++ [(p, s.time.clk, pk.len)] else s.port.egLoad
  let kept := s.port.notifs.map (fun n => if n.up == p && pk.body.carries n.frame then { n with sent := s.time.clk } else n)
  let sent : EgPkt := { pk with frame := s.outFrame p pk, sent := some (s.time.dev, s.stampFrac)
                                mains := if 10 ≤ p ∧ p < 13 then some s.angle else none }
  let s1 : State := { s with port := { s.port with out := insertK p sent s.port.out, egLoad := load, notifs := kept } }
  match pk.cls, pk.pairT with
  | 0, some t => s1.measure p pk.len t at_ rate
  | _, _ => s1

/-! ## The uplinks (R211, R218, R279, R280) -/

/-- The verify and respond exchange of an uplink ends (R211): event 0x5107. -/
def State.verified (s : State) (up : Nat) (good : Bool) : State :=
  if 1 < up ∨ !bit (s.get F.QOS_CTRL_PREEMPT) up ∨ !s.on F.QOS_CTRL_VERIFY then s
  else (s.set F.QOS_STATUS_PREACT (setBit (s.get F.QOS_STATUS_PREACT) up good)).log 0x5107 [(1, up), (1, b2n good)] (.ag 9)

/-- The elapsed time at which the wire is free after a frame: its preamble, its bytes and the gap. -/
def State.flyEnd (s : State) (f : Fly) : Nat := f.at_ + wireNs (s.upRate f.up) (8 + (f.len - f.before) + 12)

/-- The frame that an uplink's wire carries now. -/
def State.flying (s : State) (u : Nat) : Option Fly :=
  s.port.fly.find? (fun f => f.up == u && !f.susp && decide (s.time.clk < s.flyEnd f))

/-- The frame of an uplink that an express frame has suspended. -/
def State.suspended (s : State) (u : Nat) : Option Fly := s.port.fly.find? (fun f => f.up == u && f.susp)

/-- Where a preemptable frame may be cut (R211): the bytes of its present fragment, at least 64 × (ADDFRAG + 1) with the fragment's check sequence, that
leave at least 64 B for the last; none where it may not be cut any more. -/
def State.flyCut (s : State) (f : Fly) : Option Nat :=
  let gone := (s.time.clk - f.at_) * s.upRate f.up / (8 * nsS) - 8
  let c := max (64 * (s.get F.QOS_CTRL_ADDFRAG + 1) - 4) gone
  if f.pre && decide (f.before + c + 64 ≤ f.len) then some c else none

/-- Elapsed time runs on to where an uplink's wire takes a frame (R211): an express frame suspends a preemptable one in flight at the first point
permitted; every other waits for the end of what the wire carries. -/
def State.upReady (s : State) (u : Nat) (express : Bool) : State :=
  match s.flying u with
  | none => s
  | some f =>
    match (if express && bit (s.get F.QOS_STATUS_PREACT) u then s.flyCut f else none) with
    | some c =>
      let s1 := s.advTo (f.at_ + wireNs (s.upRate u) (8 + c + 4 + 12))
      { s1 with port := { s1.port with fly := { f with before := f.before + c, susp := true } :: s1.port.fly.filter (fun x => x.up != u) } }
    | none => s.advTo (s.flyEnd f)

/-- A frame begins on an uplink's wire. -/
def State.fly (s : State) (f : Fly) : State :=
  { s with port := { s.port with fly := f :: s.port.fly.filter (fun x => x.up != f.up || (x.susp && !f.pre)) } }

/-- An address on the link of an uplink (R279): link-local, multicast, or under the prefix of UPLINK_IP. PRESUMED: the prefix is the usual 64 bits, its
length is not stated. -/
def State.onLink (s : State) (u a : Nat) : Bool :=
  a / 2 ^ 118 == 0x3FA || a / 2 ^ 120 == 0xFF || (s.upIp u != 0 && a / 2 ^ 64 == s.upIp u / 2 ^ 64)

/-- The router of an uplink: UPLINK_RTR. -/
def State.upRtr (s : State) (u : Nat) : Nat :=
  ((s.geti F.UPLINK_RTR0 u * 2 ^ 32 + s.geti F.UPLINK_RTR1 u) * 2 ^ 32 + s.geti F.UPLINK_RTR2 u) * 2 ^ 32 + s.geti F.UPLINK_RTR3 u

/-- The next hop of a packet (R279): off-link destinations through the router; none without one. -/
def State.hopOf (s : State) (u : Nat) (b : EgBody) : Option Nat :=
  let to_ := match b with | .hcp a _ _ _ => some a | .ip a _ => some a | _ => none
  match to_ with
  | none => some 0
  | some a => if s.onLink u a then some a else if s.upRtr u = 0 then none else some (s.upRtr u)

/-- The MACsec tag of the next frame of an uplink (R280): the association of the key number in use, the packet number, and the part's own channel. -/
def State.secTag (s : State) (up : Nat) : SecTag :=
  ⟨s.geti F.UPLINK_KNUM up % 4, (s.sec up).tx + 1, upMac up * 65536 + 1, 1⟩

/-- A packet taken for an uplink leaves (R27, R218, R280): its first bit now, its stamp at the delimiter. One that must leave protected while no secure
association is installed, or that has no way to its destination, is discarded. -/
def State.upSend (s : State) (up : Nat) (pk : EgPkt) : State :=
  let s0 := s.install up
  let m := s0.sec up
  match s0.hopOf up pk.body with
  | none => s0
  | some hop =>
    if pk.body.prot && !m.installed then s0
    else
      let s1 := if pk.body.prot then s0.setSec up { m with tx := m.tx + 1 } else s0
      let at_ := s1.time.clk
      let pre := bit (s.get F.QOS_STATUS_PREACT) up && pk.cls != 0
      let s2 := ((s1.fly ⟨up, at_, 0, pk.len, pre, false⟩).adv (wireNs (s1.upRate up) 7)).inci F.UPLINK_TXOK up 1
      let (s3, b) := match pk.body with
        | .ptp d x => let (t, y) := s2.ptpSent up d x; (t, EgBody.ptp d y)
        | x => (s2, x)
      s3.placed up { pk with body := b, hop := hop, sec := if pk.body.prot then some (s0.secTag up) else none } at_ (s.upRate up)

/-- UPLINK_TRANSMIT (R211, R218, R280): the next frame by strict priority. With preemption active a frame of class 0 goes as express traffic and
suspends a preemptable frame in flight; a suspended frame goes on before any other frame of its kind. -/
def execUplinkTransmit (up : Nat) (s : State) : Out :=
  ok (if 1 < up ∨ s.geti F.UPLINK_CFG_EN up = 0 ∨ s.geti F.UPLINK_STATUS_LINK up = 0 ∨ !s.live up then s
  else
    let s0 := s.bcDue up
    let express := s0.headCls up == some 0
    match (if express then none else s0.suspended up) with
    | some f =>
      let s1 := s0.upReady up false
      s1.fly { f with at_ := s1.time.clk, susp := false }
    | none => match s0.headCls up with
      | none => s0
      | some c =>
        let s1 := s0.upReady up express
        match s1.egTake up c with
        | (s2, none) => s2
        | (s2, some pk) => s2.upSend up pk)

/-! ## 10BASE-T1S -/

/-- The frames of one burst at a transmit opportunity that began at `t` (R205): each takes its preamble, its bytes and the gap. The medium is free from
`t` on (R221). -/
def State.burst (s : State) (seg t : Nat) : Nat → State
  | 0 => s
  | n + 1 => match s.headCls (2 + seg) with
    | none => s
    | some c => match s.egTake (2 + seg) c with
      | (s1, none) => s1.burst seg t n
      | (s1, some pk) =>
        (((s1.inci F.T1S_TXOK seg 1).placed (2 + seg) pk (max t pk.headT) 10000000).adv (wireNs 10000000 (8 + pk.len + 12))).burst seg t n

/-- PLCA_OPPORTUNITY (R205): at node 0's opportunity waiting frames go out in one burst, class 0 first. -/
def execPlcaOpportunity (seg : Nat) (s : State) : Out :=
  ok (if 7 < seg ∨ !bit (s.get F.T1S_CTRL_EN) seg ∨ !s.live (2 + seg) then s
  else s.burst seg s.time.clk (s.geti F.T1S_PLCA_MAXBC seg + 1))

/-- PREEMPT_VERIFY (R211): the verify and respond exchange of an uplink ends. -/
def execPreemptVerify (up : Nat) (good : Bool) (s : State) : Out := ok (s.verified up good)

/-- C0FAULT_END (R216): 100 µs have passed since the flush. -/
def execC0faultEnd (s : State) : Out :=
  ok (match s.port.c0Fault with
    | none => s
    | some t =>
      let s1 := s.advTo t
      { s1.set F.QOS_STATUS_C0FAULT 0 with port := { s1.port with c0Fault := none } })

/-! ## Registers (R222) -/

/-- What a write of QOS_CNTCLR does: every QOS counter and latency record goes to 0. -/
def qosClrAct : Act := fun _ _ v s =>
  if bit v 0 then
    let s1 := [F.QOS_OUTPROF, F.QOS_C0DROP, F.QOS_C0FAULTS, F.QOS_HDROP, F.QOS_DROP2, F.QOS_DROP3].foldl
      (fun (t : State) f => t.set f 0) s
    let s2 := (List.range 14).foldl (fun (t : State) p =>
      ((t.seti F.QOS_C0MAX_NS p 0).seti F.QOS_C0CNT p 0).seti F.QOS_C0OVR p 0) s1
    (List.range 94).foldl (fun (t : State) i => (t.seti F.QOS_QCE_CORR i 0).seti F.QOS_QCE_UNCORR i 0) s2
  else s

/-- QOS_CNTCLR (R222). -/
def execQosCntclr (p : Port) (v : Word) (s : State) : Out :=
  ok (s.regWrite qosClrAct p F.QOS_CNTCLR_CLR.addr v.toNat).st

/-- A queue as its registers show it: for each packet its bytes, class, OUTPROF and INJECTED; and the packets of its ring. -/
def State.qView (s : State) (id : Nat) : List (Nat × Nat × Bool × Bool) × Nat :=
  if id < 4 then ((s.region id).map (fun i => (i.len, i.cls, false, i.injected)), (s.ring id).length)
  else if id = 4 then (s.leg.queue.map (fun e => (e.bytes, 1, false, false)), 0)
  else if id = 5 then (s.pipe.distQ.map (fun i => (i.len, 0, false, i.injected)), 0)
  else if id < 14 then
    ((s.port.hcpIn.filter (fun h => reqQueue h.req == some id)).map (fun h => (h.size, (id - 6) % 4, h.req.outprof, false)), 0)
  else if id < 70 then
    let q := s.egq id
    (q.q.map (fun k => (k.size, k.cls, k.outprof, k.inj)), q.ring.length)
  else if id = 70 then (s.bal.inbox.map (fun _ => (512, 3, false, false)), 0)
  else if id = 71 then (s.dist.inbox.map (fun _ => (32, 3, false, false)), 0)
  else ([], 0)

/-- The idle item (R215). -/
def idleItem : Nat := 0x1D1E0000

/-- What a write of QOS_QSEL does: the queue's state is copied at one instant (R212 to R215). -/
def qosQselAct : Act := fun _ _ _ s =>
  let id := s.get F.QOS_QSEL_QUEUE
  let (l, ring) := s.qView id
  let n := queueWords id
  let occ := (l.map (fun x => pktWords x.1)).sum
  let c := (s.port.qctr.find? (fun x => x.id == id)).getD ⟨id, 0, 0⟩
  let rd := c.words % (2 * n)
  let w := match l.head? with | some x => lengthWord x.1 x.2.1 x.2.2.1 x.2.2.2 (c.pkts + 1) | none => idleItem
  (((((s.set F.QOS_QOCC occ).set F.QOS_QWR ((rd + occ) % (2 * n))).set F.QOS_QRD rd).set F.QOS_QPEEKL (w % 2 ^ 32)).set
    F.QOS_QPEEKH (w / 2 ^ 32)).set F.QOS_QSPILL ring

/-- QOS_QSEL (R222). -/
def execQosQsel (p : Port) (v : Word) (s : State) : Out :=
  ok (s.regWrite qosQselAct p F.QOS_QSEL_QUEUE.addr v.toNat).st

end Sys2Proof.Machine
end

