-- ==== Sys2Proof/Machine/Plc.lean ====
section
/-! DEFINITION. The power-line modem (R223 to R249): receive channels and reassembly, the PAN and its nodes, hatched tone maps,
link costs, neighbours and routes, transmit channels and calibration. -/

namespace Sys2Proof.Machine

/-! ## Members and their LINK areas (R230 to R232) -/

/-- A member of a channel's PAN. -/
def State.plcNode (s : State) (ch saddr : Nat) : Option PlcNode :=
  s.plc.nodes.find? (fun n => n.ch == ch && n.saddr == saddr)

/-- The members and direct neighbours of a channel as PLC_CHSTAT shows them (R249). -/
def State.showNodes (s : State) (ch : Nat) : State :=
  let l := s.plc.nodes.filter (fun n => n.ch == ch)
  (s.seti F.PLC_CHSTAT_NODES ch (min 16384 l.length)).seti F.PLC_CHSTAT_NBRS ch (min 4095 (l.filter (fun n => n.nbr)).length)

/-- The fields of a member that the LINK area and the post table mirror (R186, R231, R232). -/
def State.mirrorLink (s : State) (n : PlcNode) : State :=
  if (s.mrec n.slot).link.kind = 1 then
    let s1 := s.onRec n.slot (fun r => { r with link := { n.link with kind := 1 } })
    match s1.post n.slot with
    | some p => s1.setPost (p.route (s1.mrec n.slot))
    | none => s1
  else s

/-- A member's entry written. -/
def State.setPeer (s : State) (n : PlcNode) : State :=
  let l := s.plc.nodes.filter (fun x => !(x.ch == n.ch && x.saddr == n.saddr))
  (({ s with plc := { s.plc with nodes := l ++ [n] } } : State).showNodes n.ch).mirrorLink n

/-- The mains angle of a channel's phase (R47). -/
def State.phaseAngle (s : State) (ph : Nat) : Nat :=
  (s.angle % 65536 + 65536 - s.geti F.MAINS_PHASE_DISP ph % 65536) % 65536

/-- The capability element of a peer taken in (R240, R241); an unknown version is ignored, and absent masks are withdrawn. -/
def PlcNode.takeElem (n : PlcNode) (e : CapElem) (angle now : Nat) : PlcNode :=
  if e.version ≠ 1 then n
  else
    let fl := setBit (setBit n.link.lflags 2 (bit e.caps 0)) 3 (bit e.caps 1)
    let ofs := if bit e.caps 2 then (e.angle % 65536 + 65536 - angle) % 65536 else n.link.angofs
    { n with link := { n.link with lflags := fl, angofs := ofs }
             masks := if bit e.caps 3 then e.masks else []
             masksAt := if bit e.caps 3 then now else n.masksAt }

/-! ## Carriers, symbols and rates (R223, R227, R228, R240, R243) -/

/-- The carrier groups of a band, and the carriers of a group (R240): 6 of 6 in CENELEC-A, 24 of 3 in FCC. -/
def groupsOf (band : Nat) : Nat := if band = 0 then 6 else 24
/-- The carriers of a group. -/
def perGroup (band : Nat) : Nat := if band = 0 then 6 else 3

/-- Every group of a band. -/
def allGroups (band : Nat) : Nat := 2 ^ groupsOf band - 1

/-- The carriers that a mask leaves. -/
def carriersOf (band mask : Nat) : Nat := ((List.range (groupsOf band)).filter (bit mask)).length * perGroup band

/-- A symbol's duration in ns, cyclic prefix included (R223). -/
def symNs (band : Nat) : Nat := if band = 0 then 695000 else 231700

/-- The rate in bit/s with every carrier (R228) of a modulation: 0 super-ROBO, 1 ROBO, 2 and 5 DBPSK and BPSK, 3 and 6 DQPSK and QPSK, 4 and 7 D8PSK and
8PSK. -/
def modRate (band mod : Nat) : Nat :=
  if band = 0 then [3000, 4500, 18100, 33700, 46400, 18100, 33700, 46400].getD mod 4500
  else [14100, 21200, 84800, 157800, 217300, 84800, 157800, 217300].getD mod 21200

/-- The DBPSK rate of a channel's band in bit/s (R229). -/
def plcRate (ch : Nat) : Nat := modRate (ch % 2) 2

/-- The hatch segments that a span of angle units touches, widened by a guard at both ends. -/
def segsOf (first units guard : Nat) : List Nat :=
  let lo := (first + 65536 - guard) / 4096
  let hi := (first + 65536 + units + guard) / 4096
  (List.range (hi - lo + 1)).map (fun i => (lo + i) % 16)

/-- The segment mask of a symbol (R243): the AND of a receiver's masks over the segments that it touches with the guard, on the receiver's
angle. -/
def State.symMask (s : State) (masks : List Nat) (band first units : Nat) : Nat :=
  (segsOf first units (s.get F.PLC_HATCH_HGUARD)).foldl (fun m k => m &&& masks.getD k (allGroups band)) (allGroups band)

/-- The angle units of a duration at the present mains frequency. -/
def State.unitsOf (s : State) (ns : Nat) : Nat := ns * s.mains.freq / nsS

/-- The groups that each symbol after the header uses (R228, R243): a symbol carries bits in proportion to its carriers, `need` in units of bits × ns × all
carriers; the k-th starts at angle `a0` and k symbols. Without masks every symbol uses the standard tone map. -/
def State.symGroups (s : State) (band mod tmap : Nat) (masks : Option (List Nat)) (a0 : Nat) : Nat → Nat → Nat → List Nat
  | 0, _, _ => []
  | fuel + 1, k, need =>
    let g := match masks with
      | some m => tmap &&& s.symMask m band ((a0 + s.unitsOf (k * symNs band)) % 65536) (s.unitsOf (symNs band))
      | none => tmap
    let bits := modRate band mod * symNs band * carriersOf band g
    g :: (if need ≤ bits then [] else s.symGroups band mod tmap masks a0 fuel (k + 1) (need - bits))

/-! ## The transmit channel's signals (R224, R225) -/

/-- PLn_TXEN of a phase: high from LEAD before the first preamble sample until 20 µs after the last symbol. -/
def State.plcTxen (s : State) (ph : Nat) : Bool :=
  match lookupK ph s.plc.tx with
  | some x => decide (x.rise ≤ s.time.clk) && decide (s.time.clk < x.stop + 20000)
  | none => false

/-- PLn_BAND of a phase: the band of its latest frame, CENELEC-A before the first. -/
def State.plcBand (s : State) (ph : Nat) : Nat := (lookupK ph s.plc.bands).getD 0

/-- The elapsed end of a phase's receive blanking: 100 µs after PLn_TXEN falls. -/
def State.blankEnd (s : State) (ph : Nat) : Nat := match lookupK ph s.plc.tx with | some x => x.stop + 120000 | none => 0

/-- The receive channels of a phase are blanked (R225). -/
def State.plcBlanked (s : State) (ph : Nat) : Bool := decide (s.time.clk < s.blankEnd ph)

/-! ## Link costs (R245) -/

/-- The G.9903 cost of a link with a number of active carriers, 1 to 254. -/
def State.linkCost (s : State) (band mod active lqi : Nat) : Nat :=
  max 1 (min 254 (Config.plcCost (s.get F.PLC_ROUTE_KQ) (s.get F.PLC_ROUTE_KM) (s.get F.PLC_ROUTE_KC) mod active
    (groupsOf band * perGroup band) lqi))

/-- The link cost of a neighbour after a tone map exchange (R245, R247): the standard cost, or the mean of 16 segment costs rounded
up; the link is reachable again. -/
def State.costLink (s : State) (n : PlcNode) : State :=
  let band := n.ch % 2
  let std := s.linkCost band n.modF (carriersOf band n.tmF) n.link.lqif
  let n0 := { n with link := { n.link with lflags := setBit n.link.lflags 4 false } }
  if s.on F.PLC_CTRL_SEGCOST_EN && bit n.link.lflags 2 && bit n.link.lflags 3 && n.masks.length == 16 then
    let l := n.masks.map (fun m =>
      let k := carriersOf band (n.tmF &&& m)
      if k = 0 then 254 else max std (s.linkCost band n.modF k n.link.lqif))
    s.setPeer { n0 with cost := (l.sum + 15) / 16, link := { n0.link with segcosts := l } }
  else s.setPeer { n0 with cost := std }

/-! ## Frames of the modem's own protocol (R227, R230, R240, R246, R247) -/

/-- The capability element (R240), with the mains angle of now: masks while the channel publishes them. DESIGN CHOICE: ANGLE_VALID is
set while the mains angle clock is not ABSENT. -/
def State.capBytes (s : State) (ch : Nat) : Bytes :=
  let masks := if bit (s.get F.PLC_STATUS_PUBLISH) ch then (lookupK ch s.plc.masks).getD [] else []
  let valid := s.get F.MAINS_STATUS_STATE != 0
  be 3 Config.extOui ++ be 1 1 ++
    be 1 (b2n (s.on F.PLC_CTRL_HATCH_EN) + 2 * b2n (s.on F.PLC_CTRL_SEGCOST_EN) + 4 * b2n valid + 8 * b2n (masks.length == 16)) ++
    be 2 (if valid then s.phaseAngle (ch / 2) else 0) ++ (if masks.length = 16 then (masks.map (be 3)).flatten else [])

/-- A frame queued on a channel: 1 a tone map request, 2 a route request, 5 a tone map response, 6 an LBP message that accepts a join, 7 one that
refuses it. Its length is that of G.9903 and free. -/
def State.plcLink (s : State) (ch kind dest : Nat) : State :=
  let (n, s1) := s.draw
  s1.enq (10 + ch / 2) { cls := 3, len := 1 + n % 400, body := .link kind dest [], chan := ch } .wait

/-- A tone map request answered (R227): the tone map and modulation toward the G1M are what G.9903 makes of the SNR measured, and free. -/
def State.toneAnswer (s : State) (n : PlcNode) : State :=
  let (t, s1) := s.draw
  let (m, s2) := s1.draw
  (s2.setPeer { n with tmR := 1 + t % allGroups (n.ch % 2), modR := m % 8 }).plcLink n.ch 5 n.saddr

/-! ## Receiving (R233 to R236, R246) -/

/-- A frame decoded directly from a member (R246): a beacon. Its first makes it a neighbour with a direct route. `angle` is the channel's
at the end of the preamble (R241). -/
def State.beacon (s : State) (f : PlcRx) (angle : Nat) : State :=
  match s.plcNode f.ch f.saddr with
  | none => s
  | some n =>
    let l := { n.link with missed := 0, heardt := s.secs, lqir := f.lqi }
    let n1 : PlcNode := if n.nbr then { n with heard := true, link := l }
      else { n with heard := true, nbr := true, route := true, since := s.time.clk
                    link := { l with lflags := setBit l.lflags 1 true, nexthop := n.saddr, hops := 1 } }
    let n2 := match f.elem, f.kind with
      | some e, .tonemap => n1.takeElem e angle s.time.clk
      | some e, .mac => n1.takeElem e angle s.time.clk
      | _, _ => n1
    if f.kind = .tonemap then s.costLink { n2 with tmF := f.tmap % 2 ^ groupsOf (f.ch % 2), modF := f.mod, link := { n2.link with lqif := f.lqif } }
    else if f.kind = .toneReq then s.toneAnswer n2
    else s.setPeer n2

/-- The item of a datagram (R57, R58, R233): stamp and mains fields are those of its first fragment. -/
def State.plcItem (s : State) (d : Reasm) : State :=
  let body := (d.parts.map (fun p => p.2.1)).flatten
  match lookupK 0 d.parts with
  | none => s
  | some (_, p) =>
    let i : Item := { medium := 0, port := d.ch, mainsValid := p.valid, stamp := p.dev, frac := p.frac, angle := p.mains % 65536
                      cycle := p.mains / 65536 % 281474976710656, linkq := d.snr, net := d.mac.length, dur := s.time.clk - p.clk
                      frame := d.mac ++ body }
    if 1496 < i.frame.length then s else s.receive i (10 + d.ch / 2) (plcRate d.ch)

/-- The capture at the end of a preamble (R27). -/
def State.plcStamp (s : State) : PlcStamp := ⟨s.time.dev, s.stampFrac, s.angle, s.get F.MAINS_STATUS_STATE == 2, s.time.clk⟩

/-- A fragment taken into its datagram (R233): the first fragment gives the header. -/
def State.fragment (s : State) (f : PlcRx) (st : PlcStamp) : State :=
  let same := fun (d : Reasm) => d.ch == f.ch && d.tag == f.tag && d.saddr == f.saddr
  let d0 : Reasm := (s.plc.reasm.find? same).getD ⟨f.ch, f.tag, f.saddr, max 1 f.frags, [], [], 0, s.time.clk⟩
  let d1 : Reasm := { d0 with parts := insertK f.part (f.data, st) d0.parts }
  let d2 : Reasm := if f.part = 0 then { d1 with mac := f.mac, snr := tc 1 f.snr } else d1
  let rest := s.plc.reasm.filter (fun d => !same d)
  if d2.parts.length = d2.frags then ({ s with plc := { s.plc with reasm := rest } } : State).plcItem d2
  else { s with plc := { s.plc with reasm := rest ++ [d2] } }

/-- The receive channel runs (R223, R275). -/
def State.plcRuns (s : State) (ch : Nat) : Bool := bit (s.get F.PLC_CTRL_RXEN) ch && s.live (10 + ch / 2)

/-! ### Impulse blanking and level steps (R234 to R236) -/

/-- Whether a sample is marked (R234): full scale, or its magnitude above THR × 0.25 times the running RMS of the channel's clear samples, here squared. -/
def State.marks (s : State) (sum cnt : Nat) (x : Sample) : Bool :=
  x.full || (cnt != 0 && decide ((s.get F.PLC_STIP_THR) ^ 2 * sum < 16 * x.mag ^ 2 * cnt))

/-- The stipple mask of a symbol, against the clear samples of the last 16 symbol periods. -/
def State.stipple (s : State) (h : List (Nat × Nat)) (x : PlcSym) : List Bool :=
  x.samples.map (s.marks (h.map (fun p => p.1)).sum (h.map (fun p => p.2)).sum)

/-- The symbol's samples as they go to the FFT (R234): marked ones are zero. -/
def blankedOf (x : PlcSym) (m : List Bool) : List Nat := (x.samples.zip m).map (fun p => if p.2 then 0 else p.1.mag)

/-- The step in dB from one mean carrier magnitude to another, in whole dB: 20 log10 of their ratio, truncated. -/
def stepDb (p l : Nat) : Int :=
  let down := fun (a b : Nat) => ((List.range 200).filter (fun d => decide (b ^ 20 * 10 ^ d ≤ a ^ 20))).length - 1
  if p ≤ l then (down l p : Nat) else -((down p l : Nat) : Int)

/-- Whether a step is above a number of dB (R236). -/
def levelStep (p l db : Nat) : Bool := decide (p ^ 20 * 10 ^ db < l ^ 20) || decide (l ^ 20 * 10 ^ db < p ^ 20)

/-- The work on a frame's symbols: clear samples of the last 16 periods, masks, soft values, level of the last unerased symbol, the ratio by
which soft values are rescaled, blanked samples, erased symbols, steps in dB, the samples for the FFT. -/
structure Noise where
  rms : List (Nat × Nat)
  masks : List (List Bool) := []
  soft : List (List Int) := []
  last : Option Nat := none
  num : Nat := 1
  den : Nat := 1
  blanked : Nat := 0
  erased : Nat := 0
  steps : List Int := []
  fft : List (List Nat) := []

/-- One symbol (R234 to R236): an erased one has all soft values zero; a step rescales this and every later one. -/
def State.noiseSym (s : State) (a : Noise) (x : PlcSym) : Noise :=
  let m := s.stipple a.rms x
  let n := (m.filter id).length
  let clear := ((x.samples.zip m).filter (fun p => !p.2)).map (fun p => p.1.mag)
  let rms := (a.rms ++ [((clear.map (fun v => v ^ 2)).sum, clear.length)]).drop (a.rms.length - 15)
  let erase := decide (s.get F.PLC_STIP_ERAS * x.samples.length < 100 * n)
  let b := { a with rms, masks := a.masks ++ [m], fft := a.fft ++ [blankedOf x m], blanked := a.blanked + n }
  if erase then { b with soft := b.soft ++ [x.soft.map (fun _ => 0)], erased := b.erased + 1 }
  else
    let c := match a.last with
      | some p => if levelStep p x.level (s.get F.PLC_RXCAL_STEPDB) && x.level != 0 then
          { b with num := b.num * p, den := b.den * x.level, steps := b.steps ++ [stepDb p x.level] } else b
      | none => b
    { c with last := some x.level, soft := c.soft ++ [x.soft.map (fun v => Int.tdiv (v * (c.num : Int)) c.den)] }

/-- The symbols of a frame taken (R234 to R237): counters and events, the mask and the soft values, the level from which gain control goes on, and of a
frame that passes its checks the SNR by hatch segment. -/
def State.plcSymbols (s : State) (f : PlcRx) : State :=
  let a := f.syms.foldl s.noiseSym { rms := (lookupK f.ch s.plc.rms).getD [] }
  let a0 := s.phaseAngle (f.ch / 2)
  let age := s.get F.PLC_HATCH_AGE * 60 * nsS
  let new := (List.range f.syms.length).map (fun k =>
    (⟨f.ch, (a0 + s.unitsOf (k * symNs (f.ch % 2))) % 65536 / 4096, s.time.clk, ((f.syms[k]?).map (fun x => x.snr)).getD []⟩ : SegSnr))
  let keep := s.plc.snrs.filter (fun x => decide (s.time.clk ≤ x.at_ + age))
  let s1 : State := { s with plc := { s.plc with
    rms := insertK f.ch a.rms s.plc.rms, stip := insertK f.ch a.masks s.plc.stip, fft := insertK f.ch a.fft s.plc.fft, soft := insertK f.ch a.soft s.plc.soft
    agc := insertK f.ch (if a.steps.isEmpty then f.level else a.last.getD f.level) s.plc.agc
    snrs := if f.ok then keep ++ new else keep } }
  let s2 := (s1.inci F.PLC_BLANK f.ch a.blanked).inci F.PLC_ERAS f.ch a.erased
  a.steps.foldl (fun t d => (t.inci F.PLC_LSTEP f.ch 1).log 0x6030 [(1, f.ch), (4, tc 4 d)] (.ag 10)) s2

/-- The segment masks with which a frame marked HATCHED is decoded (R244): the channel's own as last published, on the mains angle clock or its
holdover count. -/
def State.decodeMasks (s : State) (f : PlcRx) : List Nat :=
  if !f.hatched then []
  else
    let band := f.ch % 2
    (List.range f.syms.length).map (fun k => if k < Config.plcFch band then allGroups band
      else s.symMask ((lookupK f.ch s.plc.masks).getD []) band ((s.phaseAngle (f.ch / 2) + s.unitsOf (k * symNs band)) % 65536) (s.unitsOf (symNs band)))

/-- The soft values of the carriers that a hatched frame's symbols do not use are none (R243, R244). -/
def softKept (band : Nat) (mask : Nat) (l : List Int) : List Int :=
  (List.range l.length).map (fun i => if bit mask (i / perGroup band) then l.getD i 0 else 0)

/-- The decoder's soft values of a hatched frame. -/
def State.hatchSoft (s : State) (ch : Nat) (dm : List Nat) : State :=
  let l := (((lookupK ch s.plc.soft).getD []).zip dm).map (fun p => softKept (ch % 2) p.2 p.1)
  { s with plc := { s.plc with soft := insertK ch l s.plc.soft } }

/-- PLC_FRAME_RECEIVE (R233): at the end of the preamble the stamp, then the symbols, FCS and MIC, beacon, element, and the datagram's
fragment. While the phase is blanked no preamble is detected (R225). -/
def execPlcFrameReceive (f : PlcRx) (s : State) : Out :=
  ok (if 5 < f.ch ∨ !s.plcRuns f.ch ∨ s.plcBlanked (f.ch / 2) then s
  else
    let st := s.plcStamp
    let angle := s.phaseAngle (f.ch / 2)
    let dm := s.decodeMasks f
    let s0 := s.plcSymbols f
    let s0 := if f.hatched then s0.hatchSoft f.ch dm else s0
    let s1 := s0.adv (f.syms.length * symNs (f.ch % 2))
    if f.kind = .other then { s1 with plc := { s1.plc with unsup := insertK f.ch ((lookupK f.ch s1.plc.unsup).getD 0 + 1) s1.plc.unsup } }
    else if !f.ok then s1.inci F.PLC_FBAD f.ch 1
    else if f.secured && !s1.hasGmk f.ch then s1.inci F.PLC_NOKEY f.ch 1
    else
      let s2 := (s1.inci F.PLC_FOK f.ch 1).beacon f angle
      if f.kind = .data then s2.fragment f st else s2)

/-- REASSEMBLY_TIMEOUT (R233): a datagram incomplete after 10 s is discarded. -/
def execReassemblyTimeout (ch tag : Nat) (s : State) : Out :=
  ok (match s.plc.reasm.find? (fun d => d.ch == ch && d.tag == tag) with
    | none => s
    | some d =>
      let s1 := s.advTo (d.at_ + 10 * nsS)
      ({ s1 with plc := { s1.plc with reasm := s1.plc.reasm.eraseP (fun x => x == d) } } : State).inci F.PLC_REASM ch 1)

/-! ## Joining (R230, R231, R248) -/

/-- The label code of bootstrap PSKs in the tag array. -/
def lblPSK : Nat := 2

/-- The lowest short address of a channel that no member holds. -/
def State.freeSaddr (s : State) (ch : Nat) : Option Nat :=
  (List.range (min 16384 (s.plc.nodes.length + 1))).findSome? (fun i => if (s.plcNode ch (i + 1)).isNone then some (i + 1) else none)

/-- A join refused with its cause, and an LBP message that says so; a full channel is also reported once per hour (R248). -/
def State.joinNo (s : State) (ch cause : Nat) : State :=
  let s1 := s.log 0x6002 [(1, ch), (1, cause)] (.ag 10)
  (if cause = 1 then s1.logOnce 0x6012 ch (3600 * nsS) [(1, ch)] (.ag 10) else s1).plcLink ch 7 0

/-- A join accepted (R230, R231): a short address and the GMK go to the node in an LBP message, and the node moves from the channel where it was. -/
def State.joinYes (s : State) (j : JoinRq) (slot : Nat) : State :=
  let old := s.plc.nodes.filter (fun n => n.ident == j.ident)
  let s1 : State := { s with plc := { s.plc with nodes := s.plc.nodes.filter (fun n => n.ident != j.ident) } }
  let s2 := old.foldl (fun (t : State) n => t.showNodes n.ch) s1
  match s2.freeSaddr j.ch with
  | none => s.joinNo j.ch 1
  | some a =>
    let n : PlcNode := { ch := j.ch, saddr := a, slot, ident := j.ident
                         link := { kind := 1, saddr := a, chan := j.ch, lflags := 1 } }
    let n1 := match j.elem with
      | some e => n.takeElem e (s.phaseAngle (j.ch / 2)) s.time.clk
      | none => n
    ((s2.setPeer n1).log 0x6001 [(1, j.ch), (2, a), (4, slot)] (.ag 10)).plcLink j.ch 6 a

/-- PLC_JOIN (R230). -/
def execPlcJoin (j : JoinRq) (s : State) : Out :=
  ok (if 5 < j.ch ∨ !s.plcRuns j.ch then s
  else if !s.hasGmk j.ch then s.joinNo j.ch 3
  else match s.findSlot j.ident with
    | none => s.joinNo j.ch 0
    | some (slot, _) =>
      let r := s.mrec slot
      if r.state = 6 then s.joinNo j.ch 0
      else if s.pskOf r.seed j.ident ≠ some j.psk then s.joinNo j.ch 2
      else
        let s1 := s.cacheKey lblPSK r.seed (be 8 j.ident) false
        let others := s1.plc.nodes.filter (fun n => n.ch == j.ch && n.ident != j.ident)
        if 16384 ≤ others.length then s1.joinNo j.ch 1 else s1.joinYes j slot)

/-! ## Neighbours and routes (R246, R247) -/

/-- A route discovery starts, or waits for a second in which its channel may start one (R247, PLC_ROUTE.RDRATE). -/
def State.startDisc (s : State) (ch dest : Nat) : State :=
  let now := s.time.clk
  let (w, c) : Nat × Nat := match lookupK ch s.plc.discW with
    | none => (now, 1)
    | some (w, c) =>
      if w + nsS ≤ now then (now, 1) else if c < s.get F.PLC_ROUTE_RDRATE then (w, c + 1) else (w + nsS, 1)
  let s1 : State := { s with plc := { s.plc with discW := insertK ch (w, c) s.plc.discW } }
  if w ≤ now then s1.plcLink ch 2 dest
  else { s1 with plc := { s1.plc with discQ := s1.plc.discQ ++ [(ch, dest, w)] } }

/-- The discoveries whose second has come start. -/
def State.discRun (s : State) : State :=
  let go := s.plc.discQ.filter (fun q => decide (q.2.2 ≤ s.time.clk))
  let s1 : State := { s with plc := { s.plc with discQ := s.plc.discQ.filter (fun q => decide (s.time.clk < q.2.2)) } }
  go.foldl (fun (t : State) q => t.plcLink q.1 2 q.2.1) s1

/-- The discoveries that a lost neighbour starts (R247): posts first, then ascending short address. -/
def State.discover (s : State) (ch saddr : Nat) : State :=
  let hit := fun (n : PlcNode) => n.ch == ch && n.link.nexthop == saddr
  let gone := sortBy (fun (a b : PlcNode) => decide (a.saddr ≤ b.saddr)) (s.plc.nodes.filter hit)
  let s1 : State := { s with plc := { s.plc with nodes := s.plc.nodes.map (fun n =>
    if hit n then { n with route := false, finding := true } else n) } }
  let order := gone.filter (fun n => (s.post n.slot).isSome) ++ gone.filter (fun n => (s.post n.slot).isNone)
  order.foldl (fun (t : State) n => t.startDisc ch n.saddr) s1

/-- The third missed beacon (R247). -/
def State.unreach (s : State) (n : PlcNode) : State :=
  let s1 := (s.setPeer { n with cost := 255, link := { n.link with lflags := setBit n.link.lflags 4 true, rcost := 65535 } }).log
    0x6010 [(1, n.ch), (2, n.saddr)] (.ag 10)
  s1.discover n.ch n.saddr

/-- NEIGHBOUR_PERIOD (R246): a beacon period of a neighbour, PLC_NBR.PERIOD seconds, ends and the next begins. -/
def execNeighbourPeriod (ch saddr : Nat) (s : State) : Out :=
  ok (match s.plcNode ch saddr with
    | none => s
    | some n =>
      if !n.nbr ∨ !s.plcRuns ch then s
      else
        let s0 := (s.advTo (n.since + s.get F.PLC_NBR_PERIOD * nsS)).discRun
        if n.heard then s0.setPeer { n with heard := false, since := s0.time.clk }
        else
          let m := min 3 (n.link.missed + 1)
          let n1 : PlcNode := { n with since := s0.time.clk, link := { n.link with missed := m } }
          let s1 := (s0.setPeer n1).plcLink ch 1 saddr
          if m = 3 ∧ n.link.missed ≠ 3 then s1.unreach n1 else s1)

/-- Frames that wait for a route are queued again (R247). -/
def State.unwait (s : State) (ch dest : Nat) : State :=
  let mine := s.plc.waitR.filter (fun w => w.ch == ch && w.dest == dest)
  let s1 : State := { s with plc := { s.plc with waitR := s.plc.waitR.filter (fun w => !(w.ch == ch && w.dest == dest)) } }
  mine.foldl (fun (t : State) w => t.enq (10 + ch / 2) w.pkt .wait) s1

/-- A discovery counted in its channel's round; the round's end is logged (R247). -/
def State.roundStep (s : State) (ch : Nat) (found : Bool) : State :=
  let (_, a, b) := (s.plc.found.find? (fun x => x.1 == ch)).getD (ch, 0, 0)
  let a1 := a + b2n found
  let b1 := b + b2n (!found)
  let rest := s.plc.found.filter (fun x => x.1 != ch)
  if s.plc.nodes.any (fun n => n.ch == ch && n.finding) then { s with plc := { s.plc with found := (ch, a1, b1) :: rest } }
  else ({ s with plc := { s.plc with found := rest } } : State).log 0x6011 [(1, ch), (4, a1), (4, b1)] (.ag 10)

/-- ROUTE_FOUND (R247): a LOADng discovery ends, with a route (next hop, cost, hops) or without. -/
def execRouteFound (ch dest : Nat) (route : Option (Nat × Nat × Nat)) (s : State) : Out :=
  ok (match s.plcNode ch dest with
    | none => s
    | some n =>
      let was := n.finding
      let s := match s.plc.discQ.find? (fun q => q.1 == ch && q.2.1 == dest) with
        | some q => (s.advTo q.2.2).discRun
        | none => s
      match route with
      | some (hop, cost, hops) =>
        let l := { n.link with nexthop := hop, rcost := min 65535 cost, hops := hops
                               lflags := setBit n.link.lflags 1 (hop == dest) }
        -- how long a route stays valid is LOADng's, and free
        let (e, s0) := s.draw
        let s1 := (s0.setPeer { n with route := true, finding := false, link := l, expiry := s.time.clk + e }).unwait ch dest
        if was then s1.roundStep ch true else s1
      | none =>
        if was then (s.setPeer { n with finding := false }).roundStep ch false else s)

/-- NOROUTE_TIMEOUT (R247): a frame has waited HOLDMS for a route and is discarded. -/
def execNorouteTimeout (ch dest : Nat) (s : State) : Out :=
  ok (match s.plc.waitR.find? (fun w => w.ch == ch && w.dest == dest) with
    | none => s
    | some w =>
      let s1 := s.advTo (w.at_ + s.get F.PLC_ROUTE_HOLDMS * 1000000)
      ({ s1 with plc := { s1.plc with waitR := s1.plc.waitR.eraseP (fun x => x == w) } } : State).inci F.PLC_NOROUTE ch 1)

/-! ## Transmitting (R223, R225, R226, R239, R244) -/

/-- Where a packet goes: the slot it is for. -/
def EgBody.slot? : EgBody → Option Nat
  | .down slot _ => some slot
  | .relay slot _ => some slot
  | _ => none

/-- The short address and the next hop toward a slot on a channel, and whether a route is held (R232, R247): class 0 to a post takes both from
its post table entry. A frame for a node that has moved to another channel since leaves on the channel for which it was queued (R231), to the
short address that the node had there. -/
def State.plcRoute (s : State) (cls : Nat) (pk : EgPkt) (slot : Nat) : Nat × Nat × Bool :=
  let node := s.plc.nodes.find? (fun n => n.ch == pk.chan && n.slot == slot)
  let moved := s.plc.nodes.any (fun n => n.ch != pk.chan && n.slot == slot)
  if node.isNone && moved && pk.hop != 0 then (pk.hop, pk.hop, true) else
  match cls, s.post slot, node with
  | 0, some p, none => (p.saddr, p.nexthop, p.saddr != 0)
  | 0, some p, some n => (p.saddr, p.nexthop, n.route)
  | _, _, some n => (n.saddr, n.link.nexthop, n.route)
  | _, _, none => (0, 0, false)

/-- Whether a frame to a neighbour goes hatched (R244). -/
def State.hatched (s : State) (ch saddr : Nat) : Bool :=
  match s.plcNode ch saddr with
  | some n => s.on F.PLC_CTRL_HATCH_EN && n.nbr && bit n.link.lflags 2 && !n.masks.isEmpty &&
      decide (s.time.clk ≤ n.masksAt + s.get F.PLC_HATCH_AGE * 60 * nsS) && s.get F.MAINS_STATUS_STATE == 2
  | none => false

/-- The start of the next hatch segment in which a phase may start a frame (R239), as a mains instant of phase A; none where the
present segment is permitted. -/
def State.nextSegment (s : State) (ph : Nat) : Option Nat :=
  if s.get F.MAINS_STATUS_STATE = 0 then none
  else
    let m := s.geti F.PLC_TXMASK_HMASK ph
    let a := s.phaseAngle ph
    let k := a / 4096
    if bit m k then none
    else (((List.range 16).map (fun i => i + 1)).find? (fun i => bit m ((k + i) % 16))).map
      (fun i => s.angle + ((k + i) * 4096 - a))

/-- How a frame to a neighbour leaves (R228, R243, R244): its tone map and modulation where the neighbour gave them, else ROBO on every carrier, and hatched
the neighbour's masks on its angle. `a0` is the G1M's angle at the first symbol after the header. PRESUMED: ROBO before a tone map
exchange and for a multicast, as in G.9903. -/
def State.plcOut (s : State) (pk : EgPkt) (hop a0 : Nat) : PlcOut :=
  let band := pk.chan % 2
  let pan := s.geti F.PLC_CHCFG_PANID pk.chan
  let attn := s.geti F.PLC_TXCFG_ATTN (pk.chan / 2)
  let need := pk.len * 8 * nsS * (groupsOf band * perGroup band)
  match s.plcNode pk.chan hop with
  | some n =>
    let mod := if n.tmF = 0 then 1 else n.modF
    let tmap := if n.tmF = 0 then allGroups band else n.tmF
    let h := s.hatched pk.chan hop
    ⟨pk.cls == 0, h, mod, tmap, s.symGroups band mod tmap (if h then some n.masks else none) (a0 + n.link.angofs) 4096 0 need, pan, attn⟩
  | none => ⟨pk.cls == 0, false, 1, allGroups band, s.symGroups band 1 (allGroups band) none 0 4096 0 need, pan, attn⟩

/-- A frame leaves on a phase (R225): PLn_BAND, 50 µs for a change of it, PLn_TXEN and LEAD, the preamble, at whose end the stamp is taken (R27), the
header and the symbols. A class-0 frame is measured from when it stood at the head with the medium free (R221): after the phase's frame before it. -/
def State.plcSend (s : State) (ph : Nat) (pk : EgPkt) (hop free : Nat) : State :=
  let band := pk.chan % 2
  let s0 := if s.plcBand ph = band then s else
    let t := ({ s with plc := { s.plc with bands := insertK ph band s.plc.bands } } : State)
    t.adv 50000
  let s1 := s0.adv (s0.geti F.PLC_TXCFG_LEAD ph * 1000)
  let s2 := (s1.adv (Config.plcPreamble band)).inci F.PLC_TXOK ph 1
  let o := s2.plcOut pk hop (s2.phaseAngle ph + s2.unitsOf (Config.plcFch band * symNs band))
  let s3 := if o.hatched then s2.inci F.PLC_TXHATCH ph 1 else s2
  let x : PlcTx := ⟨s0.time.clk, s1.time.clk, s2.time.clk + (Config.plcFch band + o.groups.length) * symNs band⟩
  let s4 : State := { s3 with plc := { s3.plc with tx := insertK ph x s3.plc.tx } }
  let body := match pk.body with
    | .link k d _ => if 5 ≤ k then EgBody.link k d (s4.capBytes pk.chan) else pk.body
    | b => b
  s4.placed (10 + ph) { pk with plc := some o, body := body } (max pk.headT free) (plcRate pk.chan)

/-- PLC_TRANSMIT (R225, R228, R239): the next frame of a phase contends in a permitted hatch segment, once the frame before it is over; one without a
route waits (R247). How long it contends is G.9903's and the line's, and free. -/
def execPlcTransmit (phase : Nat) (s : State) : Out :=
  let p := 10 + phase
  ok (if 2 < phase ∨ !bit (s.get F.PLC_CTRL_TXEN) phase ∨ !s.live p ∨ bit (s.get F.PLC_STATUS_DRVFAULT) phase then s
  else
    let s := if (s.headCls p).isNone then s.discRun else s
    match s.headCls p with
    | none => s
    | some _ =>
      let free := match lookupK phase s.plc.tx with | some x => x.stop + 20000 | none => 0
      let sa := s.advTo free
      let s0 := match sa.nextSegment phase with | some a => sa.advAngle a | none => sa
      match s0.headCls p with
      | none => s0
      | some c => match s0.egTake p c with
        | (s1, none) => s1
        | (s1, some pk) =>
          let go := fun (hop : Nat) => let (w, t) := s1.draw; (t.adv w).plcSend phase pk hop free
          match pk.body.slot? with
          | none => go (match pk.body with | .link _ d _ => d | _ => 65535)
          | some slot =>
            let (dest, hop, held) := s1.plcRoute c pk slot
            if held then go hop
            else { s1 with plc := { s1.plc with waitR := s1.plc.waitR ++ [⟨pk.chan, dest, pk, s1.time.clk⟩] } })

/-- DRIVER_FAULT (R226): PLn_FAULT_N falls. -/
def execDriverFault (phase : Nat) (s : State) : Out :=
  ok (if 2 < phase ∨ bit (s.get F.PLC_STATUS_DRVFAULT) phase then s
  else
    let s1 := s.set F.PLC_STATUS_DRVFAULT (setBit (s.get F.PLC_STATUS_DRVFAULT) phase true)
    ({ s1 with plc := { s1.plc with faultLow := phase :: s1.plc.faultLow } } : State).log 0x6040 [(1, phase)] (.ag 10))

/-- DRIVER_FAULT_CLEAR (R226): the input has stayed high for 10 ms. -/
def execDriverFaultClear (phase : Nat) (s : State) : Out :=
  ok (if 2 < phase ∨ s.forces 31 phase = true then s
  else
    let s1 := s.set F.PLC_STATUS_DRVFAULT (setBit (s.get F.PLC_STATUS_DRVFAULT) phase false)
    { s1 with plc := { s1.plc with faultLow := s1.plc.faultLow.filter (fun x => x != phase) } })

/-! ## Masks (R242) -/

/-- The mask of a channel and a segment (R242): the groups whose mean SNR over the segment's symbols of the last AGE minutes is at least SNRMIN; every
group where no symbol was measured; where none is on, the single group of highest SNR. -/
def State.buildMask (s : State) (ch seg : Nat) : Nat :=
  let n := groupsOf (ch % 2)
  let l := s.plc.snrs.filter (fun x => x.ch == ch && x.seg == seg && decide (s.time.clk ≤ x.at_ + s.get F.PLC_HATCH_AGE * 60 * nsS))
  let sum : Nat → Int := fun g => (l.map (fun x => x.snr.getD g 0)).sum
  let onG := (List.range n).filter (fun g => decide (((s.get F.PLC_HATCH_SNRMIN * l.length : Nat) : Int) ≤ sum g))
  if l.isEmpty then 2 ^ n - 1
  else if onG.isEmpty then 2 ^ ((List.range n).foldl (fun a g => if sum a < sum g then g else a) 0)
  else (onG.map (fun g => 2 ^ g)).sum

/-- MASK_PUBLISH (R242): the masks of the channel of a phase and a band are rebuilt and republished, at most once per 10 s; a change is logged with the number of segments
changed. Outside HATCH_EN and LOCKED they stay withdrawn. -/
def execMaskPublish (phase band : Nat) (s : State) : Out :=
  let ch := 2 * phase + band
  ok (if 2 < phase ∨ 1 < band ∨ !s.plcRuns ch ∨ !s.on F.PLC_CTRL_HATCH_EN ∨ s.get F.MAINS_STATUS_STATE ≠ 2 then s
  else
    let s0 := match lookupK ch s.plc.masksAt with | some t => s.advTo (t + 10 * nsS) | none => s
    let s1 := if bit (s0.get F.PLC_STATUS_PUBLISH) ch then s0 else s0.restoreMasks
    let old := (lookupK ch s1.plc.masks).getD []
    let new := (List.range 16).map (s1.buildMask ch)
    let diff := ((new.zip (old ++ List.replicate (16 - old.length) 0)).filter (fun x => x.1 != x.2)).length
    let s3 : State := { s1 with plc := { s1.plc with
      masks := insertK ch new s1.plc.masks, masksAt := insertK ch s1.time.clk s1.plc.masksAt } }
    if diff = 0 then s3 else s3.log 0x6021 [(1, ch), (4, diff)] (.ag 10))

/-! ## Registers (R249) -/

/-- What a write of PLC_CNTCLR does. -/
def plcClrAct : Act := fun _ _ v s =>
  if bit v 0 then
    let s1 := (List.range 6).foldl (fun (t : State) i =>
      [F.PLC_FOK, F.PLC_FBAD, F.PLC_REASM, F.PLC_BLANK, F.PLC_ERAS, F.PLC_LSTEP, F.PLC_NOKEY, F.PLC_NOROUTE].foldl
        (fun (u : State) f => u.seti f i 0) t) s
    (List.range 3).foldl (fun (t : State) i => (t.seti F.PLC_TXOK i 0).seti F.PLC_TXHATCH i 0) s1
  else s

/-- PLC_CNTCLR (R249). -/
def execPlcCntclr (p : Port) (v : Word) (s : State) : Out :=
  ok (s.regWrite plcClrAct p F.PLC_CNTCLR_CLR.addr v.toNat).st

/-- What the completed pair of PLC_CAL does (R238): phases whose bits are written 1 have their calibration requested. -/
def plcCalAct : Act := fun _ _ v s =>
  let s1 := (List.range 3).foldl (fun (t : State) ph =>
    if bit v ph && (lookupK ph t.plc.calReq).isNone then
      { t with plc := { t.plc with calReq := insertK ph t.time.clk t.plc.calReq } } else t) s
  s1.set F.PLC_STATUS_CALRUN (s1.get F.PLC_CAL_RUN)

/-- PLC_CAL (R238). -/
def execPlcCal (p : Port) (v : Word) (s : State) : Out := ok (s.pairWrite plcCalAct p F.PLC_CAL_RUN v.toNat)

end Sys2Proof.Machine
end

