-- ==== Sys2Proof/Machine/Radio.lean ====
section
/-! DEFINITION. The sub-GHz radio (R250 to R274): demodulators and items, the transmitter with dwell and listen-before-talk, sleeping
meters, and calibration on live frames for the radio and the power-line modem. -/

namespace Sys2Proof.Machine

/-! ## Rows and airtime (R253, R254, R260 to R263) -/

/-- The G1M-to-meter data rate of a mode in bit/s (R253). -/
def txRate (mode : Nat) : Nat := if mode = 2 then 50000 else 16384

/-- The meter-to-G1M data rate of a mode in bit/s (R253). -/
def rxRate (mode : Nat) : Nat := if mode = 0 then 16384 else if mode = 1 then 66670 else 100000

/-- The first enabled transmit row of a mode (R260). -/
def State.txRow (s : State) (mode : Nat) : Option Nat := (List.range 16).find? (fun r => s.rowTx r mode)

/-- The accumulators of a row, the current minute first. -/
def State.dwellOf (s : State) (row : Nat) : List Nat := (lookupK row s.radio.dwell).getD []

/-- The hour use of a row in µs (R263). -/
def State.hourUse (s : State) (row : Nat) : Nat := (s.dwellOf row).sum

/-- Airtime added to a row's current minute. -/
def State.addDwell (s : State) (row us : Nat) : State :=
  let l := s.dwellOf row
  { s with radio := { s.radio with dwell := insertK row ((l.headD 0 + us) :: l.drop 1) s.radio.dwell } }

/-- The airtime of a frame on a mode, in the transmit format of R256. -/
def State.airtimeOf (s : State) (mode n : Nat) : Nat := Config.airtime mode (if mode = 2 then s.get F.RADIO_CTRL_CFMT else 0) n

/-- The attempt that a packet carries out. -/
def State.attemptOf (s : State) (pk : EgPkt) : Option Attempt :=
  match pk.body.slot? with
  | some slot => s.radio.tries.find? (fun a => a.slot == slot && !a.sent && a.pkt.body == pk.body && a.pkt.cls == pk.cls)
  | none => none

/-- Where a radio frame goes (R260): its row, mode and airtime in µs, or the slot and cause for which it is not sendable. A multicast
block takes the first enabled transmit row, in the first mode that the row names. -/
def State.radioRoute (s : State) (pk : EgPkt) : Except (Nat × Nat) (Nat × Nat × Nat) :=
  let extra := match s.attemptOf pk with | some a => 2 * a.half / 1000 | none => 0
  match pk.body.slot? with
  | some slot =>
    let r := (s.mrec slot).radio
    let mode := match s.post slot with | some p => p.mode | none => r.mode
    let air := s.airtimeOf mode pk.len + extra
    if r.relayed then .error (slot, 2)
    else match s.txRow mode with
      | none => .error (slot, 0)
      | some row => if s.rowField row 14 2 * 1000 < air then .error (slot, 1) else .ok (row, mode, air)
  | none =>
    match (List.range 16).find? (fun r => (List.range 3).any (fun m => s.rowTx r m)) with
    | none => .error (max32, 0)
    | some row =>
      let mode := ((List.range 3).find? (fun m => s.rowTx row m)).getD 0
      let air := s.airtimeOf mode pk.len
      if s.rowField row 14 2 * 1000 < air then .error (max32, 1) else .ok (row, mode, air)

/-! ## The transmitter (R263, R264) -/

/-- RF_TRSW (R251, R264): high from PALEAD before the first chip until 20 µs after the last. -/
def State.rfTrsw (s : State) : Bool :=
  match s.radio.tx with | some x => decide (x.rise ≤ s.time.clk) && decide (s.time.clk < x.stop + 20000) | none => false

/-- RF_PAEN (R251, R264): with RF_TRSW until the last chip, and low throughout for a frame that began with EXTPA 0. -/
def State.rfPaen (s : State) : Bool :=
  match s.radio.tx with | some x => x.pa && s.on F.RADIO_CTRL_EXTPA && decide (x.rise ≤ s.time.clk) && decide (s.time.clk < x.stop) | none => false

/-- Both receive paths are blanked (R252): until 50 µs after RF_TRSW falls. -/
def State.rfBlanked (s : State) : Bool :=
  match s.radio.tx with | some x => decide (s.time.clk < x.stop + 70000) | none => false

/-- The power at RF_TX for a frame on a row (R252): reduced so that with EXTGAIN it does not exceed MAXPWR. -/
def State.rfPower (s : State) (row : Nat) : Int :=
  min (s.get F.RADIO_TXCFG_PWR : Int) (ofTc 1 (s.rowField row 5 1) - s.get F.RADIO_TXCFG_EXTGAIN)

/-- The signals of a frame (R251, R252, R264): RF_TRSW rose at `rise`, the first chip leaves now, and the last `air` µs later. -/
def State.rfSend (s : State) (row rise air : Nat) : State :=
  { s with radio := { s.radio with txEnd := s.time.clk + air * 1000
                                   tx := some ⟨rise, s.time.clk, s.time.clk + air * 1000, s.on F.RADIO_CTRL_EXTPA, s.rfPower row⟩ } }

/-- The transmitter without a frame. -/
def State.txIdle (s : State) : State := { s with radio := { s.radio with head := none, phase := 0, phaseEnd := 0 } }

/-- A frame starts (R252, R263, R264 from step 4, R269): its airtime counts, and a sleeper's attempt begins to wait for a reply. A
sleeper's frame later than 1 ms after its instant does not start (R267). A class-0 frame is measured from when it stood at the head with the
medium free (R221). -/
def State.txStart (s : State) : State :=
  match s.headCls 13 with
  | none => s.txIdle
  | some c => match s.egTake 13 c with
    | (s1, none) => s1.txIdle
    | (s1, some pk) => match s1.radioRoute pk with
      | .error _ => s1.txIdle
      | .ok (row, mode, air) =>
        let s2 := (s1.adv (s1.get F.RADIO_TXCFG_PALEAD * 1000)).txIdle
        let late := match s2.attemptOf pk with | some a => decide (a.begin_ + 1000000 < s2.time.dev) | none => false
        if late then
          { s2 with radio := { s2.radio with tries := s2.radio.tries.filter (fun a => some a.slot != pk.body.slot?) } }
        else
          let fin := s2.time.clk + air * 1000
          let s3 : State := match s2.attemptOf pk with
            | some a => { s2 with radio := { s2.radio with tries := s2.radio.tries.map (fun x => if x == a then
                { x with sent := true, replyEnd := fin + s2.get F.RADIO_SLEEP_REPLYMS * 1000000 } else x) } }
            | none => s2
          let s4 := (s3.addDwell row air).rfSend row s1.time.clk air
          let s5 : State := { s4 with radio := { s4.radio with busy := 0 } }
          (s5.inc F.RADIO_TXOK).placed 13 pk (max pk.headT s.radio.readyAt) (txRate mode)

/-- The listen window opens (step 2); a row without a listen time needs none. -/
def State.txListen (s : State) (row : Nat) : State :=
  let us := s.rowField row 8 2
  if us = 0 then s.txStart
  else { s with radio := { s.radio with phase := 1, phaseEnd := s.time.clk + us * 1000 } }

/-- A frame that is not sendable (R260): it leaves its queue, and for a sleeper the store too. -/
def State.txNone (s : State) (pk : EgPkt) (slot cause : Nat) : State :=
  let s0 := (s.egTake 13 pk.cls).1
  let s1 : State := { s0 with radio := { s0.radio with
    tries := s0.radio.tries.filter (fun a => some a.slot != pk.body.slot?)
    store := s0.radio.store.eraseP (fun f => some f.slot == pk.body.slot? && f.pkt.body == pk.body) } }
  (s1.txIdle.inc F.RADIO_TXNONE).log 0x6104 [(4, slot), (1, cause)] (.ag 11)

/-- A frame for a sleeper whose attempt has lapsed: it waits in the sleeper store for the next window, and does not leave now (R267). -/
def State.stale (s : State) (pk : EgPkt) : Bool :=
  match pk.body.slot? with
  | some slot => (s.mrec slot).sleeper && !(s.mrec slot).post && (s.attemptOf pk).isNone
  | none => false

/-- Step 1 for the frame at the head of the transmitter: whether it can be sent, dwell, and for classes 1 to 3 the wait for the
demodulators. How many of them hold a frame is an outside fact, free here. -/
def State.txStep1 (s : State) : State :=
  match s.headPkt 13 with
  | none => s.txIdle
  | some pk => if s.stale pk then (s.egTake 13 pk.cls).1.txIdle else match s.radioRoute pk with
    | .error (slot, cause) => s.txNone pk slot cause
    | .ok (row, _, air) =>
      let was := s.radio.phase
      let fresh := match s.radio.head with | some h => h.1 != pk | none => true
      let s0 : State := { s with radio := { s.radio with
        head := some (pk, row, air), busy := if fresh then 0 else s.radio.busy, readyAt := if fresh then s.time.clk else s.radio.readyAt } }
      let allow := s.rowField row 16 4 - (if pk.cls = 0 then 0 else s.rowField row 20 4)
      if allow * 1000 < s.hourUse row + air then
        let s1 : State := { s0 with radio := { s0.radio with phase := 3 } }
        let s2 := if was = 3 ∧ fresh = false then s1 else s1.inc F.RADIO_DWELL
        s2.logOnce 0x6102 row (60 * nsS) [(1, row), (1, pk.cls)] (.ag 11)
      else if pk.cls = 0 then s0.txListen row
      else
        let (n, s1) := s0.draw
        let s2 := s1.set F.RADIO_STATUS_BUSY (n % 33)
        if n % 33 = 0 then s2.txListen row
        else
          let fin := if was = 0 ∧ fresh = false then s2.radio.phaseEnd else s2.time.clk + 20000000
          { s2 with radio := { s2.radio with phase := 0, phaseEnd := fin } }

/-- Whether the transmitter works (R223 of ports, R262, R275). -/
def State.radioTx (s : State) : Bool := s.on F.RADIO_CTRL_TXEN && !s.on F.RADIO_STATUS_NOTABLE && s.live 13

/-- RADIO_TRANSMIT (R264): the frame at the head of the transmitter enters step 1, once the frame before it is sent. A frame that
listens or backs off goes on. -/
def execRadioTransmit (s : State) : Out :=
  ok (if !s.radioTx then s
  else if s.radio.head.isSome ∧ (s.radio.phase = 1 ∨ s.radio.phase = 2) then s
  else (s.advTo s.radio.txEnd).txStep1)

/-- LBT_WINDOW_END (R264): the window ends clear, or busy with a backoff from the random source. -/
def execLbtWindowEnd (level : Int) (s : State) : Out :=
  ok (match s.radio.head with
    | none => s
    | some (_, row, _) =>
      if s.radio.phase ≠ 1 then s
      else
        let s1 := s.advTo s.radio.phaseEnd
        if ofTc 1 (s1.rowField row 6 1) < level then
          let n := s1.radio.busy + 1
          let full := decide (s1.rowField row 7 1 ≤ n)
          let lo := s1.rowField row 10 2
          let hi := s1.rowField row 12 2
          let (d, s2) := (s1.inc F.RADIO_LBTBUSY).draw
          let b := lo + d % (hi - lo + 1)
          let s3 : State := { s2 with radio := { s2.radio with
            phase := 2, phaseEnd := s2.time.clk + b * 1000, busy := if full then 0 else n } }
          if full then s3.log 0x6103 [(1, row)] (.ag 11) else s3
        else s1.txStart)

/-- LBT_BACKOFF_END (R264): back to step 1. -/
def execLbtBackoffEnd (s : State) : Out :=
  ok (if s.radio.head.isNone ∨ s.radio.phase ≠ 2 then s
  else
    let s1 := s.advTo s.radio.phaseEnd
    -- the frame keeps its count of busy windows while it stays at the head
    ({ s1 with radio := { s1.radio with phase := 0, phaseEnd := s1.time.clk + 20000000 } } : State).txStep1)

/-- DEMODULATOR_WAIT_EXPIRE (R264): the 20 ms of step 1 run out. -/
def execDemodulatorWaitExpire (s : State) : Out :=
  ok (match s.radio.head with
    | none => s
    | some (_, row, _) => if s.radio.phase ≠ 0 then s else (s.advTo s.radio.phaseEnd).txListen row)

/-- DWELL_MINUTE (R263): the accumulators age by one minute; a deferred frame is checked again. -/
def execDwellMinute (s : State) : Out :=
  let s1 := s.advTo (s.radio.minute + 60 * nsS)
  let s2 : State := { s1 with radio := { s1.radio with
    minute := s.radio.minute + 60 * nsS, dwell := s1.radio.dwell.map (fun e => (e.1, (0 :: e.2).take 61)) } }
  ok (if s2.radio.head.isSome ∧ s2.radio.phase = 3 ∧ s2.radioTx then s2.txStep1 else s2)

/-! ## Receiving (R250, R252, R255, R259) -/

/-- The acknowledgement of an ACC_DMD frame (R259): sent at once; only its airtime counts. -/
def State.accAck (s : State) (mode : Nat) (frame : Bytes) : State :=
  if beAt frame 1 1 ≠ 0x48 ∨ !s.radioTx then s
  else match s.findSlot (wmbIdent frame), s.txRow mode with
    | some (slot, _), some row =>
      let air := s.airtimeOf mode 10
      let pk : EgPkt := { cls := 1, len := 11, body := .link 3 slot [0] }
      -- within the response time that EN 13757-4 sets, which is free
      let (d, s0) := s.draw
      let rise := s0.time.clk + d
      let s1 := ((((s0.addDwell row air).adv (d + s0.get F.RADIO_TXCFG_PALEAD * 1000)).rfSend row rise air).inc F.RADIO_TXOK)
      { s1 with port := { s1.port with out := insertK 13 pk s1.port.out } }
    | _, _ => s

/-- The bytes of a received frame on air (R253, R255): format A adds a CRC to every block, and in format B the L-field counts them. -/
def onAir (f : Bytes) : Nat :=
  let l := beAt f 0 1 + 1
  if l = f.length then l + 2 * (1 + (l - 10 + 15) / 16) else l

/-- The signal level of a frame (R250, R255): of both paths combined, or of path A alone. -/
def State.rxLevel (s : State) (f : RadioRx) : Int :=
  max (-128) (min 127 (if s.on F.RADIO_CTRL_DIV then Config.mrcLevel f.rssi f.rssiB else f.rssi))

/-- RADIO_FRAME_RECEIVE (R255): a frame at a running demodulator of an enabled receive row, whose USE names the mode; the command is the end of its
sync word, and the item arrives with its last byte. -/
def execRadioFrameReceive (f : RadioRx) (s : State) : Out :=
  let row := s.geti F.RADIO_DMCFG_ROW f.dm
  let mode := s.geti F.RADIO_DMCFG_MODE f.dm
  ok (if 31 < f.dm ∨ !s.on F.RADIO_CTRL_RXEN ∨ s.geti F.RADIO_DMCFG_EN f.dm = 0 ∨ !s.live 13 ∨ !s.radio.rows.contains row ∨
      !bit (s.rowField row 4 1) 0 ∨ !bit (s.rowField row 4 1) (2 + mode) then s
  else if f.blanked then s.inc F.RADIO_BLANK
  else if s.rfBlanked then s
  else if f.missed then (s.inc F.RADIO_MISS).logCount 0x6101 0 nsS 1 (.ag 11)
  else if !f.crc ∨ 1496 < f.frame.length then s.inc F.RADIO_FBAD
  else
    let s1 := s.inc F.RADIO_FOK
    let old := s1.radio.offs.filter (fun x => decide (s1.time.clk < x.1 + 600 * nsS))
    let s2 : State := { s1 with radio := { s1.radio with offs := old ++ [(s1.time.clk, f.fofs)] } }
    let i : Item := { medium := 1, port := f.dm, relayed := f.relayed, stamp := s2.time.dev, frac := s2.stampFrac
                      linkq := tc 1 (s.rxLevel f), fofs := tc 4 f.fofs, frame := f.frame }
    ((s2.adv (wireNs (rxRate mode) (onAir f.frame))).receive i 13 (rxRate mode)).accAck mode f.frame)

/-! ## Sleeping meters (R265 to R270) -/

/-- A slot's window prediction (R266): the next instant t_n at or after an instant, in device ns, with d and the half-width w. -/
def State.window (s : State) (r : RadioA) (from_ : Nat) : Nat × Nat × Nat :=
  let per := r.lwper * 1000000
  let t0 := r.anch + r.lwofs * 1000000
  let n := if from_ ≤ t0 ∨ per = 0 then 0 else (from_ - t0 + per - 1) / per
  let t := t0 + n * per
  let d := r.tol * (t - r.anch) / 1000000
  (t, d, max (2 ^ r.mult * s.get F.RADIO_SLEEP_GUARD * 1000000) d)

/-- The first of the next windows whose send window has not begun. -/
def State.nextWindow (s : State) (r : RadioA) : Nat → Nat → Nat × Nat × Nat
  | 0, from_ => s.window r from_
  | n + 1, from_ =>
    let (t, d, w) := s.window r from_
    if s.time.dev + w ≤ t ∨ r.lwper = 0 then (t, d, w) else s.nextWindow r n (t + 1)

/-- A sleeper is lost (R269, event 0x6110). -/
def State.sleeperLost (s : State) (slot : Nat) : State :=
  let s1 := s.onRec slot (fun r => { r with radio := { r.radio with slflags := setBit r.radio.slflags 1 true } })
  s1.log 0x6110 [(4, slot), (4, (s1.mrec slot).radio.misses)] (.ag 11)

/-- SLEEPER_WINDOW (R266, R267, R269): the oldest waiting frame is entered for the next window, so early that its first chip can
fall at the window's begin; a window too wide, or a frame too long, loses the sleeper. -/
def execSleeperWindow (slot : Nat) (s : State) : Out :=
  let r := s.mrec slot
  ok (match s.sleepers slot with
    | [] => s
    | f :: _ =>
      if !r.sleeper ∨ !bit r.radio.slflags 0 ∨ bit r.radio.slflags 1 ∨ s.radio.tries.any (fun a => a.slot == slot) then s
      else
        let (t, d, w) := s.nextWindow r.radio 64 s.time.dev
        let g := s.get F.RADIO_SLEEP_GUARD * 1000000
        let air := s.airtimeOf r.radio.mode f.pkt.len + 2 * w / 1000
        let row := s.txRow r.radio.mode
        let long := match row with | some n => decide (s.rowField n 14 2 * 1000 < air) | none => false
        if decide (2 ^ s.get F.RADIO_SLEEP_MAXMULT * g < d) || long then s.sleeperLost slot
        else
          let lead := ((match row with | some n => s.rowField n 8 2 | none => 0) + s.get F.RADIO_TXCFG_PALEAD) * 1000
          let s1 := s.advDev (t - w - lead)
          let s2 : State := { s1 with radio := { s1.radio with tries := s1.radio.tries ++ [⟨slot, t - w, w, f.pkt, false, 0⟩] } }
          s2.enq 13 f.pkt .wait)

/-- SLEEPER_ATTEMPT_LAPSE (R267): the frame has not started by t_n − w + 1 ms. -/
def execSleeperAttemptLapse (slot : Nat) (s : State) : Out :=
  ok (match s.radio.tries.find? (fun a => a.slot == slot && !a.sent) with
    | none => s
    | some a =>
      let s0 := s.advDev (a.begin_ + 1000000)
      -- at the transmitter it leaves its queue; behind other frames it goes when its turn comes
      let s1 := match s0.radio.head with
        | some (pk, _, _) => if pk.body.slot? = some slot then (s0.egTake 13 pk.cls).1.txIdle else s0
        | none => s0
      { s1 with radio := { s1.radio with tries := s1.radio.tries.filter (fun x => x.slot != slot) } })

/-- SLEEPER_REPLY_TIMEOUT (R269): no reply came: a miss. -/
def execSleeperReplyTimeout (slot : Nat) (s : State) : Out :=
  ok (match s.radio.tries.find? (fun a => a.slot == slot && a.sent) with
    | none => s
    | some a =>
      let s1 := s.advTo a.replyEnd
      let s2 : State := { s1 with radio := { s1.radio with tries := s1.radio.tries.filter (fun x => x.slot != slot) } }
      let s3 := (s2.onRec slot (fun r => { r with radio := { r.radio with misses := min max32 (r.radio.misses + 1) } })).inc
        F.RADIO_SLMISS
      let m := (s3.mrec slot).radio.mult
      if m < s3.get F.RADIO_SLEEP_MAXMULT then
        s3.onRec slot (fun r => { r with radio := { r.radio with mult := m + 1 } })
      else s3.sleeperLost slot)

/-! ## Calibration on live frames (R237, R271, R272) -/

/-- The corrections of the last minute. -/
def recentCal (now : Nat) (l : List (Nat × Nat × Int)) : List (Nat × Nat × Int) :=
  l.filter (fun x => decide (now < x.2.1 + 60 * nsS))

/-- Whether a new value lies more than 10 % of its range from one held within the last minute. -/
def sharply (range : Nat) (key : Nat) (v : Int) (l : List (Nat × Nat × Int)) : Bool :=
  l.any (fun x => x.1 == key && decide (range < 10 * (v - x.2.2).natAbs))

/-- When a correction may follow the last one of its key. -/
def calNext (key gap : Nat) (l : List (Nat × Nat × Int)) : Nat :=
  (l.filter (fun x => x.1 == key)).foldl (fun m x => max m (x.2.1 + gap)) 0

/-- A power-line correction (R237): at most once per 100 ms. The code of its kind is not stated and is free. -/
def State.plcLive (s : State) (f : Fld) (key ch : Nat) (v : Int) : State :=
  let s1 := s.advTo (calNext key 100000000 s.plc.lastCal)
  let l := recentCal s1.time.clk (s1.plc.lastCal ++ [(key, s1.time.clk, ofTc 2 (s1.geti f ch))])
  let x := ofTc 2 (tc 2 v)
  let s2 : State := { s1.seti f ch (tc 2 v) with plc := { s1.plc with lastCal := l ++ [(key, s1.time.clk, x)] } }
  if sharply 65536 key x l then
    let (k, s3) := s2.draw
    s3.log 0x6051 [(1, ch), (1, k % 256)] (.ag 10)
  else s2

/-- A radio correction (R271, R272): `gap` is the least time since the last one. -/
def State.radioLive (s : State) (f : Fld) (key path i range gap : Nat) (n : Nat) (v : Int) : State :=
  let s1 := s.advTo (calNext key gap s.radio.lastCal)
  let l := recentCal s1.time.clk (s1.radio.lastCal ++ [(key, s1.time.clk, ofTc n (s1.geti f i))])
  let x := ofTc n (tc n v)
  let s2 : State := { s1.seti f i (tc n v) with radio := { s1.radio with lastCal := l ++ [(key, s1.time.clk, x)] } }
  if sharply range key x l then
    let (k, s3) := s2.draw
    s3.log 0x6131 [(1, path), (1, k % 256)] (.ag 11)
  else s2

/-- LIVE_CALIBRATION (R237, R271): a correction between frames. A phase that is blanked measures none (R225). -/
def execLiveCalibration (c : LiveCal) (s : State) : Out :=
  ok (match c with
    | .plcOfs ch v => if 5 < ch ∨ !s.plcRuns ch then s else (s.advTo (s.blankEnd (ch / 2))).plcLive F.PLC_CALST_OFS (2 * ch) ch v
    | .plcGain ch v => if 5 < ch ∨ !s.plcRuns ch then s else (s.advTo (s.blankEnd (ch / 2))).plcLive F.PLC_CALST_GAIN (2 * ch + 1) ch v
    | .iqGain path v =>
      if 1 < path ∨ !s.on F.RADIO_CTRL_RXEN then s
      else s.radioLive F.RADIO_CALST_IQGAIN (2 * path) path path 65536 (10 * nsS) 2 v
    | .iqPhase path v =>
      if 1 < path ∨ !s.on F.RADIO_CTRL_RXEN then s
      else s.radioLive F.RADIO_CALST_IQPHASE (2 * path + 1) path path 65536 (10 * nsS) 2 v)

/-- The median of frequency offsets in Hz. -/
def medianOf (l : List Int) : Int :=
  let m := sortBy (fun a b => decide (a ≤ b)) l
  let n := m.length
  if n % 2 = 1 then m.getD (n / 2) 0 else Config.between (m.getD (n / 2 - 1) 0) (m.getD (n / 2) 0)

/-- The frequency offsets of the last 10 min. -/
def State.offsNow (s : State) : List Int := (s.radio.offs.filter (fun x => decide (s.time.clk < x.1 + 600 * nsS))).map (fun x => x.2)

/-- The reference correction in ppb (R271): the servo's rate while device time is trusted, else by the frames of the last 10 min; none
without a frame. -/
def State.refTarget (s : State) : Option Int :=
  if s.get F.TIME_STATUS_STATE = 2 then some (1000 * s.ppm)
  else if s.offsNow.isEmpty then none else some (Config.refPpb (medianOf s.offsNow) (s.get F.RADIO_WIN_CENTER))

/-- A correction taken in steps of at most 100 Hz (R272). -/
def State.refStep (s : State) (v : Int) : Int :=
  let now := ofTc 3 (s.get F.RADIO_REFOFS_PPB)
  let m : Int := 100000000 / s.get F.RADIO_WIN_CENTER
  now + max (-m) (min m (v - now))

/-- REFFREQ_APPLY (R271, R272): the reference correction, after any frame being sent; whether within 1 s an instant came at which no
demodulator held a frame is an outside fact, and without one it moves by a step. It belongs to no path: the path that an event names is free. -/
def execReffreqApply (idle : Bool) (s : State) : Out :=
  ok (match s.refTarget with
    | none => s
    | some v =>
      let s0 := s.advTo (max s.time.clk s.radio.txEnd)
      let (p, s1) := s0.draw
      (s1.set F.RADIO_REFOFS_FROMPTP (b2n (s.get F.TIME_STATUS_STATE == 2))).radioLive F.RADIO_REFOFS_PPB 4 (p % 256) 0 16777216 0 3
        (if idle then v else s0.refStep v))

/-! ## Registers (R273, R274) -/

/-- What a write of RADIO_CNTCLR does. -/
def radioClrAct : Act := fun _ _ v s =>
  if bit v 0 then
    [F.RADIO_FOK, F.RADIO_FBAD, F.RADIO_MISS, F.RADIO_BLANK, F.RADIO_TXOK, F.RADIO_LBTBUSY, F.RADIO_DWELL, F.RADIO_SLMISS,
     F.RADIO_ACKDROP, F.RADIO_TXNONE, F.RADIO_SLFULL].foldl (fun (t : State) f => t.set f 0) s
  else s

/-- RADIO_CNTCLR (R274). -/
def execRadioCntclr (p : Port) (v : Word) (s : State) : Out :=
  ok (s.regWrite radioClrAct p F.RADIO_CNTCLR_CLR.addr v.toNat).st

/-- What the completed pair of RADIO_CAL does (R273). -/
def radioCalAct : Act := fun _ _ v s =>
  if bit v 0 then
    let s1 := s.set F.RADIO_STATUS_CALRUN 1
    { s1 with radio := { s1.radio with calAt := some (s1.radio.calAt.getD s1.time.clk) } }
  else s

/-- RADIO_CAL (R273). -/
def execRadioCal (p : Port) (v : Word) (s : State) : Out := ok (s.pairWrite radioCalAct p F.RADIO_CAL_RUN v.toNat)

end Sys2Proof.Machine
end

