-- ==== Sys2Proof/Machine/Fwu.lean ====
section
/-! DEFINITION. Updating the G1M itself (R383 to R402): parts and banks, the manifest, staging, the approved list, activation up to
the restart. The start of a trial, its end and the revert lie with the start sequence. -/

namespace Sys2Proof.Machine

/-! ## Banks (R385) -/

/-- The other bank replaced. -/
def State.setOther (s : State) (l : List FwPart) : State :=
  if s.fwu.actcnt % 2 = 0 then { s with fwu := { s.fwu with bank1 := l } } else { s with fwu := { s.fwu with bank0 := l } }

/-- The other bank's parts. -/
def State.otherBank (s : State) : List FwPart := if s.fwu.actcnt % 2 = 0 then s.fwu.bank1 else s.fwu.bank0

/-- Whether the boot area reads back as written, and the state after the reading. -/
def State.bankBack (s : State) : Bool × State := (Config.bankBack s.free, { s with free := s.free + 1 })

/-- A part written into the other bank and read back (R393): a part that does not read back is not there. -/
def State.putPart (s : State) (p : FwPart) : Bool × State :=
  let x := s.bankBack
  let rest := s.otherBank.filter (fun q => q.kind != p.kind)
  (x.1, x.2.setOther (if x.1 then p :: rest else rest))

/-- The set of staged parts as FWU_STATUS shows it. -/
def State.stagedMask (s : State) : Nat := (s.fwu.staged.map (fun x => 2 ^ x.1)).sum

/-- The FWU status registers as they stand (R402). -/
def State.showFwu (s : State) : State :=
  let f := s.fwu
  let s1 := ((s.set F.FWU_STATUS_STATE f.st).set F.FWU_STATUS_RESULT f.result).set F.FWU_STATUS_TRIAL (b2n (decide (f.confcnt < f.actcnt)))
  let s2 := ((s1.set F.FWU_STATUS_BANK (f.actcnt % 2)).set F.FWU_STATUS_MKEY (b2n (!f.mkey.isEmpty))).set F.FWU_STATUS_STAGED s.stagedMask
  let s3 := ((s2.set F.FWU_MSEQL (f.mseq % 4294967296)).set F.FWU_MSEQH (f.mseq / 4294967296)).set F.FWU_ACTCNT f.actcnt
  ((s3.set F.FWU_ACTL (f.cand % 4294967296)).set F.FWU_ACTH (f.cand / 4294967296)).set F.FWU_STATUS_ROM (b2n f.rom)

/-! ## The manifest (R386 to R389) -/

/-- An affine P-384 key as x ‖ y in the compressed form. -/
def keyOf96 (k : Bytes) : Bytes := BitVec.ofNat 8 (2 + ofBe (k.drop 48) % 2) :: k.take 48

/-- ECDSA P-384 with SHA-384 over a message under a key x ‖ y. -/
def sigOk384 (key m sig : Bytes) : Bool := ecdsaVerify p384 (keyOf96 key) (sha384 m) sig

/-- One entry of a manifest, where its fields keep R387. -/
def manEntry (e : Bytes) : Option ManEnt :=
  let kind := beAt e 0 1
  let form := beAt e 1 1
  let size := beAt e 8 4
  let tsize := beAt e 12 4
  match lookupK kind partKinds with
  | none => none
  | some big =>
    if 1 < form ∨ (form = 0) ≠ (kind = 0x4C) ∨ beAt e 2 2 ≠ 0 ∨ size = 0 ∨ big < size ∨ tsize = 0 ∨ 16777216 < tsize then none
    else if form = 0 ∧ (tsize ≠ size ∨ beAt e 48 32 ≠ 0) then none
    else some ⟨kind, form, beAt e 4 4, size, tsize, sub e 16 32, sub e 48 32⟩

/-- The entries of a manifest, 176 B each. -/
def manEntries : Nat → Bytes → Option (List ManEnt)
  | 0, _ => some []
  | n + 1, b =>
    match manEntry (b.take 176), manEntries n (b.drop 176) with
    | some e, some l => if l.any (fun x => x.kind == e.kind) then none else some (e :: l)
    | _, _ => none

/-- A manifest's layout (R386, R387; check 3 of R389). -/
def manParse (rev : Nat) (b : Bytes) : Option Man :=
  let n := beAt b 6 1
  if b.length ≠ 160 + 176 * n ∨ 6 < n ∨ beAt b 0 4 ≠ 0x504C4D46 ∨ beAt b 4 1 ≠ 1 ∨ 1 < beAt b 5 1 ∨ beAt b 7 1 ≠ 0 ∨
      beAt b 28 4 ≠ rev ∨ beAt b 32 32 ≠ 0 then none
  else (manEntries n (b.drop 64)).map (fun l => ⟨beAt b 8 8, beAt b 16 8, beAt b 24 4, l⟩)

/-- The signatures of a manifest (R386, R387; check 4 of R389). -/
def manSigned (mkey : Bytes) (b : Bytes) : Bool :=
  let n := beAt b 6 1
  let body := b.take (b.length - 96)
  sigOk384 mkey body (b.drop (b.length - 96)) &&
    (List.range n).all (fun i =>
      let e := sub b (64 + 176 * i) 176
      sigOk384 Config.vendorKey (e.take 80) (e.drop 80))

/-- The lengths whose boundaries have windows (R396): the one in force, and each group's. -/
def State.winLens (s : State) : List Nat := s.leg.common.len :: s.leg.grps.map (fun g => g.2.len)

/-- Whether a second lies in a boundary window (R396): B - 30 s to B + 2 s of an interval boundary B. -/
def State.inWindow (s : State) (sec : Nat) : Bool :=
  (List.range 33).any (fun j => decide (j ≤ sec + 30) && s.winLens.any (fun l => s.onGrid l (sec + 30 - j)))

/-- Whether a manifest may replace the one in progress (R394; check 6 of R389). -/
def State.manBusy (s : State) (m : Man) (supersede : Bool) : Bool :=
  s.fwu.st == 1 || s.fwu.st == 4 || decide (s.fwu.confcnt < s.fwu.actcnt) ||
  ((s.fwu.st == 2 || s.fwu.st == 3) && !(supersede && decide ((s.fwu.man.map (fun x => x.mseq)).getD 0 < m.mseq)))

/-- The checks of R389 from the second on, in their order: a status, or the manifest that passes. -/
def State.manCheck (s : State) (b : Bytes) : Except Nat Man :=
  if !s.on F.FWU_CTRL_EN then .error stBADSTATE
  else match manParse (s.rawWord ⟨0x40000000, 0, 1, .plain, [F.SYS_ID_MINOR, F.SYS_ID_MAJOR, F.SYS_ID_PART]⟩ 0) b with
  | none => .error stBADRANGE
  | some m =>
    if s.fwu.mkey.isEmpty || !manSigned s.fwu.mkey b then .error stBADKEY
    else if m.mseq ≤ s.fwu.mseq then .error stBADSTATE
    else if s.manBusy m (bit (beAt b 5 1) 0) then .error stBUSY
    else if m.ents.any (fun e => e.form == 1 && e.bhash != sha256 (s.running e.kind).image) then .error stBADSTATE
    else if m.ents.any (fun e => e.kind == 0x4C && !s.fwu.approved.contains e.ihash) then .error stLOCKED
    else if m.act * nsS < s.time.dev + s.get F.FWU_CTRL_LEAD * 60 * nsS ∨ s.inWindow m.act = true then .error stBADTIME
    else .ok m

/-! ## The manifest's course -/

/-- The instants of the manifest in progress leave the agenda. -/
def State.manInstants (s : State) : State :=
  match s.fwu.man with
  | some m => ((((s.agDrop (.activation m.mseq)).undue (.activation m.mseq)).agDrop .candidate).undue .candidate)
  | none => s

/-- The manifest in progress ends with an outcome (FWU_STATUS.RESULT): its instants leave the agenda, its transfers and staged parts
are discarded, the state is IDLE. -/
def State.endMan (s : State) (result : Nat) : State :=
  let s1 := (s.port.xfers.filter (fun x => x.kind == 4)).foldl (fun (t : State) x => t.dropXfer x) s.manInstants
  let bytes := ((s.fwu.staged.filter (fun x => s.stagedLegal x.1)).map (fun x => x.2.length)).sum
  let s2 := s1.discard 3 bytes
  ({ s2 with fwu := { s2.fwu with man := none, st := 0, staged := [], cand := 0, prepared := false, result := result } } : State).showFwu

/-- Every part staged (R393): unnamed parts are copied from the running bank, and the manifest is STAGED. The legal part of the other
bank follows at the restart (R397 step 6) where L is named. -/
def State.allStaged (s : State) (m : Man) : State :=
  let put := fun (k : Nat) =>
    if k ≠ 0x4C ∧ m.ents.any (fun e => e.kind == k) = true then partIn s.otherBank k else { s.running k with rom := false }
  let s1 := s.setOther (partKinds.map (fun k => put k.1))
  ((({ s1 with fwu := { s1.fwu with st := 2 } } : State).showFwu)).log 0x9005 [(8, m.mseq)] (.ag 18)

/-- STAGED entered once no named part is missing. -/
def State.stagedIfAll (s : State) : State :=
  match s.fwu.man with
  | some m => if s.fwu.st = 1 ∧ s.fwu.staged.length = m.ents.length then s.allStaged m else s
  | none => s

/-- A manifest accepted (R389, R394): recorded, its activation instant in the agenda, LOADING; one without parts that supersedes
cancels. -/
def State.manAccept (s : State) (m : Man) (supersede : Bool) (o : Org) : State :=
  let s1 : State := { s with fwu := { s.fwu with mseq := m.mseq } }
  let s2 := s1.log 0x9001 [(8, m.mseq), (1, m.ents.length), (4, m.act % 4294967296)] o
  let repl := supersede && s.fwu.man.isSome
  let s3 := if repl then (s2.endMan 4).log 0x9006 [(8, (s.fwu.man.map (fun x => x.mseq)).getD 0), (8, m.mseq)] o else s2
  if repl && m.ents.isEmpty then ({ s3 with fwu := { s3.fwu with result := 6 } } : State).showFwu
  else
    let s4 : State := { s3 with fwu := { s3.fwu with man := some m, st := 1, staged := [], cand := m.act } }
    ((s4.agAdd (m.act * nsS) (.activation m.mseq)).showFwu).stagedIfAll

/-- A manifest submitted (R389, R395): the status it is answered with. -/
def State.manSubmit (s : State) (b : Bytes) (o : Org) : State × Nat :=
  match s.manCheck b with
  | .error c => (s.log 0x9002 [(2, c), (8, beAt b 8 8)] o, c)
  | .ok m =>
    let sup := bit (beAt b 5 1) 0
    if s.agFull ∧ s.fwu.man.isNone then ((s.agRefuse 18).log 0x9002 [(2, stBUSY), (8, m.mseq)] o, stBUSY)
    else (s.manAccept m sup o, stOK)

/-- MANIFEST (R389, R394). -/
def execManifest (r : Req) (handle : Nat) (s : State) : Out :=
  ok (hcpRun r 0x0400 (fun s => match s.closedXfer r handle 3 with
    | none => .no (s.log 0x9002 [(2, stBADXFER), (8, 0)] (reqOrg r 18)) stBADXFER
    | some x =>
      match s.manSubmit x.image (reqOrg r 18) with
      | (s1, 0) => { st := s1.dropXfer x }
      | (s1, c) => .no s1 c) s)

/-! ## Staging (R391 to R393, R395) -/

/-- A difference applied to a base (R392), with its output limited to a size: `none` where it fails. -/
def applyDiff (base : Bytes) (size : Nat) : Nat → Bytes → Bytes → Option Bytes
  | 0, _, _ => none
  | f + 1, d, out =>
    match d with
    | [] => none
    | c :: t =>
      if size < out.length then none
      else if c = 0 then (if t = [] then some out else none)
      else if c = 1 then
        let o := beAt t 0 4
        let n := beAt t 4 4
        if t.length < 8 ∨ n = 0 ∨ base.length < o + n then none else applyDiff base size f (t.drop 8) (out ++ sub base o n)
      else if c = 2 then
        let n := beAt t 0 4
        if t.length < 4 + n ∨ n = 0 then none else applyDiff base size f (t.drop (4 + n)) (out ++ sub t 4 n)
      else none

/-- What a part's transfer gives (R392, R393): the image, or the cause of 0x9004. -/
def State.partImage (s : State) (e : ManEnt) (b : Bytes) : Except Nat Bytes :=
  if e.form = 0 then (if sha256 b = e.ihash then .ok b else .error 1)
  else match applyDiff (s.running e.kind).image e.size (b.length + 1) b [] with
  | none => .error 0
  | some img => if img.length ≠ e.size then .error 0 else if sha256 img = e.ihash then .ok img else .error 1

/-- A part's transfer complete (R393): L stays in STAGE, another part goes into the other bank; staged with 0x9003 and, once all are,
0x9005, or failed with 0x9004. -/
def State.stagePart (s : State) (i : Nat) (b : Bytes) (o : Org) : State :=
  match s.fwu.man with
  | none => s
  | some m => match m.ents[i]? with
    | none => s
    | some e => match s.partImage e b with
      | .error c => s.log 0x9004 [(1, i), (1, c)] o
      | .ok img =>
        let x := if e.form = 0 then (true, s) else s.putPart ⟨e.kind, e.ver, img, false⟩
        if x.1 then
          let s1 : State := { x.2 with fwu := { x.2.fwu with staged := insertK i img x.2.fwu.staged } }
          ((s1.showFwu).log 0x9003 [(1, i), (1, e.kind), (4, e.ver)] o).stagedIfAll
        else x.2.log 0x9004 [(1, i), (1, 2)] o

/-- The files of a card read at its insertion (R395): the manifest, then each part that is not staged. The code of the result of
0x9030 is free. -/
def State.sdRead (s : State) (c : Card) : State :=
  if !s.on F.FWU_CTRL_SD_EN || s.role .sd != 5 then s
  else
    let o : Org := { port := .sd, agent := 18 }
    let loading := if s.fwu.st = 1 then (s.fwu.man.map (fun m => m.mseq)) else none
    let s1 := match c.man with
      | some b => if loading = some (beAt b 8 8) then s else (s.manSubmit b o).1
      | none => s
    let n0 := s1.fwu.staged.length
    let part := fun (t : State) (i : Nat) =>
      match t.fwu.man.bind (fun m => m.ents[i]?), lookupK i c.parts with
      | some e, some b =>
        if t.fwu.st ≠ 1 ∨ (lookupK i t.fwu.staged).isSome ∨ b.length ≠ e.tsize ∨ (e.form = 0 ∧ sha256 b ≠ e.ihash) ∨
            1073741824 < t.stageUsed + b.length then t
        else t.stagePart i b o
      | _, _ => t
    let s2 := (List.range 6).foldl part s1
    let (res, s3) := s2.draw
    s3.log 0x9030 [(4, s2.fwu.staged.length - n0), (1, res)] o

/-- HASHLIST (R390): the whole approved list replaced. -/
def execHashlist (r : Req) (hashes : List Bytes) (s : State) : Out :=
  ok (hcpRun r 0x0800 (fun s =>
    if 8 < hashes.length then .no s stBADRANGE
    else
      let s1 : State := { s with fwu := { s.fwu with approved := hashes.map (fun h => fit 32 h) } }
      { st := s1.log 0x9021 [(4, hashes.length)] (reqOrg r 18) }) s)

/-! ## Activation (R396 to R398) -/

/-- The staged parts read back as their hashes (R397 step 1): L in STAGE, the others in the other bank. -/
def State.bankGood (s : State) (m : Man) : Bool × State :=
  let x := s.bankBack
  (x.1 && (List.range m.ents.length).all (fun i => match m.ents[i]?, lookupK i s.fwu.staged with
    | some e, some img => sha256 (if e.kind = 0x4C then img else (partIn s.otherBank e.kind).image) == e.ihash
    | _, _ => false), x.2)

/-- Posts journalled before the restart (R397 step 1); before full pipeline ready no meter record stands in DRAM. -/
def State.prepare (s : State) : State :=
  let one := fun (t : State) (p : Post) =>
    (t.onRec p.slot (fun r => { r with dist := { r.dist with dctr := p.dctr, climit := p.climit, curt := p.curt } })).journalSlot p.slot
  let s1 := if s.on F.SYS_STATUS_FULLREADY then s.dist.posts.foldl one s else s
  { s1 with fwu := { s1.fwu with prepared := true } }

/-- An activation refused (R397): RESULT 3, event 0x9014. -/
def State.actRefuse (s : State) (cause : Nat) : State := (s.endMan 3).log 0x9014 [(1, cause)] (.ag 18)

/-- ACTIVATION_PREPARE (R397 step 1): 1 s before the activation instant or a candidate that is not skipped (R398). -/
def execActivationPrepare (s : State) : Out :=
  ok (match s.fwu.man with
    | none => s
    | some m =>
      if (s.fwu.st ≠ 2 ∧ s.fwu.st ≠ 3) ∨ s.fwu.prepared = true ∨ (s.fwu.st = 3 ∧ s.inWindow s.fwu.cand = true) then s
      else
        let x := (s.advDev ((s.fwu.cand - 1) * nsS)).bankGood m
        if x.1 then x.2.prepare else x.2.actRefuse 1)

/-- The condition that defers an activation (R398, R448), as the cause of 0x9011. -/
def State.deferCause (s : State) : Option Nat :=
  if s.get F.TIME_STATUS_STATE ≠ 2 then some 0
  else if s.restricted then some 1
  else if s.pwr.warnAt.isSome && s.pwr.relAt.isNone then some 2
  else none

/-- The candidate after an instant (R398): T + k × RETRY. -/
def State.nextCand (s : State) (m : Man) (sec : Nat) : Nat :=
  let step := s.get F.FWU_CTRL_RETRY
  m.act + ((sec - m.act) / step + 1) * step

/-- An activation put off to the next candidate: DEFERRED, event 0x9011. -/
def State.actDefer (s : State) (m : Man) (cause : Nat) : State :=
  let c := s.nextCand m (max s.secs s.fwu.cand)
  let s1 : State := { s with fwu := { s.fwu with st := 3, cand := c, prepared := false } }
  ((s1.agAdd (c * nsS) .candidate).showFwu).log 0x9011 [(1, cause), (8, c)] (.ag 18)

/-- Activation (R397 steps 2 and 3): the approved list, then the bank switch; no frame starts until the restart. -/
def State.activate (s : State) (m : Man) : State :=
  let x := if s.fwu.prepared then (true, s) else s.bankGood m
  if !x.1 then x.2.actRefuse 1
  else
    let s0 := if s.fwu.prepared then s else x.2.prepare
    if m.ents.any (fun e => e.kind == 0x4C && !s.fwu.approved.contains e.ihash) then s0.actRefuse 0
    else
      let n := ((List.range 24).filter (fun e => bit s0.engines e)).length
      let s1 : State := { s0 with fwu := { s0.fwu with
        tries := 0, actcnt := s0.fwu.actcnt + 1, st := 4, cand := 0, prepared := false, halted := true, engines := n } }
      (s1.showFwu).log 0x9010 [(8, m.mseq)] (.ag 18)

/-- A manifest still LOADING at its activation instant (R393): discarded, event 0x9007. -/
def State.actMissed (s : State) (m : Man) : State :=
  (s.endMan 5).log 0x9007 [(8, m.mseq), (4, m.ents.length - s.fwu.staged.length)] (.ag 18)

/-- ACTIVATION (R393, R397, R398): the activation instant. -/
def execActivation (s : State) : Out :=
  ok (match s.fwu.man with
    | none => s
    | some m => match s.takeDue (.activation m.mseq) with
      | none => s
      | some s1 =>
        if s1.fwu.st = 1 then s1.actMissed m
        else if s1.fwu.st ≠ 2 then s1
        else match s1.deferCause with
          | some c => s1.actDefer m c
          | none => s1.activate m)

/-- ACTIVATION_CANDIDATE (R398): a candidate instant; one in a boundary window is skipped, with a cause that the manual does not
name. -/
def execActivationCandidate (s : State) : Out :=
  ok (match s.fwu.man with
    | none => s
    | some m => match s.takeDue .candidate with
      | none => s
      | some s1 =>
        if s1.fwu.st ≠ 3 then s1
        else match s1.deferCause with
          | some c => s1.actDefer m c
          | none =>
            if s1.inWindow s1.fwu.cand then
              let (c, s2) := s1.draw
              s2.actDefer m (c % 3)
            else s1.activate m)

/-! ## Reading (R401, R402) -/

/-- The index of a kind's staged part, if one is staged. -/
def State.stagedOf (s : State) (k : Nat) : Option ManEnt :=
  s.fwu.man.bind (fun m => (List.range m.ents.length).findSome? (fun i =>
    match m.ents[i]?, lookupK i s.fwu.staged with
    | some e, some _ => if e.kind = k then some e else none
    | _, _ => none))

/-- A part's entry in the body of FWREAD. -/
def State.partEntry (s : State) (k : Nat) : Bytes :=
  let p := s.running k
  let st := s.stagedOf k
  be 1 k ++ be 1 (b2n (s.fwu.rom || p.rom) + 2 * b2n st.isSome) ++ zeros 2 ++ be 4 p.ver ++ sha256 p.image ++
    be 4 ((st.map (fun e => e.ver)).getD 0) ++ zeros 4

/-- FWREAD (R401). -/
def execFwread (r : Req) (s : State) : Out :=
  ok (hcpRun r 0x0401 (fun s =>
    let body := be 1 s.fwu.st ++ be 1 s.fwu.result ++ be 1 s.fwu.approved.length ++ zeros 1 ++ be 8 s.fwu.mseq ++ be 8 s.fwu.cand ++
    be 4 ((s.fwu.man.map (fun m => m.group)).getD 0) ++ (partKinds.map (fun k => s.partEntry k.1)).flatten ++ s.fwu.approved.flatten
    { st := s, body := body, changed := false }) s)

/-- What a write of FWU_PSEL does (R402): the part's versions and hash are copied at one instant. -/
def pselAct : Act := fun _ _ _ s =>
  let k := (partKinds.map (fun k => k.1)).getD (s.get F.FWU_PSEL_PART) 0x4C
  let p := s.running k
  let h := sha256 p.image
  let s1 := (s.set F.FWU_PVER p.ver).set F.FWU_PSVER (((s.stagedOf k).map (fun e => e.ver)).getD 0)
  (List.range 8).foldl (fun (t : State) n => t.seti F.FWU_PHASH_WORD n (beAt h (4 * n) 4)) s1

/-- FWU_PSEL (R402). A value out of range copies nothing. -/
def execFwuPsel (p : Port) (v : Word) (s : State) : Out := ok (s.regWrite pselAct p F.FWU_PSEL_PART.addr v.toNat).st

end Sys2Proof.Machine
end

