-- ==== Sys2Proof/Machine/Keys.lean ====
section
/-! DEFINITION. Keys, attestation and tamper (R309 to R335), MACsec key rolls (R282): imports, flat key mode, the statement, the
detectors, ZEROIZE and certified mode. Recommissioning lies with the start sequence, which it ends in. -/

namespace Sys2Proof.Machine

/-! ## What the two derivers give -/

/-- The import secret Z (R319): the x-coordinate of d_I × Q_op, 48 B. -/
def State.importZ (s : State) : Bytes :=
  let k := s.key.opkey
  match p384.mul 400 (scalarOf (treeRoot (s.get F.KEY_STATUS_GEN)) "IMPORT") (some (ofBe (k.take 48), ofBe (k.drop 48))) with
  | some (x, _) => be 48 x
  | none => zeros 48

/-- A public point in the form of R326: 0x04 ‖ x ‖ y. -/
def pointBytes (d : Nat) : Bytes :=
  match p384.mul 400 d (some (p384.gx, p384.gy)) with
  | some (x, y) => be 1 4 ++ be 48 x ++ be 48 y
  | none => be 1 4 ++ zeros 96

/-- Every key derived from a seed or from the flat key is given up: the cache, the group master keys, the secure associations and
their armed rolls (R323, R330). -/
def State.clearDerived (s : State) : State :=
  let s1 := ((s.agDrop (.keyroll 0)).undue (.keyroll 0)).agDrop (.keyroll 1) |>.undue (.keyroll 1)
  ({ s1 with key := { s1.key with cache := [], gmks := [] }, port := { s1.port with sec0 := {}, sec1 := {} } } : State).showPins

/-- Flat key mode entered (R310, R323). -/
def State.enterFlat (s : State) : State :=
  (((s.set F.KEY_STATUS_FLAT 1).set F.KEY_STATUS_KATOK 0).clearDerived).log 0x7006 [] (.ag 13)

/-- KAT_PERIODIC (R309, R310): the derivation engine's 24 h self-test, while it runs. -/
def execKatPeriodic (pass : Bool) (s : State) : Out :=
  ok (if s.on F.KEY_STATUS_FLAT || s.on F.KEY_STATUS_FUSEGATED then s
  else
    let s1 := s.advTo (s.key.katAt + 86400 * nsS)
    let s2 : State := { s1 with key := { s1.key with katAt := s1.time.clk } }
    if pass then s2.set F.KEY_STATUS_KATOK 1 else s2.enterFlat)

/-! ## Imports (R320, R323) -/

/-- An import refused: event 0x7009 with its cause. -/
def State.importNo (s : State) (r : Req) (cause : Nat) : HRes := .no (s.log 0x7009 [(1, cause)] (reqOrg r 13)) stBADKEY

/-- The bits of the held seeds (R336). -/
def State.showSeeds (s : State) : State :=
  let m := (s.key.seeds.map (fun e => 2 ^ e.1)).sum
  (s.set F.KEY_SEEDSTL (m % 4294967296)).set F.KEY_SEEDSTH (m / 4294967296)

/-- A seed taken (R318, R320): sealed, counted, its cache entries removed and its posts' keys pinned anew. -/
def State.takeSeed (s : State) (h : Nat) (k : Bytes) (o : Org) : State :=
  let n := s.geti F.KEY_SEEDCNT_COUNT h + 1
  let s1 : State := { s with key := { s.key with seeds := insertK h ⟨s.get F.KEY_STATUS_GEN, k⟩ s.key.seeds } }
  let s2 := ((s1.seti F.KEY_SEEDCNT_COUNT h n).showSeeds).dropSeed h
  let s3 := (s2.dist.posts.filter (fun p => p.seed == h)).foldl (fun (t : State) p => t.pinPost h p.ident p.dkv) s2
  (s3.takeGmks false).log 0x7008 [(1, h), (4, n)] o

/-- IMPORTSEED (R320). A repeated W fails, since the count enters the key that wraps it. -/
def execImportseed (r : Req) (h : Nat) (w : Bytes) (s : State) : Out :=
  ok (hcpRun r 0x0500 (fun s =>
    if w.length ≠ 40 then .no s stBADFRAME
    else if 63 < h then .no s stBADRANGE
    else if s.key.opkey.isEmpty then s.importNo r 1
    else if !s.rootOpen then .no s stBADKEY
    else match keyUnwrap (kdf s.importZ "SEEDWRAP" (be 1 h ++ be 4 (s.geti F.KEY_SEEDCNT_COUNT h)) 256) w with
    | none => s.importNo r 0
    | some k => { st := s.takeSeed h k (reqOrg r 13) }) s)

/-- IMPORTFLAT (R323): both uplinks take the flat key with key number 0. -/
def execImportflat (r : Req) (w : Bytes) (s : State) : Out :=
  ok (hcpRun r 0x0501 (fun s =>
    if w.length ≠ 40 then .no s stBADFRAME
    else if !s.on F.KEY_STATUS_FLAT then .no s stBADSTATE
    else if s.key.opkey.isEmpty then s.importNo r 1
    else if !s.rootOpen then .no s stBADKEY
    else match keyUnwrap (kdf s.importZ "FLATWRAP" (be 4 (s.get F.KEY_FLATCNT)) 256) w with
    | none => s.importNo r 0
    | some k =>
      let n := s.get F.KEY_FLATCNT + 1
      let s1 : State := { s with key := { s.key with flat := some ⟨s.get F.KEY_STATUS_GEN, k⟩ } }
      let s2 : State := { s1 with port := { s1.port with sec0 := {}, sec1 := {} } }
      { st := (((s2.set F.KEY_FLATCNT n).install 0).install 1).log 0x7007 [(4, n)] (reqOrg r 13) }) s)

/-! ## Attestation (R325, R326) -/

/-- The statement without its signature. -/
def State.statement (s : State) (kref : Nat) : Bytes :=
  let g := s.get F.KEY_STATUS_GEN
  let flags := 1 + 2 * b2n s.cert + 4 * b2n (s.get F.TIME_STATUS_STATE == 2)
  be 4 0x41545354 ++ be 1 1 ++ be 1 g ++ be 1 flags ++ be 1 1 ++ be 4 kref ++ be 8 Config.devId ++ timeBytes s.time.dev ++
    pointBytes (scalarOf (treeRoot g) "IMPORT") ++ zeros 3

/-- ATTEST (R326). The signature's nonce is free. -/
def execAttest (r : Req) (kref : Nat) (s : State) : Out :=
  ok (hcpRun r 0x0502 (fun s =>
    if kref ≠ 1 then .no s stNOTFOUND
    else if s.on F.KEY_STATUS_FUSEGATED then .no s stBADKEY
    else
      let (n, s1) := s.draw
      let m := s.statement kref
      let sig := ecdsaSign p384 (scalarOf Config.fuseRoot "IDENT") (n % (p384.n - 1) + 1) (sha384 m)
      { st := s1, body := m ++ fit 96 sig, changed := false }) s)

/-! ## Key rolls (R282) -/

/-- KEYROLL (R282): armed for its instant, in place of one armed before. -/
def execKeyroll (r : Req) (up knum sec ns : Nat) (s : State) : Out :=
  ok (hcpRun r 0x0503 (fun s =>
    let t := sec * nsS + ns
    if 1 < up ∨ nsS ≤ ns then .no s stBADRANGE
    else
      let s0 := s.install up
      if s0.on F.KEY_STATUS_FLAT || !s0.secured up then .no s stBADSTATE
      else if knum ≤ s0.geti F.UPLINK_KNUM up ∨ 4294967296 ≤ knum then .no s stBADRANGE
      else if t ≤ s0.time.dev then .no s stBADTIME
      else
        let s1 := (s0.agDrop (.keyroll up)).undue (.keyroll up)
        if s1.agFull then .no (s0.agRefuse 12) stBUSY
        else { st := (s1.setSec up { s1.sec up with armed := some (knum, t) }).agAdd t (.keyroll up) }) s)

/-- KEYROLL_FIRE (R282, R321): the uplink sends under the new key and receives under both for 60 s. -/
def execKeyrollFire (up : Nat) (s : State) : Out :=
  ok (if 1 < up then s
  else match s.takeDue (.keyroll up), (s.sec up).armed with
    | some s1, some (k, _) =>
      let old := s1.geti F.UPLINK_KNUM up
      match s1.sak up k with
      | none => s1.setSec up { s1.sec up with armed := none }
      | some key =>
        let m := s1.sec up
        let s2 := (s1.sakDerived.setSec up { m with
          installed := true, armed := none, old := some old, oldEnd := s1.time.clk + 60 * nsS, tx := 0, key := key, salt := s1.msSalt up k }).seti F.UPLINK_KNUM up k
        s2.log 0x7012 [(1, up), (4, k)] (.ag 12)
    | some s1, none => s1
    | none, _ => s)

/-- KEYROLL_OVERLAP_END (R282): 60 s after the roll the former key is given up. -/
def execKeyrollOverlapEnd (up : Nat) (s : State) : Out :=
  ok (if 1 < up then s
  else match (s.sec up).old with
    | none => s
    | some k =>
      let s1 := s.advTo (s.sec up).oldEnd
      let m := s1.sec up
      s1.setSec up { m with old := none, rx := eraseK k m.rx })

/-! ## Detectors and ZEROIZE (R327 to R332) -/

/-- Whether a detector runs (R327, R337): static inputs and meshes by their EN, the others while the G1M is powered. -/
def State.detectorRuns (s : State) (d : Nat) : Bool :=
  if d < 8 then s.geti F.TAMPER_INCFG_EN d == 1
  else if d < 10 then s.geti F.TAMPER_MESH_EN (d - 8) == 1
  else decide (d < 14) && s.pwr.on

/-- An event of the tamper agent, which logs only while the logic die runs. -/
def State.tamperLog (s : State) (code : Nat) (fl : List (Nat × Nat)) : State := if s.pwr.on then s.log code fl (.ag 14) else s

/-- The latch set (R330 steps 1 and 4): the first detector and its time stay. -/
def State.latch (s : State) (d : Nat) : State :=
  let s1 := if s.on F.TAMPER_STATUS_LATCH then s
    else (((s.set F.TAMPER_STATUS_LATCH 1).set F.TAMPER_STATUS_CAUSE d).set F.TAMPER_LTL (s.secs % 4294967296)).set F.TAMPER_LTH
      (s.secs / 4294967296)
  if s1.pwr.on then { s1 with key := { s1.key with mirror := some (s1.key.mirror.getD (d, s1.time.dev)) } } else s1

/-- Restricted mode for a tamper latch (R277, R330). -/
def State.latchRestricts (s : State) : State :=
  (s.set F.PORT_STATUS_CAUSES (setBit (s.get F.PORT_STATUS_CAUSES) 0 true)).bannerCheck

/-- ZEROIZE (R330): the latch, the gated fuse path, every key cleared, the events and restricted mode. The clearing time is free,
at most 10 µs. `broken` tells the enclosure seal sense of the same decision (R329). -/
def State.zeroize (s : State) (d : Nat) (broken : Bool) : State :=
  let s1 := s.latch d
  if !s1.pwr.on then s1
  else
    let s2 := (s1.set F.KEY_STATUS_FUSEGATED 1).clearDerived
    let s3 := s2.tamperLog 0x7001 [(1, d), (1, 1)]
    let s4 := if broken then s3.tamperLog 0x7004 [(1, d)] else s3
    let (n, s5) := s4.draw
    (s5.tamperLog 0x7002 [(1, d), (8, n % 10001)]).latchRestricts

/-- A detector's decision (R328 to R330). -/
def State.tamperDetect (s : State) (d : Nat) : State :=
  let broken := decide (d < 8) && s.geti F.TAMPER_INCFG_SEAL d == 1
  let s1 := if broken then s.set F.TAMPER_STATUS_SEALBRK 1 else s
  if bit (s1.get F.TAMPER_ARM_ARM) d || d == 13 then s1.zeroize d broken
  else
    let s2 := s1.tamperLog 0x7001 [(1, d), (1, 0)]
    if broken then s2.tamperLog 0x7004 [(1, d)] else s2

/-- The detector that an observation is for. -/
def detOf : DetIn → Nat
  | .pin n _ => n
  | .mesh m _ => 8 + m
  | .monitor d => d

/-- Whether a static input stands out of its intact level (R337): by POL, and where nothing drives it by the pull; without one the level is
free. -/
def State.pinOut (s : State) (n : Nat) (free : Bool) : Option Bool → Bool
  | some b => b != (s.geti F.TAMPER_INCFG_POL n == 1)
  | none => s.geti F.TAMPER_INCFG_PULL n == 1 || free

/-- A detector's decision on what it observes (R327): whether it decides, and the ns that this takes. -/
def State.decides (s : State) (free : Bool) : DetIn → Bool × Nat
  | .pin n l =>
    let k := s.geti F.TAMPER_INCFG_FILT n
    (decide (n < 8) && decide (k ≤ l.length) && (l.drop (l.length - k)).all (s.pinOut n free), l.length * nsS / 32768)
  | .mesh m l =>
    (decide (m < 2) && decide (2 ≤ l.length) && (l.drop (l.length - 2)).all (fun x => x.1 != x.2),
      l.length * 2 ^ s.geti F.TAMPER_MESH_RATE m * nsS / 32768)
  | .monitor d => (decide (10 ≤ d) && decide (d < 14), if d = 10 then 1000 else if d = 11 then 1000000 else if d = 12 then 10000 else 0)

/-- DETECTOR_DECIDE (R327, R328): a detector that runs has samples before it, and decides or not. -/
def execDetectorDecide (x : DetIn) (s : State) : Out :=
  ok (if s.detectorRuns (detOf x) then
    let (f, s1) := s.draw
    let (yes, d) := s1.decides (f % 2 == 1) x
    if yes then (s1.adv d).tamperDetect (detOf x) else s1.adv d
  else s)

/-! ## Certified mode (R334) -/

/-- What the completed pair of KEY_CERT does: BLOW through the seal port while the latch is clear. -/
def certAct : Act := fun p _ v s =>
  if p = .seal ∧ bit v 0 = true ∧ ¬ s.on F.TAMPER_STATUS_LATCH then
    ({ s with key := { s.key with blown := true } } : State).set F.KEY_STATUS_CERTPEND (b2n !s.cert)
  else s

/-- KEY_CERT (R334): the completed pair write. -/
def execKeyCert (p : Port) (v : Word) (s : State) : Out := ok (s.pairWrite certAct p F.KEY_CERT_BLOW v.toNat)

end Sys2Proof.Machine
end

