-- ==== Sys2Proof/Machine/Storage.lean ====
section
/-! DEFINITION. DRAM and NAND (R338 to R361, R369): patrol scrub, the write path of the flash translation layer, refresh and scrub,
the Graver's secure discards, wear, and the long roll's retention. -/

namespace Sys2Proof.Machine

/-! ## DRAM -/

/-- A single-bit error that a read corrects (R340). -/
def State.dramCe (s : State) (addr : Nat) : State := s.inci F.DRAM_CE_COUNT (Config.dramChannel addr % 2) 1

/-- An uncorrectable word in a ring (R216, R340): where packets stand there, one is discarded for a payload word, and all for a length word. Which word
of which packet it is is free: the manual does not lay the rings out. `lens` are the packets' lengths, `drop` takes one out and `clear` all. -/
def State.ringLost (s : State) (id : Nat) (lens : List Nat) (drop : Nat → State → State) (clear : State → State) : State :=
  if lens.isEmpty then s
  else
    let (n, s1) := s.draw
    let s2 := s1.inci F.QOS_QCE_UNCORR id 1
    if n % 2 = 0 then drop (n / 2 % lens.length) s2
    else (clear s2).log 0x5104 [(1, id), (4, (lens.map pktWords).sum)] (.ag 9)

/-- The ring of an egress queue with packets gone. -/
def State.egRing (s : State) (id : Nat) (f : List EgPkt → List EgPkt) : State := s.setEgq { s.egq id with ring := f (s.egq id).ring }

/-- What the requesters do with an address that reads in error (R86, R115, R340, R342): a slot of the meter store waits for its rebuild, and the
spill rings act by R216. -/
def State.dramLost (s : State) (addr : Nat) : State :=
  let slot := addr / 512
  if addr < 0x20000000 then
    if s.meter.lostRec.contains slot then s
    else ({ s with meter := { s.meter with lostRec := s.meter.lostRec ++ [slot] } } : State).set F.METER_STATUS_REBUILDING 1
  else if 0x66000000 ≤ addr ∧ addr < 0xA6000000 then
    s.ringLost 3 (s.pipe.ring3.map Item.len) (fun i t => { t with pipe := { t.pipe with ring3 := t.pipe.ring3.eraseIdx i } })
      (fun t => { t with pipe := { t.pipe with ring3 := [] } })
  else if 0xA6000000 ≤ addr ∧ addr < 0xAA000000 then
    s.ringLost 2 (s.pipe.ring2.map Item.len) (fun i t => { t with pipe := { t.pipe with ring2 := t.pipe.ring2.eraseIdx i } })
      (fun t => { t with pipe := { t.pipe with ring2 := [] } })
  else if 0xAA000000 ≤ addr ∧ addr < 0xE9000000 then
    let o := addr - 0xAA000000
    let id := 14 + 4 * (o / 75497472) + (if o % 75497472 < 8388608 then 2 else 3)
    s.ringLost id ((s.egq id).ring.map (fun p => p.len)) (fun i t => t.egRing id (fun l => l.eraseIdx i)) (fun t => t.egRing id (fun _ => []))
  else s

/-- Usable DRAM in bytes (R340). -/
def State.dramBytes (s : State) : Nat :=
  if s.get F.DRAM_STATUS_SIZE = 1 then 7 * 1073741824 else if s.get F.DRAM_STATUS_SIZE = 2 then 14 * 1073741824 else 0

/-- A multi-bit error: counted, its address recorded, event 0x8002 (R340). -/
def State.dramUe (s : State) (addr : Nat) : State :=
  let s1 := s.inci F.DRAM_UE (Config.dramChannel addr % 2) 1
  let s2 := (s1.set F.DRAM_UEADDRL (addr % 4294967296)).set F.DRAM_UEADDRH (addr / 4294967296)
  (s2.log 0x8002 [(8, addr)] (.ag 16)).dramLost addr

/-- DRAM_SCRUB (R340, R341): the patrol reads the next `len` bytes, in which it may find words in error. A pass takes
SCRUBH hours over the whole usable DRAM; DESIGN CHOICE: at an even pace. -/
def execDramScrub (len : Nat) (found : ScrubErrs) (s : State) : Out :=
  ok (if !s.on F.DRAM_CTRL_SCRUB_EN || !s.on F.DRAM_STATUS_TRAINED || s.dramBytes == 0 then s
  else
    let all := s.dramBytes
    let a := s.ftl.patrolN
    let b := min all (a + len)
    let s0 := s.advTo (s.ftl.patrolAt + s.get F.DRAM_CTRL_SCRUBH * 3600 * nsS * b / all)
    let s1 := s0.set F.DRAM_STATUS_SCRUBBING 1
    let s2 := match found.ce with | some x => if a ≤ x ∧ x < b then s1.dramCe x else s1 | none => s1
    let s3 := match found.ue with | some x => if a ≤ x ∧ x < b then s2.dramUe x else s2 | none => s2
    if b = all then
      ({ (s3.set F.DRAM_STATUS_SCRUBBING 0).inc F.DRAM_SCRUBPASS with ftl := { s3.ftl with patrolAt := s3.time.clk, patrolN := 0 } } : State)
    else { s3 with ftl := { s3.ftl with patrolN := b } })

/-- REFRESH_DERATING (R341): MR4 reports derating, or no longer does. -/
def execRefreshDerating (m : Mr4) (s : State) : Out :=
  ok (if m.derate then (s.set F.DRAM_STATUS_DERATE 1).log 0x8003 [(4, m.value)] (.ag 16) else s.set F.DRAM_STATUS_DERATE 0)

/-! ## Volumes (R345) -/

/-- A GiB. -/
def gib : Nat := 1073741824

/-- The bytes that a volume's contents take (R96, R155, R345, R369). -/
def State.volBytes (s : State) (v : Nat) : Nat :=
  if v = 0 then Config.storedBytes 0 (s.pipe.series.length + s.leg.ckpt.recs.length + s.leg.snaps.length)
  else if v = 1 then 256 * s.leg.sess.length
  else if v = 2 then (s.pipe.quar.map (fun q => 16 + q.item.len)).sum + 32 * s.ev.long.length
  else if v = 3 then s.stageUsed
  else Config.storedBytes 4 (s.meter.journal.length + s.meter.ckpt.length + s.bal.results.length) +
    (s.pipe.defer.map (fun i => i.len)).sum

/-- The size of a volume in GiB. -/
def State.volSize (s : State) (v : Nat) : Nat := s.ftl.sizes.getD v 0

/-- The oldest piece of a full volume discarded (R345): INTERVAL, SESSION and ARCHIVE their oldest data, GENERAL its oldest balance
results; nothing of STAGE. -/
def State.dropOldest (s : State) (v : Nat) : State :=
  if v = 0 then { s with pipe := { s.pipe with series := s.pipe.series.drop 1 } }
  else if v = 1 then { s with leg := { s.leg with sess := s.leg.sess.drop 1 } }
  else if v = 2 then
    match s.pipe.quar, s.ev.long with
    | q :: qs, r :: rs => if q.secs ≤ r.secs then { s with pipe := { s.pipe with quar := qs } }
        else { s with ev := { s.ev with long := rs, longDur := s.ev.longDur - 1 } }
    | _ :: qs, [] => { s with pipe := { s.pipe with quar := qs } }
    | [], rs => { s with ev := { s.ev with long := rs.drop 1, longDur := s.ev.longDur - 1 } }
  else if v = 4 then { s with bal := { s.bal with results := s.bal.results.drop 1 } }
  else s

/-- Pieces discarded until a volume fits, at most `n`. -/
def State.dropUntil (v : Nat) : Nat → State → State
  | 0, s => s
  | n + 1, s => if s.volBytes v ≤ s.volSize v * gib then s else State.dropUntil v n (s.dropOldest v)

/-- The pieces that a volume may discard. -/
def State.pieces (s : State) (v : Nat) : Nat :=
  if v = 0 then s.pipe.series.length else if v = 1 then s.leg.sess.length
  else if v = 2 then s.pipe.quar.length + s.ev.long.length else if v = 4 then s.bal.results.length else 0

/-- Events 0x8010, one for each GiB. -/
def State.gibEvents (v : Nat) : Nat → State → State
  | 0, s => s
  | n + 1, s => State.gibEvents v n ((s.inci F.FTL_VDEL v 1).log 0x8010 [(1, v), (4, s.geti F.FTL_VDEL v + 1)] (.ag 15))

/-- A volume held to its size and its warning (R345). -/
def State.volCheck (s : State) (v : Nat) : State :=
  let s1 := if v = 3 then s else State.dropUntil v (s.pieces v) s
  let gone := s.volBytes v - s1.volBytes v
  let e0 := (lookupK v s.ftl.early).getD 0
  let s2 := (({ s1 with ftl := { s1.ftl with early := insertK v (e0 + gone) s1.ftl.early } } : State).discard v gone)
  let s3 := State.gibEvents v ((e0 + gone) / gib - e0 / gib) s2
  let high := decide (s3.geti F.FTL_VOL_WARN v * s3.volSize v * gib < 100 * s3.volBytes v)
  if high && !s3.ftl.warned.contains v then
    ({ s3 with ftl := { s3.ftl with warned := v :: s3.ftl.warned } } : State).log 0x8010 [(1, v), (4, s3.volBytes v / gib)] (.ag 15)
  else if high then s3
  else { s3 with ftl := { s3.ftl with warned := s3.ftl.warned.filter (fun x => x != v) } }

/-! ## Writes, the buffer and folding (R346, R348) -/

/-- The FTL programs and erases: mounted, spare blocks left, no supply warning (R352, R353). -/
def State.ftlWrites (s : State) : Bool := s.on F.FTL_STATUS_MOUNTED && !s.on F.FTL_STATUS_RO && !s.ftl.held

/-- The bytes of every store on the NAND. -/
def State.storeBytes (s : State) : Nat := ((List.range 5).map (fun v => s.volBytes v)).sum

/-- Programs of a number of bytes to the NAND in whole pages of 16 KiB: the write sequence rises with each. -/
def State.nandProgram (s : State) (bytes : Nat) : State :=
  let pages := (bytes + 16383) / 16384
  { s with ftl := { s.ftl with seq := s.ftl.seq + pages, nand := s.ftl.nand + pages * 16384 } }

/-- DURABILITY_DEADLINE (R346, R369): every write handed over is programmed into the buffer, the page padded, and the volumes are
held to their sizes. -/
def execDurabilityDeadline (s : State) : Out :=
  ok (if !s.ftlWrites then s
  else
    let now := s.storeBytes
    let d := now - s.ftl.seen
    let s1 := s.nandProgram d
    let s2 : State := { s1 with
      ftl := { s1.ftl with host := s1.ftl.host + d, buffer := s1.ftl.buffer + d, wrAt := s1.time.clk }
      ev := { s1.ev with longDur := s1.ev.long.length } }
    let s3 := (List.range 5).foldl (fun (t : State) v => t.volCheck v) s2
    { s3 with ftl := { s3.ftl with seen := s3.storeBytes } })

/-- An erase of a block counted; its reads begin anew (R350). -/
def State.erased (s : State) (id : Nat) : State :=
  { s with ftl := { s.ftl with reads := eraseK id s.ftl.reads, pe := insertK id ((lookupK id s.ftl.pe).getD 0 + 1) s.ftl.pe } }

/-- A block's live data relocated and the block erased (R350, R351). How much of it was live is free. -/
def State.relocate (s : State) (id : Nat) : State :=
  let (n, s1) := s.draw
  (s1.nandProgram n).erased id

/-- The bytes of the buffer (R348): its share of the blocks in SLC mode. -/
def State.bufferBytes (s : State) : Nat :=
  s.ftl.raw * gib / (if s.ftl.qlc then 4 else 3) * s.get F.FTL_SLC_PCT / 100

/-- FOLD (R348): with the buffer past 70 % full at once, else when no host write has arrived for IDLEMS. -/
def execFold (s : State) : Out :=
  ok (if !s.ftlWrites || s.ftl.buffer == 0 then s
  else
    let s0 := if s.bufferBytes * 70 < s.ftl.buffer * 100 then s else s.advTo (s.ftl.wrAt + s.get F.FTL_SLC_IDLEMS * 1000000)
    let (blk, s1) := s0.draw
    let s2 := (s1.nandProgram s1.ftl.buffer).erased blk
    { s2 with ftl := { s2.ftl with buffer := 0 } })

/-! ## Blocks (R349 to R352) -/

/-- Channel, target and block of an identifier. -/
def blkParts (id : Nat) : Nat × Nat × Nat := (id / 67108864 % 8, id / 16777216 % 4, id % 16777216)

/-- What the n-th piece of a volume's contents was, gone with a lost sector: a reading, a session, a quarantined item, a page of the
population checkpoint. -/
def State.pieceLost (s : State) (v n : Nat) : State :=
  if v = 0 then { s with pipe := { s.pipe with series := s.pipe.series.eraseIdx n } }
  else if v = 1 then { s with leg := { s.leg with sess := s.leg.sess.eraseIdx n } }
  else if v = 2 then { s with pipe := { s.pipe with quar := s.pipe.quar.eraseIdx n } }
  else if v = 4 then { s with meter := { s.meter with ckpt := s.meter.ckpt.modify n (fun p => { p with lost := true }) } }
  else s

/-- A sector lost (R344): counted and logged with its volume and block. Which of the volume's contents lay there is free. -/
def State.sectorLost (s : State) : State :=
  let (v, s1) := s.draw
  let (b, s2) := s1.draw
  let (n, s3) := s2.draw
  ((s3.inc F.FTL_LOST).pieceLost (v % 5) n).log 0x8014 [(1, v % 5), (4, b)] (.ag 15)

/-- Whether a page's errors exceed FTL_SCRUB.THR per cent of what hard decision corrects (R349, R351). -/
def State.worn (s : State) (errs cap : Nat) : Bool := decide (s.get F.FTL_SCRUB_THR * cap < 100 * errs)

/-- One page of a superblock read back at its close (R349): a bad one is rebuilt from parity; with a single die there is none, and one that fails to
read is lost. -/
def State.readBack (s : State) (id : Nat) (p : Nat × ReadRes) : State :=
  let rebuilt := ((s.nandProgram 16384).inc F.FTL_REBUILT).log 0x8013 [(4, id), (4, p.1)] (.ag 15)
  match p.2, s.on F.FTL_STATUS_NOPARITY with
  | .lost, true => s.sectorLost
  | .lost, false => rebuilt
  | .read e c, false => if s.worn e c then rebuilt else s
  | _, _ => s

/-- SUPERBLOCK_CLOSE (R349): every page is read back, and its parity is released. -/
def execSuperblockClose (id : Nat) (pages : List (Nat × ReadRes)) (s : State) : Out :=
  ok (if !s.ftlWrites then s else pages.foldl (fun (t : State) p => t.readBack id p) s)

/-- The reads after which a block is refreshed (R350): FTL_REFRESH for its mode, in thousands. -/
def State.refreshAt (s : State) (slc : Bool) : Nat :=
  1000 * (if slc then s.get F.FTL_REFRESH_SLC else if s.ftl.qlc then s.get F.FTL_REFRESH_QLC else s.get F.FTL_REFRESH_TLC)

/-- READ_REFRESH (R350): further reads of a block; at its threshold the live data is relocated and the block erased. -/
def execReadRefresh (b : BlockReads) (s : State) : Out :=
  ok (if !s.on F.FTL_STATUS_MOUNTED then s
  else
    let n := (lookupK b.id s.ftl.reads).getD 0 + b.reads
    let s1 : State := { s with ftl := { s.ftl with reads := insertK b.id n s.ftl.reads } }
    if s.refreshAt b.slc ≤ n ∧ s.ftlWrites = true then s1.relocate b.id else s1)

/-- The scrub pass goes on by one block (R351): a pass takes FTL_SCRUB.DAYS days over the array; DESIGN CHOICE: at an even pace. -/
def State.scrubNext (s : State) : State :=
  let n := s.ftl.scrubN + 1
  let s1 := s.advTo (s.ftl.scrubAt + s.get F.FTL_SCRUB_DAYS * 86400 * nsS * n / max 1 s.ftl.blocks)
  { s1 with ftl := if s.ftl.blocks ≤ n then { s1.ftl with scrubAt := s1.time.clk, scrubN := 0 } else { s1.ftl with scrubN := n } }

/-- NAND_SCRUB (R344, R351): the next block of the pass; a page past the threshold or that needs read retry relocates it, and a lost sector is
counted. -/
def execNandScrub (id : Nat) (found : ReadRes) (s : State) : Out :=
  ok (if !s.on F.FTL_STATUS_MOUNTED then s
  else
    let s1 := s.scrubNext
    match found with
    | .read e c => if s1.worn e c && s1.ftlWrites then s1.relocate id else s1
    | .retry => if s1.ftlWrites then s1.relocate id else s1
    | .lost => s1.sectorLost)

/-- The marks of the spare blocks left (R352). -/
def State.spareMarks (s : State) : State :=
  let low := decide (s.ftl.spare * 100 < s.ftl.blocks)
  let s1 := if low && !s.on F.FTL_STATUS_LOWSPARE then (s.set F.FTL_STATUS_LOWSPARE 1).log 0x8012 [(4, s.ftl.spare)] (.ag 15) else s
  if s1.ftl.spare = 0 then s1.set F.FTL_STATUS_RO 1 else s1

/-- FTL_SPARE as it stands: blocks left and grown bad, saturating. -/
def State.showSpare (s : State) : State :=
  (s.set F.FTL_SPARE_LEFT (min 65535 s.ftl.spare)).set F.FTL_SPARE_GROWN (min 65535 s.ftl.bad.length)

/-- A block retired as grown bad (R352, R357). -/
def State.retireBlock (s : State) (id : Nat) : State :=
  if s.ftl.bad.contains id then s
  else
    let s1 : State := { s with ftl := { s.ftl with bad := id :: s.ftl.bad, spare := s.ftl.spare - 1 } }
    let (c, t, b) := blkParts id
    ((s1.showSpare).log 0x8011 [(1, c), (4, t), (4, b)] (.ag 15)).spareMarks

/-- BLOCK_FAIL (R352): a program or an erase fails; after a failed program the live data is relocated first. -/
def execBlockFail (id : Nat) (erase : Bool) (s : State) : Out :=
  ok (if !s.ftlWrites || s.ftl.bad.contains id then s
  else
    let (n, s1) := s.draw
    ((if erase then s1 else s1.nandProgram n)).retireBlock id)

/-! ## The Graver (R355 to R357) -/

/-- The request of a slot of FTL_GSEL. -/
def State.greq (s : State) (id : Nat) : Option GReq := s.ftl.greqs.find? (fun g => g.id == id)

/-- GRAVING (R361): a request is past QUEUED and not finished. -/
def State.showGraving (s : State) : State :=
  s.set F.FTL_STATUS_GRAVING (b2n (s.ftl.greqs.any (fun g => decide (0 < g.st) && decide (g.st < 6))))

/-- A request put back. -/
def State.setGreq (s : State) (g : GReq) : State :=
  ({ s with ftl := { s.ftl with greqs := s.ftl.greqs.map (fun x => if x.id = g.id then g else x) } } : State).showGraving

/-- A request in a new state: event 0x8020 (R356). -/
def State.greqTo (s : State) (g : GReq) (st : Nat) : State :=
  (s.setGreq { g with st := st }).log 0x8020 [(4, g.num), (1, st)] (.ag 15)

/-- The slot of FTL_GSEL for a new request (R357): one never used, else the oldest finished request's. -/
def State.gslot (s : State) : Option Nat :=
  match (List.range 64).find? (fun n => !s.ftl.greqs.any (fun g => g.id == n)) with
  | some n => some n
  | none => (((sortBy (fun (a b : GReq) => decide (a.num ≤ b.num)) (s.ftl.greqs.filter (fun g => decide (6 ≤ g.st)))).head?).map
      (fun g => g.id))

/-- GRAVER_REQUEST (R355): the discards of a volume accepted within the minute of the first that waits. -/
def execGraverRequest (vol : Nat) (s : State) : Out :=
  ok (match s.ftl.discards.find? (fun d => d.1 == vol), s.gslot with
    | some (_, _, t0), some n =>
      let s1 := s.advTo (t0 + 60 * nsS)
      let mine := fun (d : Nat × Nat × Nat) => d.1 == vol && decide (d.2.2 < t0 + 60 * nsS)
      let size := ((s.ftl.discards.filter mine).map (fun d => d.2.1)).sum
      let g : GReq := { id := n, num := s.ftl.gnum, vol := vol, st := 0, size := size, listed := 0, at_ := t0, horizon := s.ftl.seq }
      { s1 with ftl := { s1.ftl with
        discards := s1.ftl.discards.filter (fun d => !mine d)
        greqs := s1.ftl.greqs.filter (fun x => x.id != n) ++ [g]
        gnum := s1.ftl.gnum + 1 } }
    | _, _ => s)

/-- A block that could not be made unreadable (R357): FAILED, event 0x8022 with its place. -/
def State.greqFail (s : State) (g : GReq) (blk : Nat) : State :=
  let (c, t, b) := blkParts blk
  ((s.greqTo g 7).retireBlock blk).log 0x8022 [(4, g.num), (1, c), (4, t), (4, b)] (.ag 15)

/-- A request's present state is complete (R356). At most 8 requests are past QUEUED. How many blocks it lists is free. -/
def State.greqNext (s : State) (g : GReq) : State :=
  if g.st = 0 then
    (if (s.ftl.greqs.filter (fun x => decide (0 < x.st) && decide (x.st < 6))).length < 8 then s.greqTo g 1 else s)
  else if g.st = 2 then
    let (n, s1) := s.draw
    s1.greqTo { g with listed := n } 3
  else if g.st = 3 then
    let (n, s1) := s.draw
    (s1.nandProgram n).greqTo { g with listed := 0 } 4
  else s.greqTo g (g.st + 1)

/-- GRAVER_STATE_ADVANCE (R356, R357): the present state of a request is complete; a block that its erasing or verifying made unreadable only by zeros
is retired, and one that stayed readable fails the request. -/
def execGraverStateAdvance (req : Nat) (res : GravRes) (s : State) : Out :=
  ok (match s.greq req with
    | none => s
    | some g =>
      let erasing := g.st == 3 || g.st == 5
      if s.ftl.held || !s.on F.FTL_STATUS_MOUNTED || decide (6 ≤ g.st) then s
      else match res with
      | .good => s.greqNext g
      | .zeroed id => if erasing then (s.retireBlock id).greqNext g else s
      | .failed id => if erasing then s.greqFail g id else s)

/-- GRAVER_OVERDUE (R357): a request is not DONE 24 h after acceptance. -/
def execGraverOverdue (req : Nat) (s : State) : Out :=
  ok (match s.greq req with
    | none => s
    | some g =>
      if g.st = 6 ∨ g.late = true then s
      else
        let s1 := s.advTo (g.at_ + 86400 * nsS)
        (s1.setGreq { g with late := true }).log 0x8021 [(4, g.num), (1, g.st)] (.ag 15))

/-- What a write of FTL_GSEL does (R361): the request slot is copied into FTL_GINFO to FTL_GSIZE at one instant. -/
def gselAct : Act := fun _ _ _ s =>
  match s.greq (s.get F.FTL_GSEL_REQ) with
  | none =>
    (((((s.set F.FTL_GINFO_STATE 0).set F.FTL_GINFO_VALID 0).set F.FTL_GINFO_VOLUME 0).set F.FTL_GINFO_BLOCKS 0).set F.FTL_GID 0
      |>.set F.FTL_GTIME 0).set F.FTL_GSIZE 0
  | some g =>
    let s1 := (((s.set F.FTL_GINFO_STATE g.st).set F.FTL_GINFO_VALID 1).set F.FTL_GINFO_VOLUME g.vol)
    let s2 := (s1.set F.FTL_GINFO_BLOCKS (min 65535 g.listed)).set F.FTL_GID g.num
    (s2.set F.FTL_GTIME (min max32 ((s.time.clk - g.at_) / nsS))).set F.FTL_GSIZE g.size

/-- FTL_GSEL (R361). -/
def execFtlGsel (p : Port) (v : Word) (s : State) : Out := ok (s.regWrite gselAct p F.FTL_GSEL_REQ.addr v.toNat).st

/-! ## Wear (R359) -/

/-- Days since the format. -/
def State.ftlAge (s : State) : Nat := match s.ftl.formatAt with | some t => (s.time.clk - t) / (86400 * nsS) | none => 0

/-- Erases of the array in all. -/
def State.erases (s : State) : Nat := (s.ftl.pe.map (fun e => e.2)).sum

/-- The rated cycles: FTL_PE.PE, or the parameter page's where PE is 0. -/
def State.rated (s : State) : Nat := if s.get F.FTL_PE_PE = 0 then s.get F.FTL_PE_RATED else s.get F.FTL_PE_PE

/-- The years × 10 until the average count reaches the rated cycles, at the wear of the last days. -/
def State.lifeTenths (s : State) (span worn : Nat) : Nat :=
  if worn = 0 then 65535
  else min 65535 ((s.rated * s.ftl.blocks - s.erases) * span * 1000 / (worn * 36525))

/-- WEAR_REPORT (R359): the figures, an hour after the last; 0x8030 once a day when the projected life falls short of 40 years. -/
def execWearReport (s0 : State) : Out :=
  ok (if !s0.on F.FTL_STATUS_MOUNTED then s0
  else
    let sA := s0.advTo (s0.ftl.wearAt + 3600 * nsS)
    let s : State := { sA with ftl := { sA.ftl with wearAt := sA.time.clk } }
    let day := s.ftlAge
    let days := if s.ftl.days.any (fun d => d.1 == day) then s.ftl.days
      else s.ftl.days ++ [(day, s.ftl.host, s.ftl.nand, s.erases)]
    let kept := days.filter (fun d => decide (day < d.1 + 30))
    let (d0, h0, n0, e0) := kept.headD (day, 0, 0, 0)
    let dh := s.ftl.host - h0
    let waf := if dh = 0 then 0 else (s.ftl.nand - n0) * 100 / dh
    let avg := if s.ftl.blocks = 0 then 0 else s.erases / s.ftl.blocks
    let top := s.ftl.pe.foldl (fun m e => max m e.2) 0
    let yrs := s.lifeTenths (max 1 (day - d0)) (s.erases - e0)
    let s1 : State := { s with ftl := { s.ftl with days := kept } }
    let s2 := ((s1.set F.FTL_WAF (min max32 waf)).set F.FTL_PEAVG_AVG (min 65535 avg)).set F.FTL_PEAVG_MAX (min 65535 top)
    let s3 := (s2.set F.FTL_LIFE_YEARS yrs).set F.FTL_LIFE_AGE (min 65535 day)
    let s4 := (s3.set F.FTL_HOSTGB (min max32 (s.ftl.host / 1000000000))).set F.FTL_NANDGB (min max32 (s.ftl.nand / 1000000000))
    if yrs * 1461 + day * 40 < 584400 ∧ s.ftl.lifeDay ≠ some day then
      ({ s4 with ftl := { s4.ftl with lifeDay := some day } } : State).log 0x8030 [(4, yrs)] (.ag 15)
    else s4)

/-! ## The long roll's retention (R369) -/

/-- The most records that the long roll holds (R369). -/
def longMax : Nat := 1073741824

/-- LONG_ROLL_EXPIRE (R369): records EVREC_LONG.DAYS days old, and the oldest beyond 2^30, are discarded. -/
def execLongRollExpire (s : State) : Out :=
  ok (match s.ev.long with
    | [] => s
    | r :: _ =>
      let keep := s.get F.EVREC_LONG_DAYS * 86400
      let s1 := if longMax < s.ev.long.length then s else s.advDev ((r.secs + keep) * nsS)
      let young := s1.ev.long.filter (fun x => decide (s1.secs < x.secs + keep))
      let rest := young.drop (young.length - longMax)
      ({ s1 with ev := { s1.ev with long := rest, longDur := s1.ev.longDur - (s1.ev.long.length - rest.length) } } : State).discard 2
        (32 * (s.ev.long.length - rest.length)))

end Sys2Proof.Machine
end

