-- ==== Sys2Proof/Machine/Reset.lean ====
section
/-! DEFINITION. Resets (R453, R454, R466) and the supply warning (R371, R417, R447 to R452): what a reset keeps and what it loses. -/

namespace Sys2Proof.Machine

/-- What a reset reaches (R453): everything with the always-on domain, all but the always-on domain, or the logic die alone. -/
inductive Scope where
  | por | bor | die
  deriving DecidableEq, Repr

/-! ## Registers over a reset -/

/-- Whether the always-on domain holds a field (R442, R453): the TAMPER block's latch and settings, and PWR_RSTCAUSE. -/
def aonAddr (a : Nat) : Bool := blockOf a == some 19 || a == F.PWR_RSTCAUSE_POR.addr

/-- Whether the state store holds a field (R118, R320, R323, R333, R338): the legal parameters and the monotonic counters. -/
def storeAddr (a : Nat) : Bool :=
  (match findReg a with | some (r, _) => isLegal r | none => false) || a == F.KEY_FLATCNT.addr ||
  (decide (F.KEY_SEEDCNT_COUNT.addr ≤ a) && decide (a < F.KEY_SEEDCNT_COUNT.addr + 256)) || a == F.TAMPER_CLRCNT.addr

/-- Whether a reset keeps a field, by the address of its register. The FAULT block stays at a restart of the logic die (R466). -/
def keepsAddr (sc : Scope) (a : Nat) : Bool :=
  storeAddr a || (sc != .por && aonAddr a) || (sc == .die && blockOf a == some 25)

/-- The register block after a reset. -/
def State.regReset (s : State) (sc : Scope) : RegSt := { fields := s.reg.fields.filter (fun e => keepsAddr sc (e.1 / 32)) }

/-- The fields of the FAULT block that return to 0 at every reset: LIVE, the running injection and the requested runs (R466, R468). -/
def State.faultReset (s : State) : State :=
  let s1 := ((s.set F.FAULT_CTRL_LIVE 0).set F.FAULT_STATUS_LIVEON 0).set F.FAULT_STATUS_ACTIVE 0
  let s2 := (s1.set F.FAULT_STATUS_LEFT 0).set F.FAULT_STATUS_STPEND 0
  (s2.set F.FAULT_ST_BURIN 0).set F.FAULT_ST_KEY 0

/-! ## Parts of the state over a reset -/

/-- The injection that a reset ends (R466): DET, the occurrences fired, PATHOK and the writer; the resetting injection's writer. -/
def State.faultEnds (s : State) : FaultSt :=
  { ended := if s.on F.FAULT_STATUS_ACTIVE then
      some (s.get F.FAULT_STATUS_DET, s.fault.fired, s.get F.FAULT_STATUS_PATHOK, s.fault.org) else s.fault.ended
    resetBy := s.fault.resetBy }

/-- Deferred items that had re-entered the pipeline and were not final (R75): their entries in the deferral volume stand. -/
def State.deferBack (s : State) : List Item :=
  let p := s.pipe
  let all := p.reg0 ++ p.reg1 ++ p.reg2 ++ p.reg3 ++ p.ring2 ++ p.ring3 ++ p.work.map (fun w => w.item)
  sortBy (fun a b => decide (a.seq ≤ b.seq)) (all.filter (fun i => i.retry && p.deferOut.any (fun d => d.1 == i.seq)))

/-- Whether a series entry is durable (R346, R353): programmed within 1 s of its being handed over, unless a supply warning came before. -/
def State.durable (s : State) (e : SerEnt) : Bool :=
  decide (e.put + nsS ≤ (if s.ftl.held then s.pwr.warnAt.getD s.time.clk else s.time.clk))

/-- The pipeline after a reset: series, deferral and quarantine volumes stay, without what is not durable (R353; DESIGN CHOICE: all of the last second),
and SEQ starts again at 0 (R97). -/
def State.pipeReset (s : State) : PipeSt :=
  { defer := s.deferBack ++ s.pipe.defer, quar := s.pipe.quar, nextQuar := s.pipe.nextQuar, series := s.pipe.series.filter s.durable, serN := s.pipe.serN }

/-- The meter store after a reset: the journal, the checkpoint, the public keys and the placement key (R101, R112, R113). -/
def State.meterReset (s : State) : MeterSt :=
  { keys := s.meter.keys, placeK := s.meter.placeK, journal := s.meter.journal, ckpt := s.meter.ckpt
    ckIdx := s.meter.ckIdx, ckHead := s.meter.ckHead, ckAt := s.meter.ckAt, ckPos := s.meter.ckPos, ckT := s.meter.ckT, ckPass := s.meter.ckPass }

/-- The legal region after a reset: records and queue are lost, and the rebuild brings the records back (R123). A mains absence goes on (R144). -/
def State.legReset (s : State) : LegSt := 
  { s.leg with recs := [], queue := [], faults := [], bpeek := [], chk0 := [], chkNow := [] }

/-- DIST after a reset: the mirror and the campaigns. -/
def State.distReset (s : State) : DistSt := { mirror := s.dist.mirror, camps := s.dist.camps }

/-- The ports after a reset: the subscription and the closed transfers (R300, R304); a card stays in its socket. The seal port's
responses stay for a recommissioning, whose answer goes before its restart (R333). -/
def State.portReset (s : State) (sc : Scope) : PortSt :=
  { sub := s.port.sub, nseq0 := s.port.nseq0, nseq1 := s.port.nseq1, xfers := s.port.xfers.filter (fun x => x.closed)
    card := s.port.card, sealOut := if sc = .die then s.port.sealOut else [] }

/-- The recorder after a reset: the areas with what a freeze held, the count, and of the long roll what is durable. -/
def State.evReset (s : State) : EvSt :=
  let e := s.flushHold.ev
  { total := e.total, proof := e.proof, roll := e.roll, long := e.long.take e.longDur, longDur := min e.longDur e.long.length }

/-- The radio after a reset: the transmit time of the last hour (R263), which the duty limits need. -/
def State.radioReset (s : State) : RadioSt := { dwell := s.radio.dwell, minute := s.radio.minute }

/-- The state store and the rest of the keys after a reset (R320, R323, R332). -/
def State.keyReset (s : State) : KeySt :=
  { seeds := s.key.seeds, flat := s.key.flat, mirror := s.key.mirror, clrGen := s.key.clrGen, gen := s.key.gen, blown := s.key.blown }

/-- Clocks and power after a reset: PWR_INRUSH in the state store, and in the always-on domain unless that was reset (R456). -/
def State.pwrReset (s : State) (sc : Scope) : PwrSt :=
  { inStore := s.pwr.inStore, inAon := if sc = .por then none else s.pwr.inAon }

/-- The display after a reset: the plate, and what the bistable panel shows (R412, R403). -/
def State.dispReset (s : State) : DispSt :=
  { seq := s.disp.seq, cur := s.disp.cur, pflags := s.disp.pflags, introw := s.disp.introw, pfirst := s.disp.pfirst
    plast := s.disp.plast, banner := s.disp.banner, frame := s.disp.frame, img0 := s.disp.img0, img1 := s.disp.img1
    vhv := s.disp.vhv, glass := s.disp.glass }

/-- A reset (R453): its bit of PWR_RSTCAUSE, and the part down until the next power-good. Elapsed time, the free values and the
queue of commands go on. -/
def State.restart (s : State) (sc : Scope) (cause : Fld) : State :=
  let s1 : State := { s with
    reg := s.regReset sc, ev := s.evReset, port := s.portReset sc
    time := { clk := s.time.clk, aon := if sc = .por then 0 else s.time.aon, aonClk := if sc = .por then s.time.clk else s.time.aonClk }
    mains := {}, pipe := s.pipeReset, meter := s.meterReset, leg := s.legReset, dist := s.distReset, plc := {}
    radio := s.radioReset, key := s.keyReset, pwr := s.pwrReset sc
    ftl := { s.ftl with held := false }, fwu := { s.fwu with mkey := [], halted := false }, disp := s.dispReset, fault := s.faultEnds }
  s1.faultReset.set cause 1

/-! ## The supply warning (R448, R452) -/

/-- The rail whose comparator a held injection of DET 28 forces below its warning level (R457, R462), as a bit. -/
def State.forcedRail (s : State) : Nat :=
  if s.on F.FAULT_STATUS_ACTIVE && s.fault.holdEnd.isSome && s.get F.FAULT_STATUS_DET == 28 then 2 ^ s.get F.FAULT_INJ_ARG else 0

/-- PWR_STATUS.LOW with the rails really low and one that is forced. -/
def State.showLow (s : State) : State := s.set F.PWR_STATUS_LOW (s.pwr.low ||| s.forcedRail)

/-- The rails whose warning level asserts the supply warning (R448). -/
def State.monLow (s : State) : Bool := s.get F.PWR_STATUS_LOW &&& s.get F.PWR_CTRL_MON != 0

/-- The dip begins (R452 step 1): the FTL stops, a freeze ends, the high-water mark is written. -/
def State.dipBegin (s : State) : State :=
  let s1 : State := { s.set F.PWR_STATUS_WARN 1 with
    pwr := { s.pwr with
      warnAt := some s.time.clk, relAt := none, held := false, dipRails := s.get F.PWR_STATUS_LOW, dipBy := s.ev.mark }
    ftl := { s.ftl with held := true } }
  s1.endFreeze.writeHwm

/-- The supply warning as PWRWARN_N and the rails have it: a dip begins or goes on, or its release is counted from now. -/
def State.supplyNow (s : State) : State :=
  if s.on F.PWR_STATUS_PIN || s.monLow then
    match s.pwr.warnAt with
    | none => s.dipBegin
    | some _ => { s with pwr := { s.pwr with relAt := none, dipRails := s.pwr.dipRails ||| s.get F.PWR_STATUS_LOW } }
  else match s.pwr.warnAt, s.pwr.relAt with
  | some _, none => { s with pwr := { s.pwr with relAt := some s.time.clk } }
  | _, _ => s

/-! ## The reset commands -/

/-- POR (R453): VDD_AON rises from below its reset level. The always-on domain's reset value of PWR_RSTCAUSE is the bit POR alone. -/
def execPor (s : State) : Out := ok (s.restart .por F.PWR_RSTCAUSE_POR)

/-- A reset by BOR, or what an injection of DET 28 led to (R453, R466). VDD_AON is POR's. -/
def State.borReset (s : State) : State :=
  let by_ := if s.on F.FAULT_STATUS_ACTIVE && s.get F.FAULT_STATUS_DET == 28 then some s.fault.org else s.fault.resetBy
  ({ s with fault := { s.fault with resetBy := by_ } } : State).restart .bor F.PWR_RSTCAUSE_BOR

/-- BOR (R447, R453): a rail other than VDD_AON below its reset level for 1 µs; VHV has no reset level. -/
def execBor (rail : Nat) (s : State) : Out := ok (if rail = 1 ∨ 6 < rail then s else s.borReset)

/-- PIN (R453): RESET_N low for at least 1 µs. -/
def execPinReset (s : State) : Out := ok (s.restart .bor F.PWR_RSTCAUSE_PIN)

/-- WDOG_EXPIRE (R453, R466): the application cluster, which runs since power-good, has not serviced its watchdog within PWR_WDOG.MS; an
injection of DET 29 withholds the service. -/
def execWdogExpire (s' : State) : Out :=
  let s := if s'.pwr.on then s'.advTo (s'.pwr.pgAt + s'.get F.PWR_WDOG_MS * 1000000) else s'
  let by_ := if s.on F.FAULT_STATUS_ACTIVE && s.get F.FAULT_STATUS_DET == 29 then some s.fault.org else s.fault.resetBy
  ok (({ s with fault := { s.fault with resetBy := by_ } } : State).restart .bor F.PWR_RSTCAUSE_WDOG)

end Sys2Proof.Machine
end

