-- ==== Sys2Proof/Machine/Fault.lean ====
section
/-! DEFINITION. Injections (R457 to R466), the live bit (R463, R464), and the requested self-tests and offline calibrations (R467,
R468). A forced decision that needs time under its own rule is taken in the step that fires the occurrence. -/

namespace Sys2Proof.Machine

/-! ## What an injection names (R457, R460) -/

/-- The range of ARG for a DET. -/
def argOk (det arg : Nat) : Bool :=
  if det = 15 then decide (arg < 24)
  else if det = 16 ∨ det = 17 ∨ det = 18 then decide (arg < 94)
  else if det = 21 then decide (arg < 5)
  else if det = 28 then arg == 0 || (decide (2 ≤ arg) && decide (arg ≤ 6))
  else if det = 30 then decide (1 ≤ arg) && decide (arg ≤ 8)
  else if det = 31 then decide (arg < 3)
  else arg == 0

/-- The first RWT field of the register at an address, with its instance. -/
def rwtAt (a : Nat) : Option (Fld × Nat) :=
  (findReg a).bind (fun ri => (ri.1.flds.find? (fun f => f.ty == .RWT)).map (fun f => (f, ri.2)))

/-- Whether FAULT_ADDR names what a DET requires. -/
def State.addrOk (s : State) (det arg : Nat) : Bool :=
  let a := s.faultAddr
  if det = 19 ∨ det = 20 then decide (a < s.dramBytes)
  else if det = 21 then decide (a < s.volSize arg * gib / 4096)
  else if det = 22 ∨ det = 23 then (rwtAt a).isSome
  else if det = 24 then (match findReg a with | some (r, _) => r.prot == .pair | none => false)
  else true

/-- Why an injection is refused (R460), the first cause that holds. -/
def State.injRefusal (s : State) (det arg count : Nat) : Option Nat :=
  if s.on F.FAULT_STATUS_ACTIVE then some 0
  else if s.restricted || s.on F.TAMPER_STATUS_LATCH then some 1
  else if !argOk det arg then some 2
  else if !s.addrOk det arg then some 3
  else if count = 0 then some 4
  else none

/-! ## Forced decisions -/

/-- Whether a held force of FAULT_DUR.US makes a tamper detector decide (R327, R464). Between two and three bit periods of a mesh it is
free. -/
def State.dwellDecides (s : State) (d : Nat) : Bool × State :=
  let us := s.get F.FAULT_DUR_US
  if d < 8 then (decide ((s.geti F.TAMPER_INCFG_FILT d + 1) * 3052 ≤ us * 100), s)
  else if d < 10 then
    let period := 3052 * 2 ^ s.geti F.TAMPER_MESH_RATE (d - 8)
    if 3 * period ≤ us * 100 then (true, s)
    else if us * 100 < 2 * period then (false, s)
    else let (n, s1) := s.draw; (n % 2 == 1, s1)
  else if d = 11 then (decide (1000 ≤ us), s)
  else if d = 12 then (decide (10 ≤ us), s)
  else (true, s)

/-- The tamper path of an injected decision (R463). -/
def State.tamperForced (s : State) (d : Nat) : State :=
  let (yes, s0) := s.dwellDecides d
  if !yes || !s0.detectorRuns d then s0
  else
    let sealIn := decide (d < 8) && s0.geti F.TAMPER_INCFG_SEAL d == 1
    let armed := bit (s0.get F.TAMPER_ARM_ARM) d || d == 13
    let s1 := if armed then s0.set F.FAULT_STATUS_PATHOK 1 else s0
    if s1.on F.FAULT_CTRL_LIVE then s1.tamperDetect d
    else
      let s2 := s1.tamperLog 0x7001 [(1, d), (1, b2n armed)]
      if sealIn then s2.tamperLog 0x7004 [(1, d)] else s2

/-- The packets that a queue block holds (R217). -/
def State.queueLen (s : State) (id : Nat) : Nat :=
  if id < 4 then (s.region id).length
  else if id = 4 then s.leg.queue.length
  else if id = 5 then s.pipe.distQ.length
  else if id < 14 then (s.port.hcpIn.filter (fun h => reqQueue h.req == some id)).length
  else if id < 70 then (s.egq id).q.length
  else 0

/-- A Burin engine that failed its self-test is disabled (R468). -/
def State.engineFails (s : State) (e : Nat) : State :=
  ({ s with pipe := { s.pipe with engOk := setBit s.pipe.engOk e false } } : State).log 0x2010 [(1, e)] (.ag 4)

/-- The copies of a triplicated field after DET 22 or 23. -/
def State.triForced (s : State) (all : Bool) : State :=
  match rwtAt s.faultAddr with
  | none => s
  | some (f, i) =>
    let v := s.geti f i
    let n := 2 ^ f.w
    let t : TriCopies := if all then ⟨f.key i, v, n - 1 - v, flip0 v, s.fault.org⟩ else ⟨f.key i, v, v, n - 1 - v, s.fault.org⟩
    { s with reg := { s.reg with tri := t :: s.reg.tri.filter (fun x => x.key != f.key i) } }

/-- A wrong check value (DET 26): recomputed at once with one byte of the result inverted, which byte being free. -/
def State.checkForced (s : State) : State :=
  let (n, s1) := s.draw
  let v := fit 32 s1.leg.chkNow
  let w := (List.range 32).map (fun i => if i = n % 32 then v.getD i 0 ^^^ 255 else v.getD i 0)
  ((s1.set F.BILL_STATUS_CHKOK 0).logCheck 0x3002 w).legalFault 1

/-- What an occurrence does as it fires (R457). -/
def State.forceNow (s : State) (det arg : Nat) : State :=
  if det < 14 then s.tamperForced det
  else if det = 14 then
    ({ s with key := { s.key with flatBy := if s.on F.KEY_STATUS_FLAT then s.key.flatBy else some s.fault.org } } : State).enterFlat
  else if det = 15 then s.engineFails arg
  else if det ≤ 18 then { s with port := { s.port with poison := s.port.poison ++ [⟨arg, det - 16, s.queueLen arg, s.fault.org⟩] } }
  else if det = 22 then s.triForced false
  else if det = 23 then s.triForced true
  else if det = 25 then (if s.on F.BILL_STATUS_RUN then s.legalFault 0 else s)
  else if det = 26 then s.checkForced
  else if det = 27 then (if (lookupK s.faultAddr s.leg.recs).isSome then
    s.setLrec s.faultAddr { s.lrec s.faultAddr with crcBad := true } else s)
  else if det = 28 then (s.set F.PWR_STATUS_LOW (setBit (s.get F.PWR_STATUS_LOW) arg true)).supplyNow
  else if det = 30 then (match domOf arg with | some d => s.pllLose d | none => s)
  else if det = 31 then
    (if bit (s.get F.PLC_STATUS_DRVFAULT) arg then s
     else ({ s with plc := { s.plc with faultLow := arg :: s.plc.faultLow } } : State).set F.PLC_STATUS_DRVFAULT
       (setBit (s.get F.PLC_STATUS_DRVFAULT) arg true) |>.log 0x6040 [(1, arg)] (.ag 10))
  else s

/-- Whether an occurrence of a DET is held for FAULT_DUR.US (R457). -/
def isHeld (det : Nat) : Bool := decide (det ≤ 12) || det == 28 || det == 30 || det == 31

/-- The longest crossing time in ns into the domain that a held force acts in (R442, R461). -/
def forceCross (det arg : Nat) : Nat :=
  if det ≤ 9 then 92000
  else if det = 30 then ([0, 10, 10, 25, 16, 300, 100, 160, 1000].getD arg 0) else 0

/-- An occurrence that its own instant uses up: DET 13, 14, 15, 26, and 25 while the legal cores run. -/
def State.usedAtOnce (s : State) (det : Nat) : Bool :=
  det == 13 || det == 14 || det == 15 || det == 26 || (det == 25 && s.on F.BILL_STATUS_RUN)

/-- The occurrence due fires (R461), or waits while the supply warning is asserted; occurrences used up at once follow one another. -/
def State.fire : Nat → State → State
  | 0, s => s
  | n + 1, s =>
    let det := s.get F.FAULT_STATUS_DET
    let arg := s.get F.FAULT_INJ_ARG
    if s.on F.PWR_STATUS_WARN ∧ det ≠ 28 then { s with fault := { s.fault with waits := true, gapEnd := none } }
    else
      let once := s.usedAtOnce det
      let s1 := s.faultFired
      let (k, s2) := s1.draw
      let cross := if forceCross det arg = 0 then 0 else k % (forceCross det arg + 1)
      let s3 : State := { s2 with fault := { s2.fault with
        holdEnd := if isHeld det then some (s2.time.clk + cross + s2.get F.FAULT_DUR_US * 1000) else none
        armed := !isHeld det && !once } }
      let s4 := s3.marked s.fault.org (fun x => x.forceNow det arg)
      if once then
        let s5 := s4.faultUsed
        if s5.get F.FAULT_STATUS_LEFT = 0 then s5.faultFinish else State.fire n s5
      else s4

/-- The action of FAULT_INJ's completed pair (R459 to R461). -/
def injAct : Act := fun p a v s =>
  let det := F.FAULT_INJ_DET.of v
  let arg := F.FAULT_INJ_ARG.of v
  let count := F.FAULT_INJ_COUNT.of v
  match s.injRefusal det arg count with
  | some c => (s.inc F.FAULT_REFCNT).logMarked p 0xB002 [(1, c), (1, det)] (.ag 20)
  | none =>
    let w0 := s.get F.FAULT_INJ_DET + 256 * s.get F.FAULT_INJ_ARG + 65536 * s.get F.FAULT_INJ_COUNT
    let w1 := det + 256 * arg + 65536 * count
    let s1 := ((s.set F.FAULT_INJ_DET det).set F.FAULT_INJ_ARG arg).set F.FAULT_INJ_COUNT count
    let s2 := if w0 = w1 ∨ p = .config then s1 else s1.log 0xC001 [(4, a), (4, w0), (4, w1)] { port := p, agent := 20, inj := true }
    let s3 := ((s2.set F.FAULT_STATUS_ACTIVE 1).set F.FAULT_STATUS_DET det).set F.FAULT_STATUS_LEFT count
    State.fire 16 { s3 with fault := { s3.fault with org := p, fired := 0, holdEnd := none, gapEnd := none, armed := false, waits := false } }

/-- INJECTION (R461): the completed FAULT_INJ pair. -/
def execInjection (p : Port) (v : Word) (s : State) : Out := ok (s.pairWrite injAct p F.FAULT_INJ_DET v.toNat)

/-! ## Occurrences that end -/

/-- The force of a held occurrence released (R461). A PLL or line driver recovers under its own rule. -/
def State.release (s : State) (det : Nat) : State :=
  if det = 28 then s.marked s.fault.org (fun x => (x.set F.PWR_STATUS_LOW x.pwr.low).supplyNow) else s

/-- Whether the event that uses up an occurrence has come, as the state shows it: the next word of a queue written (DET 16 to 18), a vote
(22, 23), the CRC check (27); the pair of DET 24 and the watchdog of DET 29 end theirs themselves. The others' event is this command. -/
def State.eventCame (s : State) (det arg : Nat) : Bool :=
  if 16 ≤ det ∧ det ≤ 18 then
    (match s.port.poison.reverse.find? (fun p => p.id == arg && p.kind == det - 16) with
     | some p => decide (p.ahead < s.queueLen arg)
     | none => true)
  else if det = 22 ∨ det = 23 then (match rwtAt s.faultAddr with
    | some (f, i) => !s.reg.tri.any (fun t => t.key == f.key i)
    | none => true)
  else if det = 27 then !(s.lrec s.faultAddr).crcBad && (lookupK s.faultAddr s.leg.recs).isSome
  else if det = 24 ∨ det = 29 then false
  else if det = 25 then s.on F.BILL_STATUS_RUN
  else true

/-- What the event does where it lies on a read path (DET 19 to 21, 25): the word or sector is read. Whether die parity rebuilds the
sector is free. -/
def State.eventActs (s : State) (det arg : Nat) : State :=
  if det = 19 then s.dramCe s.faultAddr
  else if det = 20 then s.dramUe s.faultAddr
  else if det = 21 then
    let (n, s1) := s.draw
    if n % 2 = 1 ∧ ¬ s1.on F.FTL_STATUS_NOPARITY then s1
    else (s1.inc F.FTL_LOST).log 0x8014 [(1, arg), (4, s1.faultAddr)] (.ag 15)
  else if det = 25 then s.legalFault 0
  else s

/-- OCCURRENCE_END (R457, R461): the held occurrence ends, or the span between two held ones; or the event that uses up an occurrence has
come. The next fires, or the injection ends. -/
def execOccurrenceEnd (s : State) : Out :=
  ok (if !s.on F.FAULT_STATUS_ACTIVE then s
  else
    let det := s.get F.FAULT_STATUS_DET
    let arg := s.get F.FAULT_INJ_ARG
    match s.fault.holdEnd, s.fault.gapEnd with
    | some t, _ =>
      let s1 := ((s.advTo t).release det).faultUsed
      if s1.get F.FAULT_STATUS_LEFT = 0 then s1.faultFinish
      else { s1 with fault := { s1.fault with gapEnd := some (s1.time.clk + s1.get F.FAULT_DUR_US * 1000) } }
    | none, some t => State.fire 16 (s.advTo t)
    | none, none =>
      if !s.fault.armed || !s.eventCame det arg then s
      else
        let s1 := (s.marked s.fault.org (fun x => x.eventActs det arg)).faultUsed
        if s1.get F.FAULT_STATUS_LEFT = 0 then s1.faultFinish else State.fire 16 s1)

/-- What an occurrence that is discarded leaves undone (R461). -/
def State.disarm (s : State) (det arg : Nat) : State :=
  if !s.fault.armed || s.eventCame det arg then s
  else if 16 ≤ det ∧ det ≤ 18 then
    { s with port := { s.port with poison := s.port.poison.filter (fun p => !(p.id == arg && decide (s.queueLen arg ≤ p.ahead))) } }
  else if det = 27 then (if (lookupK s.faultAddr s.leg.recs).isSome then
    s.setLrec s.faultAddr { s.lrec s.faultAddr with crcBad := false } else s)
  else s

/-- What a write of FAULT_CMD does: STOP (R461). -/
def faultStopAct : Act := fun _ _ v s =>
  if bit v 0 && s.on F.FAULT_STATUS_ACTIVE then
    let det := s.get F.FAULT_STATUS_DET
    let arg := s.get F.FAULT_INJ_ARG
    let s1 := if s.fault.holdEnd.isSome then ({ s with fault := { s.fault with holdEnd := none } } : State).release det else s.disarm det arg
    s1.faultFinish
  else s

/-- STOP (R461). -/
def execFaultStop (p : Port) (v : Word) (s : State) : Out := ok (s.regWrite faultStopAct p F.FAULT_CMD_STOP.addr v.toNat).st

/-- FAULT_CTRL (R464): the completed pair; in certified mode LIVE stays 0. -/
def execFaultCtrl (p : Port) (v : Word) (s : State) : Out := ok (s.pairWrite noAct p F.FAULT_CTRL_LIVE v.toNat)

/-! ## Requested runs (R467, R468) -/

/-- STPEND as the requests stand. -/
def State.showStpend (s : State) : State :=
  let b := b2n s.fault.burinAt.isSome
  let k := b2n s.fault.keyAt.isSome
  ((s.set F.FAULT_STATUS_STPEND (b + 2 * k)).set F.FAULT_ST_BURIN b).set F.FAULT_ST_KEY k

/-- The action of FAULT_ST's completed pair: runs requested; one that is pending takes a request in. -/
def stAct : Act := fun _ _ v s =>
  let now := s.time.clk
  let s1 : State := if bit v 0 && s.fault.burinAt.isNone then
    { s with fault := { s.fault with burinAt := some now, engine := 0, failed := false } } else s
  let s2 : State := if bit v 1 && s1.fault.keyAt.isNone then { s1 with fault := { s1.fault with keyAt := some now } } else s1
  s2.showStpend

/-- FAULT_ST_BURIN (R467). -/
def execFaultStBurin (p : Port) (v : Word) (s : State) : Out := ok (s.pairWrite stAct p F.FAULT_ST_BURIN v.toNat)

/-- FAULT_ST_KEY (R467). -/
def execFaultStKey (p : Port) (v : Word) (s : State) : Out := ok (s.pairWrite stAct p F.FAULT_ST_KEY v.toNat)

/-- Whether a run is pending, and its request's elapsed time. -/
def State.runAt (s : State) : CalRun → Option Nat
  | .plc ph => lookupK ph s.plc.calReq
  | .radio => s.radio.calAt
  | .burin => s.fault.burinAt
  | .key => s.fault.keyAt

/-- A run ends with a result (R467, R468): reported, and no longer pending. -/
def State.runEnds (s : State) (run : CalRun) (result : Nat) : State :=
  match run with
  | .plc ph =>
    let m := setBit (s.get F.PLC_CAL_RUN) ph false
    (({ s with plc := { s.plc with calReq := eraseK ph s.plc.calReq } } : State).set F.PLC_CAL_RUN m).set F.PLC_STATUS_CALRUN m |>.log
      0x6050 [(1, ph), (1, result)] (.ag 10)
  | .radio =>
    (({ s with radio := { s.radio with calAt := none } } : State).set F.RADIO_CAL_RUN 0).set F.RADIO_STATUS_CALRUN 0 |>.log
      0x6130 [(1, result)] (.ag 11)
  | .burin => ({ s with fault := { s.fault with burinAt := none } } : State).showStpend.log 0xB030 [(1, 0), (1, result)] (.ag 20)
  | .key => ({ s with fault := { s.fault with keyAt := none } } : State).showStpend.log 0xB030 [(1, 1), (1, result)] (.ag 20)

/-- A slice that ran to its end. A Burin slice tests one engine, in their order. -/
def State.sliceDone (s : State) (run : CalRun) (pass last : Bool) : State :=
  match run with
  | .plc _ | .radio => if last then s.runEnds run 0 else s
  | .burin =>
    let e := s.fault.engine
    let s1 := if pass then s else s.engineFails e
    let s2 : State := { s1 with fault := { s1.fault with engine := e + 1, failed := s1.fault.failed || !pass } }
    if 23 ≤ e then s2.runEnds .burin (if s2.fault.failed then 2 else 0) else s2
  | .key =>
    if pass then (if s.on F.KEY_STATUS_FLAT then s else s.set F.KEY_STATUS_KATOK 1).runEnds .key 0
    else (if s.on F.KEY_STATUS_FLAT then s else s.enterFlat).runEnds .key 2

/-- Whether an idle gap is there for a slice (R238, R273, R467): nothing sent, received or queued on what the slice tests, no
item that waits for a Burin engine, none that waits for a derivation. -/
def State.idleGap (s : State) (run : CalRun) : Bool :=
  match run with
  | .plc ph => !s.plcTxen ph && (s.headCls (10 + ph)).isNone
  | .radio => !s.rfTrsw && (s.headCls 13).isNone && s.get F.RADIO_STATUS_BUSY == 0
  | .burin => !s.pipe.work.any (fun w => w.at_ 5 && !w.sig.isEmpty)
  | .key => !s.pipe.work.any (fun w => w.at_ 4)

/-- The longest slice of a run in ns (R467). -/
def sliceNs : CalRun → Nat
  | .plc _ | .burin => 2000000
  | .radio => 1000000
  | .key => 20000

/-- When a run that is not done is abandoned: 10 min after its request (R467). -/
def abandonNs : Nat := 600 * nsS

/-- CAL_SLICE (R467): a slice runs in an idle gap, or stops since work arrived and is repeated later in full. No gap begins while the
supply warning is asserted, and none for a run that is abandoned. -/
def execCalSlice (run : CalRun) (e : SliceEnd) (s : State) : Out :=
  ok (match s.runAt run, e with
    | some t, .done pass last =>
      if t + abandonNs < s.time.clk then s.runEnds run 1
      else if s.on F.PWR_STATUS_WARN || !s.idleGap run then s
      else
        let (n, s1) := s.draw
        (s1.adv (n % (sliceNs run + 1))).sliceDone run pass last
    | _, _ => s)

/-- CAL_ABANDON (R467): a run not done 10 min after its request is reported DEFERRED. -/
def execCalAbandon (run : CalRun) (s : State) : Out :=
  ok (match s.runAt run with
    | some t => (s.advTo (t + abandonNs)).runEnds run 1
    | none => s)

end Sys2Proof.Machine
end

