-- ==== Sys2Proof/Machine/Acts.lean ====
section
/-! DEFINITION. What a write at an address does beside its fields: every WO field, selector and completed pair with an action of its own. -/

namespace Sys2Proof.Machine

/-- The action of SYS_STROBE (R430). -/
def strobeAct : Act := fun _ _ v s => s.fireMask (v % 65536)

/-- The action of PWR_CTRL (R448): the supply warning follows the rails now monitored. -/
def monAct : Act := fun _ _ _ s => if s.pwr.on then s.supplyNow else s

/-- The registers that act, by address. -/
def actTable : List (Nat × Act) :=
  [(F.SYS_STROBE_FIRE.addr, strobeAct),
   (F.TIME_SNAP_TAKE.addr, timeSnapAct),
   (F.MAINS_SNAP_TAKE.addr, mainsSnapAct),
   (F.EVREC_FREEZE_SECS.addr, freezeAct),
   (F.EVREC_SEL_SEQ.addr, evselAct),
   (F.METER_FIND_GO.addr, meterFindAct),
   (F.METER_PEEK_SLOT.addr, meterPeekAct),
   (F.TARIFF_BPEEK_SLOT.addr, bpeekAct),
   (F.BILL_CHKCMD_RECOMPUTE.addr, recomputeAct),
   (F.QOS_CNTCLR_CLR.addr, qosClrAct),
   (F.QOS_QSEL_QUEUE.addr, qosQselAct),
   (F.PIPE_CNTCLR_CLR.addr, pipeClrAct),
   (F.PLC_CNTCLR_CLR.addr, plcClrAct),
   (F.PLC_CAL_RUN.addr, plcCalAct),
   (F.RADIO_CNTCLR_CLR.addr, radioClrAct),
   (F.RADIO_CAL_RUN.addr, radioCalAct),
   (F.BAL_NSEL_NODE.addr, nselAct),
   (F.DIST_CSEL_CAMP.addr, distCselAct),
   (F.FTL_GSEL_REQ.addr, gselAct),
   (F.FWU_PSEL_PART.addr, pselAct),
   (F.DISP_CMD_REDRAW.addr, redrawAct),
   (F.DISP_PLATE_COMMON.addr, plateAct),
   (F.KEY_CERT_BLOW.addr, certAct),
   (F.FAULT_INJ_DET.addr, injAct),
   (F.FAULT_CMD_STOP.addr, faultStopAct),
   (F.FAULT_ST_BURIN.addr, stAct),
   (F.PWR_CTRL_MON.addr, monAct)]

/-- The action of a write at an address. The timeplate's entries stand at 256 addresses (R48). -/
def actOf : Act := fun p a v s =>
  match lookupK a actTable with
  | some f => f p a v s
  | none =>
    if F.TIME_TPCFG_KIND.addr ≤ a ∧ a < F.TIME_TPCFG_KIND.addr + 8192 ∧ (a - F.TIME_TPCFG_KIND.addr) % 32 = 0 then tpAct p a v s else s

/-- REGISTER_WRITE (R8): one write at a register, with whatever the register does. -/
def execRegisterWrite (p : Port) (addr : Nat) (v : Word) (s : State) : Out := ok (s.regWrite actOf p addr v.toNat).st

end Sys2Proof.Machine
end

