-- ==== Sys2Proof/Machine/Flags.lean ====
section
/-! DEFINITION. Status flags and every other field that a read draws from the state: the words that reads return (R8, R9, R18, R121,
R261, R319, R388, R423, R494, and the register tables of each block). -/

namespace Sys2Proof.Machine

/-- Halves of a 64-bit quantity. -/
def lo32 (x : Nat) : Nat := x % 4294967296
def hi32 (x : Nat) : Nat := x / 4294967296

/-- Word `n` of a byte string with the first byte at [7:0]. -/
def leWord (b : Bytes) (n : Nat) : Nat := ofLe (sub b (4 * n) 4)

/-- Word `n` of a byte string with the first byte at [31:24]. -/
def beWord (b : Bytes) (n : Nat) : Nat := ofBe (fit 4 (sub b (4 * n) 4))

/-- The calendars of the selected scheme (R157). -/
def State.selCal (s : State) : CalSet := s.calSet (s.get F.TARIFF_SEL_SCHEME)

/-- The slots in a life state (R116). -/
def State.slotsIn (s : State) (st : Nat) : Nat :=
  let n := (s.meter.recs.filter (fun e => e.2.state == st)).length
  if st = 0 then (if s.on F.SYS_STATUS_FULLREADY then 1048576 - (s.meter.recs.filter (fun e => e.2.state != 0)).length else 0) else n

/-- The detectors that decide now (R337): those whose condition the outside shows, and one that an injection forces. -/
def State.asserting (s : State) : Nat :=
  (List.range 14).foldl (fun m d =>
    if s.detectorRuns d && (bit (Config.detectors s.time.clk) d || (s.fault.holdEnd.isSome && s.get F.FAULT_STATUS_DET == d))
    then m + 2 ^ d else m) 0

/-- Fields of the start sequence, time and the pipeline. -/
def viewsA : List (Fld × (State → Nat → Nat)) :=
  [(F.TIME_STATUS_SLEWING, fun s _ => b2n (s.time.slew != 0)),
   (F.TIME_DOMOFS_OFS, fun s i => tc 4 (max (-2147483647) (min 2147483647 (s.domOfs i)))),
   (F.TIME_TPCFG_OWNER, fun _ i => b2n (decide (i < 64))),
   (F.MAINS_PHASE_PRESENT, fun s i => b2n (decide (s.get F.MAINS_CTRL_ABSTHR ≤ s.geti F.MAINS_PHASE_AMPL i))),
   (F.PIPE_STATUS_READY, fun s _ => s.get F.SYS_STATUS_FULLREADY),
   (F.PIPE_STATUS_SPILL3, fun s _ => b2n (!s.pipe.ring3.isEmpty)),
   (F.PIPE_STATUS_SPILL2, fun s _ => b2n (!s.pipe.ring2.isEmpty)),
   (F.PIPE_STATUS_RINGFULL, fun s _ => b2n (decide (1073741824 < (s.pipe.ring3.map Item.len).sum + 1536))),
   (F.PIPE_IQOCC, fun s _ => s.pipe.reg0.length + s.pipe.reg1.length + s.pipe.reg2.length + s.pipe.reg3.length),
   (F.PIPE_RING3, fun s _ => s.pipe.ring3.length),
   (F.PIPE_RING2, fun s _ => s.pipe.ring2.length),
   (F.PIPE_RATE, fun s _ => if s.pipe.finSec = s.secs then s.get F.PIPE_RATE else if s.pipe.finSec + 1 = s.secs then s.pipe.fin else 0),
   (F.PIPE_SEQL, fun s _ => lo32 s.pipe.nextSeq),
   (F.PIPE_SEQH, fun s _ => hi32 s.pipe.nextSeq),
   (F.BURIN_ENGOK_OK, fun s _ => s.engines),
   (F.BURIN_PEND, fun s _ => (s.pipe.work.filter (fun w => w.at_ 5 && !w.sig.isEmpty)).length),
   (F.METER_STATUS_LOADED, fun s _ => s.get F.SYS_STATUS_FULLREADY),
   (F.METER_STATUS_DIRHIGH, fun s _ => b2n s.meter.dirHigh),
   (F.METER_CKPTPOS, fun s _ => s.meter.ckPos),
   (F.METER_CKPTNUM, fun s _ => s.meter.ckPass),
   (F.METER_DIRCNT, fun s _ => s.meter.dir.length),
   (F.METER_COUNT_SLOTS, fun s i => s.slotsIn i),
   (F.METER_PEEKD_WORD, fun s i => leWord s.meter.peek i)]

/-- Fields of the legal partition. -/
def viewsB : List (Fld × (State → Nat → Nat)) :=
  [(F.BILL_STATUS_PENDING, fun s _ => b2n s.leg.pre.isSome),
   (F.BAL_STATUS_RUN, fun s _ => s.get F.BAL_CTRL_EN * s.get F.SYS_STATUS_FULLREADY),
   (F.BAL_STATUS_REBUILDING, fun s _ => b2n (s.on F.SYS_STATUS_C0READY && !s.on F.SYS_STATUS_FULLREADY)),
   (F.BAL_STATUS_LOCBUSY, fun s _ => b2n (!s.bal.locq.isEmpty)), (F.BAL_LOCQ, fun s _ => s.bal.locq.length),
   (F.BAL_NODES, fun s _ => s.bnodes.length), (F.BAL_RAISED, fun s _ => (s.bnodes.filter BNode.raised).length),
   (F.BAL_FINL, fun s _ => lo32 s.bal.finT), (F.BAL_FINH, fun s _ => hi32 s.bal.finT),
   (F.BAL_PROVL, fun s _ => lo32 s.bal.provT), (F.BAL_PROVH, fun s _ => hi32 s.bal.provT),
   (F.BILL_DEMAND_LEN_NOW, fun s _ => s.leg.common.len),
   (F.BILL_DEMAND_NSUB_NOW, fun s _ => s.leg.common.nsub),
   (F.BILL_HWML, fun s _ => lo32 (max s.leg.hwm s.time.dev / nsS)),
   (F.BILL_HWMH, fun s _ => hi32 (max s.leg.hwm s.time.dev / nsS)),
   (F.BILL_BSEQ, fun s _ => s.leg.bseq),
   (F.BILL_LQOCC, fun s _ => s.leg.queue.length),
   (F.TARIFF_STATUS_ACTIVE, fun s _ => (s.leg.cals.filter (fun c => c.2.active.isSome)).length),
   (F.TARIFF_STATUS_PASSIVE, fun s _ => (s.leg.cals.filter (fun c => c.2.passive.isSome)).length),
   (F.TARIFF_INFO_NOW, fun s _ => if s.selCal.active.isSome then s.tariffAt (s.get F.TARIFF_SEL_SCHEME) s.secs else 0),
   (F.TARIFF_INFO_HASACT, fun s _ => b2n s.selCal.active.isSome),
   (F.TARIFF_INFO_HASPAS, fun s _ => b2n s.selCal.passive.isSome),
   (F.TARIFF_INFO_LEN, fun s _ => (s.ivl (s.get F.TARIFF_SEL_SCHEME)).len),
   (F.TARIFF_ACTID, fun s _ => (s.selCal.active.map (fun c => c.calid)).getD 0),
   (F.TARIFF_PASID, fun s _ => (s.selCal.passive.map (fun c => c.calid)).getD 0),
   (F.TARIFF_PASTL, fun s _ => lo32 ((s.selCal.passive.map (fun c => c.activate)).getD 0)),
   (F.TARIFF_PASTH, fun s _ => hi32 ((s.selCal.passive.map (fun c => c.activate)).getD 0)),
   (F.TARIFF_BPEEKD_WORD, fun s i => leWord s.leg.bpeek i)]

/-- Fields of DIST, the ports, the modems, keys and tamper. -/
def viewsC : List (Fld × (State → Nat → Nat)) :=
  [(F.DIST_STATUS_RESUMING, fun s _ => b2n (!s.dist.rq.isEmpty)),
   (F.DIST_STATUS_CAMPS, fun s _ => s.openCamps.length),
   (F.DIST_STATUS_HELD, fun s _ => b2n (s.dist.camps.any (fun c => c.state == 4))),
   (F.DIST_POSTS, fun s _ => s.dist.posts.length),
   (F.DIST_CURTD, fun s _ => (s.dist.posts.filter (fun x => x.climit != max32)).length),
   (F.DIST_RQ, fun s _ => s.dist.rq.length),
   (F.DIST_NOACK, fun s _ => (s.dist.posts.filter (fun x => x.curt == 3)).length),
   (F.PLC_EXTOUI_OUI, fun _ _ => Config.extOui),
   (F.RADIO_STATUS_TXON, fun s _ => b2n (decide (s.time.clk < s.radio.txEnd))),
   (F.RADIO_DWUSE_MS, fun s i => s.hourUse i / 1000),
   (F.UPLINK_STATUS_SECURE, fun s u => b2n (s.secured u || s.canInstall u)),
   (F.UPLINK_STATUS_BOOT, fun s u => b2n (s.boot u)),
   (F.UPLINK_STATUS_ROLLARM, fun s u => b2n (s.sec u).armed.isSome),
   (F.UPLINK_STATUS_AN, fun s u => s.geti F.UPLINK_KNUM u % 4),
   (F.PORT_STATUS_SDIN, fun s _ => b2n s.port.card.isSome),
   (F.PORT_MACL, fun _ _ => lo32 Config.baseMac),
   (F.PORT_MACH, fun _ _ => hi32 Config.baseMac % 65536),
   (F.KEY_STATUS_OPKEY, fun s _ => b2n (!s.key.opkey.isEmpty)),
   (F.KEY_DEVIDL, fun _ _ => lo32 Config.devId),
   (F.KEY_DEVIDH, fun _ _ => hi32 Config.devId % 4294967296),
   (F.KEY_DRATE, fun s _ => if s.key.derSec = s.secs then s.get F.KEY_DRATE else if s.key.derSec + 1 = s.secs then s.key.derN else 0),
   (F.TAMPER_STATUS_ASSERT, fun s _ => s.asserting)]

/-- Fields of storage, the recorder, the display, clocks, power and the fault block. -/
def viewsD : List (Fld × (State → Nat → Nat)) :=
  [(F.DRAM_BW, fun s _ => Config.dramTraffic (s.time.clk / nsS)),
   (F.FTL_VSTAT_SIZE, fun s i => if s.on F.FTL_STATUS_MOUNTED then s.volSize i else 0),
   (F.FTL_VSTAT_USED, fun s i => if s.on F.FTL_STATUS_MOUNTED then s.volBytes i / gib else 0),
   (F.EVREC_STATUS_FROZEN, fun s _ => b2n s.ev.freeze.isSome),
   (F.EVREC_STATUS_LOSING, fun s _ => b2n (s.ev.lost.isSome && s.noRoom.isSome)),
   (F.EVREC_STATUS_HELD, fun s _ => s.ev.hold.length),
   (F.EVREC_SEQL, fun s _ => lo32 s.ev.total),
   (F.EVREC_SEQH, fun s _ => hi32 s.ev.total),
   (F.EVREC_LONGN, fun s _ => s.ev.long.length),
   (F.EVREC_LONGOLD, fun s _ => (s.ev.long.head?.map (fun r => r.seq)).getD 0),
   (F.EVREC_WIN_WORD, fun s i => s.winWord i),
   (F.DISP_STATUS_MAPOK, fun s _ => b2n (!s.disp.map.isEmpty)),
   (F.DISP_STATUS_BANNER, fun s _ => s.disp.banner),
   (F.CLK_TENPPB, fun s _ => Config.measured 0 s.time.clk),
   (F.PWR_RAILV_MV, fun s i => Config.measured (1 + i) s.time.clk),
   (F.PWR_RAILV_MINMV, fun s i => Config.measured (8 + i) s.time.clk),
   (F.FAULT_STATUS_LIVEON, fun s _ => s.get F.FAULT_CTRL_LIVE),
   (F.FAULT_STATUS_CERTLOCK, fun s _ => b2n s.cert)]

/-- A field as a read shows it. -/
def State.fieldNow (s : State) (f : Fld) (i : Nat) : Nat :=
  match (viewsA ++ viewsB ++ viewsC ++ viewsD).find? (fun v => v.1 == f) with
  | some (_, g) => g s i % 2 ^ f.w
  | none => if f.ty = .WO then 0 else s.geti f i

/-- A register's word as a read shows it (R8): WO fields and reserved bits read zero. -/
def State.regNow (s : State) (r : RegDef) (i : Nat) : Nat := (r.flds.map (fun f => s.fieldNow f i * 2 ^ f.bit)).sum

/-- Registers that read zero except to an SPI READ at the seal port (R121, R423). -/
def sealOnly (a : Nat) : Bool :=
  (decide (F.BILL_CHKV_WORD.addr ≤ a) && decide (a < F.BILL_CHKV_WORD.addr + 32)) ||
  (decide (F.DISP_PLATED_WORD.addr ≤ a) && decide (a < F.DISP_PLATED_WORD.addr + 36))

/-- The tables that read at windows of their blocks, each 4 B group as one word with its first byte at [31:24]: base, length, bytes. -/
def State.windows (s : State) : List (Nat × Nat × Bytes) :=
  [(0x40062000, 4096, s.pipe.parseMap), (0x400F2000, 512, s.radio.table), (0x40162000, 2048, s.reg.rateTab),
   (0x40121000, 96, s.key.opkey), (0x40171000, 96, s.fwu.mkey), (0x40184000, 9600, s.disp.map)]

/-- The word at an address as a read shows it; `atSeal` for an SPI READ at the seal port. An alias, a reserved offset and an address
outside every block read zero (R9, R19, R424). -/
def State.readWord (s : State) (atSeal : Bool) (a : Nat) : Nat :=
  if sealOnly a then
    if !atSeal then 0
    else if a < F.BILL_CHKV_WORD.addr + 32 then beWord s.leg.chkNow ((a - F.BILL_CHKV_WORD.addr) / 4)
    else leWord s.disp.plated ((a - F.DISP_PLATED_WORD.addr) / 4)
  else match s.windows.find? (fun w => decide (w.1 ≤ a) && decide (a < w.1 + w.2.1)) with
  | some (b, _, t) => beWord t ((a - b) / 4)
  | none => match findReg a with
    | some (r, i) => s.regNow r i
    | none => 0

/-- What a read does beside returning a word (R56, R380). -/
def State.readEffect (s : State) (a : Nat) : State :=
  if a = F.EVREC_WIN_WORD.addr + 252 then s.winAdvance
  else if a = F.MAINS_XCYC.addr then s.unfreezeX
  else s

end Sys2Proof.Machine
end

