-- ==== Sys2Proof/Machine/Operands.lean ====
section
/-! DEFINITION. Operand forms: what the words of a command carry outside it. The frame of the Head-End Command Protocol and the bodies
of its commands (R292, R293, R296), the bytes of an SPI port (R287), and a register's value for a reader (R9, R19, R443). -/

namespace Sys2Proof.Machine

/-! ## The HCP frame (R292) -/

/-- A frame's header, reference and body, where it can be answered. `clean` tells that MAGIC, VERSION and every zero field are right. -/
structure HcpFrame where
  type : Nat
  cls : Nat
  code : Nat
  reqid : Nat
  ref : Bytes
  body : Bytes
  clean : Bool
  deriving DecidableEq, Repr

/-- A frame read; none where it is too broken to answer (R293): too short, too long, or a reference that runs past its end. -/
def hcpParse (b : Bytes) : Option HcpFrame :=
  let n := beAt b 12 1
  if b.length < 16 ∨ 1452 < b.length ∨ 128 < n ∨ b.length < 16 + n then none
  else
    let zero_ := beAt b 4 1 < 4 ∧ beAt b 5 1 = 0 ∧ beAt b 13 1 = 0 ∧ beAt b 14 2 = 0
    some { type := beAt b 3 1, cls := beAt b 4 1 % 4, code := beAt b 6 2, reqid := beAt b 8 4, ref := sub b 16 n
           body := b.drop (16 + n), clean := decide (beAt b 0 2 = 0x4843 ∧ beAt b 2 1 = 1 ∧ zero_) }

/-- The form of a body (R296): its fixed length, its zero fields, where a count stands (offset and size) with the bytes of each
counted piece, and where slot fields stand. -/
structure BodyForm where
  code : Nat
  len : Nat
  zero : List (Nat × Nat) := []
  per : Option (Nat × Nat × Nat) := none
  slots : List Nat := []
  open_ : Bool := false
  deriving DecidableEq, Repr

/-- The bodies of the commands (R296). `open_` marks a body that goes on behind its fixed part. -/
def bodyForms : List BodyForm :=
  [⟨0x0001, 0, [], none, [], false⟩, ⟨0x0002, 8, [(6, 2)], none, [], false⟩, ⟨0x0003, 16, [(14, 2)], none, [], false⟩,
   ⟨0x0010, 12, [], none, [], false⟩, ⟨0x0011, 4, [(1, 3)], none, [], false⟩,
   ⟨0x0100, 88, [(11, 1), (18, 2)], none, [], false⟩] ++
  ((List.range 7).map (fun i => ⟨0x0101 + i, 4, [], none, [0], false⟩)) ++
  [⟨0x0108, 8, [], none, [0, 4], false⟩, ⟨0x0109, 4, [], none, [0], false⟩,
   ⟨0x010A, 88, [(6, 2), (11, 1), (18, 2)], none, [0], false⟩, ⟨0x010B, 4, [], none, [0], false⟩,
   ⟨0x010C, 8, [], none, [], false⟩, ⟨0x010D, 16, [], none, [0], false⟩] ++
  [⟨0x0180, 24, [(21, 3)], none, [], false⟩, ⟨0x0181, 24, [(21, 3)], none, [], false⟩,
   ⟨0x0182, 4, [(2, 2)], none, [], false⟩, ⟨0x0183, 4, [(2, 2)], none, [], false⟩,
   ⟨0x0200, 4, [(1, 3)], none, [], false⟩, ⟨0x0201, 8, [(5, 3)], none, [], false⟩,
   ⟨0x0300, 8, [(6, 2)], some (5, 1, 4), [], false⟩, ⟨0x0301, 4, [(2, 2)], some (1, 1, 4), [], false⟩,
   ⟨0x0302, 4, [], some (2, 2, 4), [], false⟩, ⟨0x0310, 56, [], none, [], false⟩] ++
  [⟨0x0311, 4, [(1, 3)], none, [], false⟩, ⟨0x0312, 12, [(1, 3)], none, [], false⟩, ⟨0x0313, 4, [(1, 3)], none, [], false⟩,
   ⟨0x0314, 4, [(1, 3)], none, [], false⟩, ⟨0x0330, 8, [(6, 2)], some (4, 2, 1), [0], false⟩, ⟨0x0331, 40, [], none, [], true⟩,
   ⟨0x0400, 4, [(1, 3)], none, [], false⟩, ⟨0x0401, 0, [], none, [], false⟩] ++
  [⟨0x0500, 44, [(1, 3)], none, [], false⟩, ⟨0x0501, 40, [], none, [], false⟩, ⟨0x0502, 4, [], none, [], false⟩,
   ⟨0x0503, 20, [(1, 3)], none, [], false⟩, ⟨0x0600, 8, [(1, 1)], none, [], false⟩, ⟨0x0601, 4, [(1, 3)], none, [], false⟩,
   ⟨0x0610, 12, [(10, 2)], none, [], false⟩, ⟨0x0620, 16, [(2, 2), (14, 2)], none, [], false⟩,
   ⟨0x0630, 12, [(9, 3)], none, [0], false⟩] ++
  [⟨0x0800, 4, [(1, 3)], some (0, 1, 32), [], false⟩, ⟨0x0801, 0, [], none, [], false⟩,
   ⟨0x0900, 40, [(1, 1)], none, [], false⟩, ⟨0x0901, 8, [(1, 3)], none, [], true⟩, ⟨0x0902, 8, [(1, 3)], none, [], false⟩,
   ⟨0x0903, 4, [(1, 3)], none, [], false⟩, ⟨0x0904, 4, [(1, 3)], none, [], false⟩]

/-- The length that a body must have. -/
def BodyForm.total (f : BodyForm) (b : Bytes) : Nat :=
  match f.per with
  | some (o, n, k) => f.len + beAt b o n * k
  | none => f.len

/-- Whether a body's length and content fit its command (R293): the length, the zero fields, and in every slot field the bits above
the handle. -/
def bodyFits (code : Nat) (b : Bytes) : Bool :=
  match bodyForms.find? (fun f => f.code == code) with
  | none => false
  | some f =>
    (if f.open_ then decide (f.len ≤ b.length) else b.length == f.total b) &&
    f.zero.all (fun z => beAt b z.1 z.2 == 0) && f.slots.all (fun o => decide (beAt b o 4 < 1048576)) &&
    (match f.per with
     | some (_, _, 4) => (List.range ((b.length - f.len) / 4)).all (fun i => decide (beAt b (f.len + 4 * i) 4 < 1048576))
     | _ => true)

/-! ## A register for a reader -/

/-- The votes that a read of a register brings about (R428): those of its triplicated fields whose copies differ. -/
def State.voteAt (s : State) (a : Nat) : State := (s.reg.tri.filter (fun t => t.key / 32 == a)).foldl (fun s t => s.voteOne t) s

/-- A reader's read of one register: a stopped domain is woken and a long wait counted (R443, R444), an address outside every block is
logged (R19), a triplicated field is voted on (R428), and what the read does beside returning the word. No word where the domain fails to run (R445). -/
def State.readAt (s : State) (p : Port) (atSeal : Bool) (a : Nat) : State × Option Nat :=
  let (s1, refused) := s.reach (domOfReg a)
  if refused then (s1, none)
  else
    let s2 := if 0x401B0000 ≤ a ∧ a < 0x50000000 then s1.unmapped p a else s1.voteAt a
    (s2.readEffect a, some (s2.readWord atSeal a))

/-- `n` words from an address on, with the state after the reads; none where one is refused. -/
def State.readRun (p : Port) (atSeal : Bool) : Nat → Nat → State → State × Option Bytes
  | 0, _, s => (s, some [])
  | n + 1, a, s =>
    match s.readAt p atSeal a with
    | (s1, none) => (s1, none)
    | (s1, some w) =>
      let (s2, t) := State.readRun p atSeal n (a + 4) s1
      (s2, t.map (fun b => be 4 w ++ b))

/-! ## The SPI ports (R287) -/

/-- The answers of an SPI port. -/
def spiDone : Nat := 0x5A
def spiRefused : Nat := 0xE1

/-- The status byte of a port (R287). What READY shows is not stated: a free value. -/
def State.spiStatusByte (s : State) (p : Port) : State × Nat :=
  let (n, s1) := s.draw
  (s1, n % 2 + 2 * b2n (s.reg.lastRef.contains p) + 4 * b2n (p == .seal && !s.port.sealOut.isEmpty) + 8 * b2n s.restricted)

/-- What a port has sent in its transaction. -/
def State.spiSend (s : State) (p : Port) (b : Bytes) : State :=
  { s with port := { s.port with miso := (p, b) :: s.port.miso.filter (fun x => x.1 != p) } }

/-- LASTREF set or cleared (R287). -/
def State.spiLast (s : State) (p : Port) (refused : Bool) : State :=
  let rest := s.reg.lastRef.filter (fun x => x != p)
  { s with reg := { s.reg with lastRef := if refused then p :: rest else rest } }

end Sys2Proof.Machine
end

