-- ==== Sys2Proof/Machine/Loader.lean ====
section
/-! DEFINITION. The configuration image (R432 to R437, R278): its check, and the loader that applies its records one by one. -/

namespace Sys2Proof.Machine

/-! ## Reading an image (R433, R434) -/

/-- The table identifiers of R434. -/
def tableIds : List Nat := [0x0601, 0x0F01, 0x1201, 0x1601, 0x1701, 0x1801]

/-- The bytes of a record. -/
def cfgSize : CfgRec → Nat
  | .write _ _ => 12
  | .pair _ _ => 12
  | .strobe _ => 4
  | .wait _ _ _ _ _ => 20
  | .table _ d => 8 + (d.length + 3) / 4 * 4
  | .fin => 4

/-- The bytes that a record must show: its length and its zero fields. -/
def cfgRoom (b : Bytes) (n z k : Nat) : Bool := decide (n ≤ b.length) && decide (beAt b z k = 0)

/-- The records from a place on, with the 32 B of the hash behind END (check 4 of R435). -/
def cfgParse : Nat → Bytes → Option (List CfgRec)
  | 0, _ => none
  | f + 1, b =>
    let op := beAt b 0 1
    if op = 0 then (if cfgRoom b 4 1 3 && b.length == 36 then some [.fin] else none)
    else if op = 1 ∨ op = 2 then
      if cfgRoom b 12 1 3 then
        (cfgParse f (b.drop 12)).map (fun l => (if op = 1 then CfgRec.write (beAt b 4 4) (beAt b 8 4) else .pair (beAt b 4 4) (beAt b 8 4)) :: l)
      else none
    else if op = 3 then
      if cfgRoom b 4 1 1 then (cfgParse f (b.drop 4)).map (fun l => CfgRec.strobe (beAt b 2 2) :: l) else none
    else if op = 4 then
      let lim := beAt b 16 4
      if cfgRoom b 20 2 2 && decide (beAt b 1 1 ≤ 1) && decide (1 ≤ lim) && decide (lim ≤ 1000000) then
        (cfgParse f (b.drop 20)).map (fun l => CfgRec.wait (beAt b 1 1) (beAt b 4 4) (beAt b 8 4) (beAt b 12 4) lim :: l)
      else none
    else if op = 5 then
      let n := beAt b 4 4
      let pad := (n + 3) / 4 * 4 - n
      if cfgRoom b (8 + n + pad) 1 1 && cfgRoom b 8 (8 + n) pad && tableIds.contains (beAt b 2 2) then
        (cfgParse f (b.drop (8 + n + pad))).map (fun l => CfgRec.table (beAt b 2 2) (sub b 8 n) :: l)
      else none
    else none

/-- SYS_ID of revision B0 (R440). -/
def sysId : Nat := 0x67314200

/-- A copy of the image at an offset of the memory: its bytes by its LENGTH. -/
def cfgCopy (b : Bytes) (off : Nat) : Bytes := fit (beAt b (off + 8) 4) (b.drop off)

/-- The cause that makes a copy invalid (R435), 0 for a valid one. -/
def cfgCause (mem : Option (Nat × Bool × Bytes)) (off : Nat) : Nat :=
  match mem with
  | none => 1
  | some (dens, _, b) =>
    let h := fit 32 (b.drop off)
    let len := beAt h 8 4
    if dens < 65536 ∨ 16777216 < dens then 1
    else if beAt h 0 4 ≠ 0x504C4346 ∨ beAt h 4 1 ≠ 1 ∨ beAt h 5 3 ≠ 0 ∨ beAt h 20 12 ≠ 0 then 2
    else if len % 4 ≠ 0 ∨ 2097152 < len ∨ dens / 2 < len then 3
    else
      let c := cfgCopy b off
      if (cfgParse c.length (c.drop 32)).isNone then 4
      else if sha256 (c.take (len - 32)) ≠ c.drop (len - 32) then 5
      else if beAt h 16 4 ≠ 0 ∧ beAt h 16 4 ≠ sysId then 6
      else 0

/-! ## The course of the loader (R436) -/

/-- The record that the loader comes to next. -/
def State.nextRec (s : State) : Option CfgRec :=
  match s.pwr.loader with
  | some l => if l.wait.isNone then l.recs.head? else none
  | none => none

/-- The loader goes on to the record behind this one. -/
def State.nextOn (s : State) : State :=
  match s.pwr.loader with
  | some l => match l.recs with
    | r :: rest => { s with pwr := { s.pwr with loader := some { recs := rest, offset := l.offset + cfgSize r } } }
    | [] => s
  | none => s

/-- A record applied (R441), or found without effect (R436). -/
def State.recDone (s : State) (effect : Bool) : State :=
  let s1 := s.nextOn.inc F.CFG_RECS
  if effect then s1 else s1.inc F.CFG_WRFAIL

/-- Whether the CONFIG port is untrusted in this start (R278). -/
def State.untrusted (s : State) : Bool := s.on F.CFG_STATUS_UNTRUSTED

/-- Whether a write record acts: in an untrusted image only one to the UPLINK block (R278). -/
def State.cfgActs (s : State) (a : Nat) : Bool := !s.untrusted || blockOf a == blockOf F.UPLINK_CFG_EN.addr

/-- Whether an address is an RWP register or the complement alias of one (R434). -/
def pairAddr (a : Nat) : Bool :=
  (match findReg a with | some (r, _) => r.prot == .pair | none => false) || (findAlias a).isSome

/-- A WRITE or WRITE_PAIR record applied, counted for 0xC003. -/
def State.wrote (s : State) (effect : Bool) : State :=
  let s1 := s.recDone effect
  if effect then { s1 with pwr := { s1.pwr with imgWrites := s1.pwr.imgWrites + 1 } } else s1

/-- WRITE (R434, R436): one write of the value; one to an RWP register or a complement alias is discarded. -/
def execCfgWrite (addr : Nat) (v : Word) (s : State) : Out :=
  ok (if s.nextRec ≠ some (.write addr v.toNat) then s
  else if !s.cfgActs addr then s.nextOn
  else if pairAddr addr then (s.log 0xC0F1 [(4, addr), (1, 1), (1, portCode .config)] { port := .config }).recDone false
  else
    let w := s.regWrite actOf .config addr v.toNat
    w.st.wrote w.effect)

/-- WRITE_PAIR (R426, R434): the value to the address, then its complement to the complement alias. -/
def execCfgWritePair (addr : Nat) (v : Word) (s : State) : Out :=
  ok (if s.nextRec ≠ some (.pair addr v.toNat) then s
  else if !s.cfgActs addr then s.nextOn
  else
    let w1 := s.regWrite actOf .config addr v.toNat
    let w2 := w1.st.regWrite actOf .config (addr + 0x8000) (max32 - v.toNat)
    w2.st.wrote (if pairAddr addr then w2.effect else w1.effect))

/-- STROBE (R430, R434): the groups whose bits are set fire, in an untrusted image too. -/
def execCfgStrobe (mask : Nat) (s : State) : Out :=
  ok (if s.nextRec ≠ some (.strobe mask) then s else (s.fireMask mask).recDone true)

/-- WAIT (R434): the wait begins. -/
def execCfgWait (kind addr : Nat) (mask value : Word) (limit : Nat) (s : State) : Out :=
  ok (if s.nextRec ≠ some (.wait kind addr mask.toNat value.toNat limit) then s
  else match s.pwr.loader with
  | some l =>
    { s with pwr := { s.pwr with loader := some { l with
        wait := some (kind, addr, mask.toNat, value.toNat, s.time.clk + limit * 1000) } } }
  | none => s)

/-- The loader's read of a register; a register whose domain fails to run shows no value. -/
def State.cfgRead (s : State) (a : Nat) : State × Option Nat := s.readAt .config false a

/-- WAIT_END (R434, R436): the time has passed, the poll finds its value, or its limit has come. -/
def execWaitEnd (s : State) : Out :=
  ok (match s.pwr.loader with
  | none => s
  | some l => match l.wait with
    | none => s
    | some (kind, addr, mask, value, end_) =>
      if kind = 0 then (s.advTo end_).recDone true
      else
        let (s1, w) := s.cfgRead addr
        if w.map (fun x => x &&& mask) = some value then s1.recDone true
        else
          let (s2, w2) := (s1.advTo end_).cfgRead addr
          if w2.map (fun x => x &&& mask) = some value then s2.recDone true
          else (s2.log 0x0013 [(4, l.offset), (4, addr)] { port := .config, agent := 1 }).recDone false)

/-! ## Tables (R319, R388, R261, R494) -/

/-- A key table: exactly 96 B, and a point on P-384 (R319, R388). -/
def keyTable (b : Bytes) : Bool := b.length == 96 && p384.has (ofBe (b.take 48)) (ofBe (b.drop 48))

/-- Why a rate override table is refused (R494). -/
def rateCause (b : Bytes) : Option Nat :=
  if b.length % 8 ≠ 0 ∨ 2048 < b.length then some 0
  else
    let es := (List.range (b.length / 8)).map (fun i => sub b (8 * i) 8)
    if es.any (fun e => beAt e 2 1 != 0 && (decide (beAt e 4 2 < 10) || decide (60000 < beAt e 4 2))) then some 1
    else if es.any (fun e => beAt e 3 1 != 0 || beAt e 6 2 != 0) then some 2
    else none

/-- A table put in force, or refused by its own rule: the state and whether it was taken. A parse map or limit table of another
length than its window is cut or filled with zeros. -/
def State.takeTable (s : State) (id : Nat) (b : Bytes) : State × Bool :=
  let o : Org := { port := .config, agent := 1 }
  if id = 0x0601 then ({ s with pipe := { s.pipe with parseMap := fit 4096 b } }, true)
  else if id = 0x0F01 then (({ s with radio := { s.radio with table := fit 512 b } } : State).checkRows, true)
  else if id = 0x1201 then
    if keyTable b then ({ s with key := { s.key with opkey := b } }, true)
    else (({ s with key := { s.key with opkey := [] } } : State).log 0x7009 [(1, if b.length = 96 then 2 else 3)] { o with agent := 13 }, false)
  else if id = 0x1601 then
    match rateCause b with
    | none => ({ s with reg := { s.reg with rateTab := b } }, true)
    | some c => (s.log 0x8047 [(1, c), (4, b.length)] { o with agent := 17 }, false)
  else if id = 0x1701 then
    let good := keyTable b
    (({ s with fwu := { s.fwu with mkey := if good then b else [] } } : State).set F.FWU_STATUS_MKEY (b2n good), good)
  else if id = 0x1801 then
    if b.length = 9600 then ({ s with disp := { s.disp with map := b } }, true)
    else (({ s with disp := { s.disp with map := [] } } : State).log 0xA006 [(4, b.length)] { o with agent := 19 }, false)
  else (s, false)

/-- TABLE (R434, R381): the whole table named is replaced, and journalled. -/
def execCfgTable (id : Nat) (data : Bytes) (s : State) : Out :=
  ok (if s.nextRec ≠ some (.table id data) then s
  else if s.untrusted then s.nextOn
  else match s.takeTable id data with
  | (s1, true) => (s1.log 0xC002 [(2, id), (2, 0), (8, ofBe ((sha256 data).take 8))] { port := .config, agent := 1 }).recDone true
  | (s1, false) => s1.recDone false)

end Sys2Proof.Machine
end

