-- ==== Sys2Proof/Machine/Start.lean ====
section
/-! DEFINITION. The start sequence up to class 0 ready (R432 to R438, R450, R332, R384, R399, R187, R38), and the restarts that a firmware
activation or a reversion ends in (R397, R400). -/

namespace Sys2Proof.Machine

/-! ## Restarts of firmware updates (R397, R400) -/

/-- A restart of the logic die from the bank that ACTCNT names. -/
def State.fwuRestart (s : State) : State :=
  let s1 := s.restart .die F.PWR_RSTCAUSE_FWU
  { s1 with pwr := { s1.pwr with fwuStart := true } }

/-- A reversion (R400): during a trial, the bank before is confirmed and the die restarts; 0x9013 follows once class 0 is ready. -/
def State.revert (s : State) (kind cause : Nat) : State :=
  if s.fwu.actcnt ≤ s.fwu.confcnt then s
  else
    let n := s.fwu.actcnt + 1
    ({ s with fwu := { s.fwu with actcnt := n, confcnt := n, reverted := some (kind, cause) } } : State).fwuRestart

/-- REVERT (R400): a check of R383 fails during a trial. -/
def execRevert (kind cause : Nat) (s : State) : Out := ok (s.revert kind cause)

/-- ACTIVATION_RESTART (R397 step 4): every frame in flight has ended. -/
def execActivationRestart (s : State) : Out := ok (if s.fwu.halted then (s.advTo s.radio.txEnd).fwuRestart else s)

/-! ## The power-up sequencer (R450, R451) -/

/-- The current steps of a phase in 0.1 A: A (1) and B (2). -/
def seqSteps (ph : Nat) : List Nat := if ph = 1 then [12, 8, 16, 6, 5, 9, 7] else [14, 8, 10, 36]

/-- The releases of a phase: a block above STEPA is released in equal parts. -/
def seqReleases (ph stepA : Nat) : Nat := ((seqSteps ph).map (fun x => (x + stepA - 1) / stepA)).sum

/-- A phase begins with its first release: A at the always-on values, B at those of the state store (R456). -/
def State.seqStart (s : State) (ph : Nat) : State :=
  let (a, us) := (if ph = 1 then s.pwr.inAon else s.pwr.inStore).getD (20, 100)
  let n := seqReleases ph a
  { s with pwr := { s.pwr with seqFrom := s.time.clk, seqAt := s.time.clk, seqLeft := n, seqN := n, seqUs := us } }

/-! ## Step 2: fuses, the latch, self-tests (R309, R313, R324, R329, R332, R334) -/

/-- The bits of PWR_RSTCAUSE. -/
def State.rstBits (s : State) : Nat :=
  s.get F.PWR_RSTCAUSE_POR + 2 * s.get F.PWR_RSTCAUSE_BOR + 4 * s.get F.PWR_RSTCAUSE_PIN + 8 * s.get F.PWR_RSTCAUSE_WDOG +
  16 * s.get F.PWR_RSTCAUSE_FWU + 32 * s.get F.PWR_RSTCAUSE_TCLR

/-- What the start logs of the reset (R453, R466): 0x0102, and 0xB003 of an injection that the reset ended. -/
def State.startLog (s : State) : State :=
  let s1 := s.markedIf s.fault.resetBy (fun x => x.log 0x0102 [(2, x.rstBits)] (.ag 21))
  let s2 := match s.fault.ended with
    | some (det, n, path, w) => s1.logMarked w 0xB003 [(1, det), (4, n), (1, path)] (.ag 20)
    | none => s1
  { s2 with fault := { s2.fault with resetBy := none, ended := none } }

/-- Both copies of the latch read (R332): either sets it, and the other is made good. -/
def State.readLatch (s : State) : State :=
  let s1 : State := match s.on F.TAMPER_STATUS_LATCH, s.key.mirror with
    | true, none =>
      let t := (s.get F.TAMPER_LTL + 4294967296 * s.get F.TAMPER_LTH) * nsS
      { s with key := { s.key with mirror := some (s.get F.TAMPER_STATUS_CAUSE, t) } }
    | false, some (d, t) =>
      (((s.set F.TAMPER_STATUS_LATCH 1).set F.TAMPER_STATUS_CAUSE d).set F.TAMPER_LTL (t / nsS % 4294967296)).set F.TAMPER_LTH
        (t / nsS / 4294967296)
    | _, _ => s
  if s1.on F.TAMPER_STATUS_LATCH then
    (s1.set F.KEY_STATUS_FUSEGATED 1).set F.PORT_STATUS_CAUSES (setBit (s1.get F.PORT_STATUS_CAUSES) 0 true)
  else s1

/-- What the fuses and the state store show: the generation, certified mode, a recommissioning under way. -/
def State.readFuses (s : State) : State :=
  let c := b2n s.key.blown
  let s1 := ((s.set F.KEY_STATUS_GEN s.key.gen).set F.KEY_STATUS_CERT c).set F.KEY_CERT_BLOW c
  let s2 := (s1.set F.KEY_STATUS_CERTPEND 0).set F.TAMPER_STATUS_CLRPEND (b2n s.key.clrGen.isSome)
  let arm := s2.get F.TAMPER_ARM_ARM
  (if s.key.blown then s2.set F.TAMPER_ARM_ARM (arm ||| 0x3F00) else s2).showSeeds

/-- Whether an input is an enclosure seal sense (R329). -/
def State.hasSeal (s : State) : Bool := (List.range 8).any (fun d => s.geti F.TAMPER_INCFG_SEAL d == 1)

/-- The seal state at a start (R329). -/
def State.readSeal (s : State) (aonKept : Bool) : State :=
  let s1 := if aonKept then s else (s.set F.TAMPER_STATUS_SEALBRK 1).log 0x7005 [] (.ag 14)
  if s1.cert && !s1.hasSeal then s1.set F.TAMPER_STATUS_SEALBRK 1 else s1

/-- The self-tests of the two derivers (R309, R310, R324). -/
def State.selfTests (s : State) (kcOk engOk : Bool) : State :=
  let s0 : State := { s with key := { s.key with kcOk := kcOk, katAt := s.time.clk } }
  let s1 := if kcOk then s0 else s0.tamperDetect 13
  if engOk then
    ({ s1.set F.KEY_STATUS_FLAT 0 with key := { s1.key with flat := none, flatBy := none } } : State).set F.KEY_STATUS_KATOK 1
  else s1.enterFlat

/-- PWR_INRUSH restored from the state store (R456). -/
def State.readInrush (s : State) : State :=
  match s.pwr.inStore with
  | some (a, us) =>
    { (s.set F.PWR_INRUSH_STEPA a).set F.PWR_INRUSH_STEPUS us with pwr := { s.pwr with inAon := some (a, us) } }
  | none => s

/-- Step 2 of R438. -/
def State.step2 (s : State) (env : StartEnv) : State :=
  let s1 := ((s.startLog.readInrush.readFuses).readLatch).readSeal env.aonKept
  (s1.selfTests env.kcOk env.engOk).set F.EVREC_STATUS_PROOFFULL (b2n (decide (s.ev.proof.length = 8192)))

/-! ## Step 3: the firmware bank (R384, R397 step 6, R399, R400) -/

/-- The running bank replaced. -/
def State.setRun (s : State) (l : List FwPart) : State :=
  if s.fwu.actcnt % 2 = 0 then { s with fwu := { s.fwu with bank0 := l } } else { s with fwu := { s.fwu with bank1 := l } }

/-- The base images of every part, as a bank holds them. -/
def romParts : List FwPart := partKinds.map (fun k => { romPart k.1 with rom := false })

/-- The base images run and are written into both banks (R384). -/
def State.fromRom (s : State) (cause : Nat) : State :=
  ({ s with fwu := { s.fwu with bank0 := romParts, bank1 := romParts, rom := true } } : State).log 0x9020 [(1, cause)] (.ag 18)

/-- A trial is in force (R385). -/
def State.trial (s : State) : Bool := decide (s.fwu.confcnt < s.fwu.actcnt)

/-- L copied from STAGE into the running bank (R397 step 6). -/
def State.loadStagedL (s : State) : State :=
  match s.fwu.man with
  | none => s
  | some m => match (List.range m.ents.length).find? (fun i => (m.ents[i]?).any (fun e => e.kind == 0x4C)) with
    | none => s
    | some i => match m.ents[i]?, lookupK i s.fwu.staged with
      | some e, some img => s.setRun (⟨0x4C, e.ver, img, false⟩ :: s.runBank.filter (fun p => p.kind != 0x4C))
      | _, _ => s

/-- A start during a trial (R399, R400): the third reverts, another counts. -/
def State.trialStart (s : State) : State :=
  if s.trial then
    if s.fwu.tries = 2 then
      let (n, s1) := s.draw
      s1.revert ((partKinds.map (fun k => k.1)).getD (n % 6) 0x41) 2
    else ({ s with fwu := { s.fwu with tries := s.fwu.tries + 1 } } : State).loadStagedL
  else s

/-- The first part, in the order of R383, of a set of kinds. -/
def firstBad (l : List Nat) : Option Nat := (partKinds.map (fun k => k.1)).find? (fun k => l.contains k)

/-- Banks found at a start (R384, R400). A running bank that fails outside a trial leaves a choice that the manual does not name: the
other bank's set or the base images. -/
def State.bankStart (s : State) (env : StartEnv) : State :=
  if env.bankBlank || (!env.bankBad0.isEmpty && !env.bankBad1.isEmpty) then (s.fromRom (b2n (!env.bankBlank))).trialStart
  else match firstBad (if s.fwu.actcnt % 2 = 0 then env.bankBad0 else env.bankBad1) with
  | none => s.trialStart
  | some k =>
    if s.trial then s.revert k 0
    else
      let (n, s1) := s.draw
      s1.setRun (if n % 2 = 0 then s1.otherBank else romParts)

/-- The legal check value computed at start (R120). -/
def State.legalCheckStart (s : State) : State :=
  let h := sha256 (s.running 0x4C).image
  let s1 : State := { s with leg := { s.leg with chk0 := h, chkNow := h } }
  (s1.set F.BILL_STATUS_CHKOK 1).logCheck 0x3001 h

/-- Step 3 of R438; a reversion ends the start here. -/
def State.step3 (s : State) (env : StartEnv) : State :=
  let s1 := ({ s with fwu := { s.fwu with rom := false } } : State).bankStart env
  if s1.pwr.on then s1.legalCheckStart.showFwu else s1

/-! ## Step 6 and 7: class 0 ready (R38, R187, R438) -/

/-- Device time seeded (R38): from the always-on counter, whose crystal keeps within 20 ppm, else from the high-water mark. -/
def State.seedTime (s : State) (aonKept : Bool) : State :=
  if aonKept then
    let el := s.time.clk - s.time.aonClk
    let (n, s1) := s.draw
    let m := el * 20 / 1000000
    let t := (s.time.aon * nsS + el + n % (2 * m + 1) - m) / nsS * nsS
    ({ s1 with time := { s1.time with dev := t } } : State).set F.TIME_STATUS_SEEDED_AON 1
  else { s with time := { s.time with dev := s.leg.hwm } }

/-- The post table rebuilt from its mirror (R183, R187): in handle order, DCTR at DCTRJ with a new reservation, the keys pinned. An exhausted
counter is logged (R182). -/
def State.postsBack (s : State) : State :=
  let at_ := s.time.clk + s.get F.DIST_CURT_REFRESH * nsS
  let on := sortBy (fun (a b : Post) => decide (a.slot ≤ b.slot)) s.dist.mirror
  let ps := on.map (fun p => { p.mirrored with
    dctr := p.dctrj, dctrj := if 2147483647 < p.dctrj then p.dctrj else p.dctrj + 32768, refAt := at_ })
  let s1 : State := { s with dist := { s.dist with posts := ps, mirror := ps } }
  ps.foldl (fun (t : State) p =>
    let t1 := t.pinPost p.seed p.ident p.dkv
    if 2147483647 < p.dctr then t1.log 0x5012 [(4, p.slot)] (.ag 8) else t1) s1

/-- The agenda filled with the instants that outlive a restart (R49): passive calendars, campaigns, the manifest. -/
def State.agendaBack (s : State) : State :=
  let s1 := s.leg.cals.foldl (fun (t : State) c => match c.2.passive with
    | some p => t.agAdd (p.activate * nsS) (.calActivate c.1)
    | none => t) s
  let s2 := (s.openCamps.filter (fun c => !c.armed)).foldl (fun (t : State) c => t.agAdd (t.armAt c.ta) (.campArm c.n)) s1
  match s.fwu.man with
  | some m =>
    if s.fwu.st = 3 then s2.agAdd (s.fwu.cand * nsS) .candidate
    else if s.fwu.st = 1 ∨ s.fwu.st = 2 then s2.agAdd (m.act * nsS) (.activation m.mseq)
    else s2
  | none => s2

/-- A reversion ends (R400 step 3): the staged L is discarded with the manifest. -/
def State.revertEnd (s : State) : State :=
  match s.fwu.reverted with
  | none => s
  | some (k, c) =>
    let s1 := ({ s with fwu := { s.fwu with reverted := none } } : State).endMan 2
    s1.log 0x9013 [(1, k), (1, c)] (.ag 18)

/-- Whether the limit of step 7 holds (R438): the memory supports the quad read, or no copy read exceeds 512 KiB. -/
def State.c0Bound (s : State) : Bool := s.on F.CFG_STATUS_QUAD || decide (s.pwr.cfgBig ≤ 524288)

/-- The instant of class 0 ready: within 1.5 s of power-good, 4 s after a firmware restart, where the limit holds (R438). -/
def State.c0Instant (s : State) : State :=
  let (n, s1) := s.draw
  s1.advTo (s.pwr.pgAt + (if s.c0Bound then n % (if s.pwr.fwuStart then 4000000001 else 1500000001) else n))

/-- Steps 6 and 7 of R438, and the start of step 8 with phase B of the sequencer. -/
def State.class0Ready (s : State) : State :=
  let kept := s.pwr.env.any (fun e => e.aonKept)
  let s1 := (s.seedTime kept).set F.SYS_STATUS_STAGE 6
  let s2 := ((((s1.install 0).install 1).takeGmks false).postsBack).agendaBack
  let s3 := s2.c0Instant
  let ms := (s3.time.clk - s3.pwr.pgAt) / 1000000
  let s4 := ((s3.set F.SYS_STATUS_C0READY 1).set F.QOS_STATUS_C0READY 1).set F.SYS_C0MS ms
  let s5 := ({ s4 with pwr := { s4.pwr with c0Ready := s4.time.clk, loader := none } } : State).log 0x0001 [(4, ms)] (.ag 21)
  let s6 := (((s5.set F.SYS_STATUS_MISSING 31).set F.SYS_STATUS_STAGE 8).revertEnd).seqStart 2
  s6.dispRestore

/-! ## Step 4 and 5: the image (R278, R432, R435, R437) -/

/-- The state of R437: neither copy is valid. -/
def State.noImage (s : State) (ca cb : Nat) : State :=
  let s1 := s.log 0x0012 [(1, ca), (1, cb)] (.ag 21)
  let s2 := s1.set F.PORT_STATUS_CAUSES (setBit (s1.get F.PORT_STATUS_CAUSES) 1 true)
  let up := fun (t : State) (u : Nat) =>
    (((t.seti F.UPLINK_CFG_EN u 1).seti F.UPLINK_CFG_MODE u 1).seti F.UPLINK_CFG_ANEG u 1).seti F.UPLINK_MSCFG_BOOTOK u 1
  ({ (up (up s2 0) 1) with pwr := { s2.pwr with noImage := true } } : State).wake .UPL

/-- The G1M decides trust (R278): in certified mode the CONFIG port is trusted only while the seal is whole. -/
def State.trusts (s : State) : Bool := !(s.cert && s.on F.TAMPER_STATUS_SEALBRK)

/-- A copy chosen: its registers (R441), and the loader at its first record. -/
def State.choose (s : State) (mem : Option (Nat × Bool × Bytes)) (copy off : Nat) : State :=
  match mem with
  | none => s
  | some (_, _, b) =>
    let c := cfgCopy b off
    let h := c.drop (c.length - 32)
    let s1 := ((s.set F.CFG_STATUS_COPY copy).set F.CFG_IMGSEQ (beAt c 12 4)).set F.CFG_LEN c.length
    let s2 := (List.range 8).foldl (fun (t : State) n => t.seti F.CFG_HASH_WORD n (beAt h (4 * n) 4)) s1
    { s2 with pwr := { s2.pwr with loader := some { recs := (cfgParse c.length (c.drop 32)).getD [], offset := 32 }, imgWrites := 0 } }

/-- A copy read into SRAM (R432, R435): four lines at 50 MHz or one at 25 MHz, as long as its LENGTH and room for a copy allow. -/
def State.readCopy (s : State) (mem : Option (Nat × Bool × Bytes)) (off : Nat) : State :=
  match mem with
  | none => s
  | some (dens, quad, b) =>
    let n := min (beAt b (off + 8) 4) (min 2097152 (dens / 2))
    let s1 := s.adv (n * (if quad then 40 else 320))
    { s1 with pwr := { s1.pwr with cfgBig := max s1.pwr.cfgBig n } }

/-- Step 4 of R438: copy A is checked, copy B only when A is invalid. -/
def State.step4 (s' : State) (env : StartEnv) : State :=
  let (dens, quad) := match env.mem with | some (d, q, _) => (d, q) | none => (0, false)
  let ca := cfgCause env.mem 0
  let s := ({ s' with pwr := { s'.pwr with cfgAt := s'.time.clk } } : State).readCopy env.mem 0
  let s1 := ((s.set F.CFG_MEMSZ dens).set F.CFG_STATUS_QUAD (b2n quad)).set F.CFG_STATUS_UNTRUSTED (b2n (!s.trusts))
  let s2 := (s1.set F.CFG_STATUS_AOK (b2n (ca == 0))).set F.CFG_STATUS_ACAUSE ca
  if ca = 0 then s2.choose env.mem 1 0
  else
    let cb := cfgCause env.mem (dens / 2)
    let s3 := (((s2.readCopy env.mem (dens / 2)).set F.CFG_STATUS_BOK (b2n (cb == 0))).set F.CFG_STATUS_BCAUSE cb).log 0x0011 [(1, ca)] (.ag 21)
    if cb = 0 then s3.choose env.mem 2 (dens / 2) else s3.noImage ca cb

/-- Restricted mode by an untrusted CONFIG port (R277, R278). -/
def State.distrust (s : State) : State :=
  if s.untrusted then s.set F.PORT_STATUS_CAUSES (setBit (s.get F.PORT_STATUS_CAUSES) 2 true) else s

/-- What END leaves (R381, R430, R431, R436): the pending groups fire, the certified locks are set, the image is journalled. -/
def State.imageEnd (s : State) : State :=
  let s1 := (s.recDone true).fireMask (pendMask s.reg.shadows)
  let s2 := if s1.cert then s1.set F.SYS_LOCK_LOCK (s1.get F.SYS_LOCK_LOCK ||| (2 ^ 18 + 2 ^ 23)) else s1
  let o : Org := { port := .config, agent := 1 }
  let h := s2.geti F.CFG_HASH_WORD 0 * 4294967296 + s2.geti F.CFG_HASH_WORD 1
  let s3 := if s2.on F.CFG_WRFAIL then s2.log 0x0014 [(4, s2.get F.CFG_WRFAIL)] o else s2
  let s4 := s3.log 0xC003 [(1, s2.get F.CFG_STATUS_COPY - 1), (1, 0), (2, s2.pwr.imgWrites), (8, h)] o
  (s4.set F.CFG_LOADMS ((s4.time.clk - s4.pwr.cfgAt) / 1000000)).distrust

/-- END (R434, R436, R438): the image is complete, and steps 6 and 7 follow. -/
def execCfgEnd (s : State) : Out := ok (if s.nextRec ≠ some .fin then s else s.imageEnd.class0Ready)

/-- Steps 2 to 5 of R438, once phase A is complete: up to the first record of the image, or on to class 0 without one. -/
def State.afterPhaseA (s : State) : State :=
  match s.pwr.env with
  | none => s
  | some env =>
    let runs := 2 ^ domIx .SYS + 2 ^ domIx .PTP + 2 ^ domIx .AON
    let s1 := (((s.set F.CLK_STATUS_RUN runs).set F.CLK_STATUS_PLLOK 1).set F.SYS_STATUS_STAGE 2).step2 env
    let s2 := (s1.set F.SYS_STATUS_STAGE 3).step3 env
    if !s2.pwr.on then s2
    else
      let s3 := (s2.set F.SYS_STATUS_STAGE 4).step4 env
      if s3.pwr.noImage then (s3.distrust).class0Ready else s3.set F.SYS_STATUS_STAGE 5

/-- POWER_GOOD (R438, R450): T; the sequencer makes the first release of phase A, and the sequence goes on as its parts complete. -/
def execPowerGood (env : StartEnv) (s : State) : Out :=
  ok (if s.pwr.on then s
  else
    let s1 : State := { s with pwr := { s.pwr with pgAt := s.time.clk, on := true, env := some env } }
    ((({ s1 with pwr := { s1.pwr with low := 0 } } : State).set F.SYS_STATUS_STAGE 1).set F.PWR_STATUS_PIN 0).showLow.seqStart 1)

/-- The end of a phase (R450): event 0x0101. -/
def State.phaseEnd (s : State) : State :=
  let ph := s.get F.PWR_STATUS_PHASE + 1
  let s1 := (s.set F.PWR_STATUS_PHASE ph).log 0x0101 [(1, ph), (4, s.pwr.seqN), (4, (s.time.clk - s.pwr.seqFrom) / 1000)] (.ag 21)
  if ph = 1 then s1.afterPhaseA else s1

/-- SEQUENCER_RELEASE (R450, R451): a spacing has passed; none passes while the supply warning is asserted. -/
def execSequencerRelease (s : State) : Out :=
  ok (if s.pwr.seqLeft = 0 ∨ s.on F.PWR_STATUS_PIN = true ∨ s.monLow = true then s
  else
    let s1 := s.advTo (s.pwr.seqAt + s.pwr.seqUs * 1000)
    let s2 : State := { s1 with pwr := { s1.pwr with seqAt := s1.time.clk, seqLeft := s1.pwr.seqLeft - 1 } }
    if s2.pwr.seqLeft = 0 then s2.phaseEnd else s2)

/-- At a warning's release the spacing of the sequencer is counted anew (R451). -/
def State.seqResume (s : State) : State :=
  if s.pwr.seqLeft = 0 then s else { s with pwr := { s.pwr with seqAt := s.time.clk } }

end Sys2Proof.Machine
end

