-- ==== Sys2Proof/Machine/Full.lean ====
section
/-! DEFINITION. Step 8 and 9 of the start sequence (R438, R439): DRAM, the flash translation layer, the rebuilds of the stores (R114,
R123, R178, R187), full pipeline ready and the end of a trial (R399). -/

namespace Sys2Proof.Machine

/-! ## DRAM and NAND (R339, R343, R345) -/

/-- DRAM_STATUS.SIZE that a pair of densities in GiB gives; none where it is refused (R339). -/
def dramSize (d0 d1 : Nat) : Option Nat :=
  if d0 = 4 ∧ d1 = 4 then some 1 else if d0 = 8 ∧ d1 = 8 then some 2 else none

/-- DRAM trained, or refused (R339): event 0x8001, whose result code the manual does not list. -/
def State.dramStart (s : State) (env : FullEnv) : State :=
  if s.on F.DRAM_STATUS_TRAINED then s
  else
    let (n, s1) := s.draw
    let fl := [(4, env.dram0), (4, env.dram1), (1, n)]
    match dramSize env.dram0 env.dram1 with
    | some z =>
      let s1 : State := { s1 with ftl := { s1.ftl with patrolAt := s1.time.clk, patrolN := 0 } }
      let run := setBit (s1.get F.CLK_STATUS_RUN) (domIx .DDR) true
      (((s1.set F.DRAM_STATUS_TRAINED 1).set F.DRAM_STATUS_SIZE z).set F.CLK_STATUS_RUN run).log 0x8001 fl (.ag 16)
    | none => s1.log 0x8001 fl (.ag 16)

/-- Whether the FTL mounts (R343): one part throughout, TLC or QLC, 1 TiB to 8 TiB in all. -/
def nandTaken (env : FullEnv) : Bool := env.nandOk && decide (1024 ≤ env.rawGiB) && decide (env.rawGiB ≤ 8192)

/-- The logical capacity in GiB: 80 % of raw for TLC, 78 % for QLC. -/
def logicalGiB (env : FullEnv) : Nat := env.rawGiB * (if env.qlc then 78 else 80) / 100

/-- The size that a volume's PCT asks for (R345). -/
def State.wantGiB (s : State) (c v : Nat) : Nat := if v = 3 then 1 else s.geti F.FTL_VOL_PCT v * c / 100

/-- Everything on the NAND gone: what a blank array holds. The store is empty, so a new placement key is drawn for it (R101). -/
def State.blankNand (s : State) : State :=
  { s with
    pipe := { s.pipe with series := [], defer := [], quar := [] }
    meter := { s.meter with keys := [], dir := [], placeK := none, journal := [], ckpt := [], ckIdx := [], ckHead := [], ckPos := 0, ckT := 0
                            ckAt := 0, ckPass := 0 }
    leg := { s.leg with ckpt := { s.legSave.leg.ckpt with n := s.pipe.serN, recs := [] }, hist := [], upto := s.pipe.serN, snaps := [], sess := [], cals := [] }
    bal := {}
    ev := { s.ev with long := [], longDur := 0 }
    port := { s.port with xfers := [] }
    ftl := { } }

/-- The format (R345): the sizes of the volumes apply. Blocks, spare blocks and rated cycles are the array's. -/
def State.format (s : State) (env : FullEnv) : State :=
  let c := logicalGiB env
  let s0 := if env.blank then s.blankNand else s
  let (n, s1) := s0.draw
  let (m, s2) := s1.draw
  { s2.set F.FTL_STATUS_FORMATTED 1 with ftl := { s2.ftl with
      sizes := (List.range 5).map (fun v => s2.wantGiB c v), formatAt := some s2.time.clk, scrubAt := s2.time.clk, blocks := n, spare := m } }

/-- A volume grown to its PCT where unallocated capacity allows it (R345). -/
def State.growVol (c : Nat) (s : State) (v : Nat) : State :=
  let now := s.volSize v
  let want := s.wantGiB c v
  if want = now then s
  else if now < want ∧ want - now ≤ c - s.ftl.sizes.sum then
    { s with ftl := { s.ftl with sizes := s.ftl.sizes.set v want } }
  else s.log 0x8016 [(1, v)] (.ag 15)

/-- The FTL mounted (R343, R345, R347), with the registers of the array (R361). The rated cycles and the geometry are the part's. -/
def State.mount (s : State) (env : FullEnv) : State :=
  let c := logicalGiB env
  let s1 := if env.blank || s.ftl.formatAt.isNone then s.format env
    else [0, 1, 2, 4].foldl (State.growVol c) s
  let (n, s2) := s1.draw
  let (g, s3) := s2.draw
  let s4 : State := { s3 with ftl := { s3.ftl with raw := env.rawGiB, qlc := env.qlc, rated := n % 65536, wearAt := s3.time.clk } }
  let s5 := (((s4.set F.FTL_STATUS_MOUNTED 1).set F.FTL_STATUS_NOPARITY (b2n (env.dies == 1))).set F.FTL_CAP c).set F.FTL_RAW env.rawGiB
  let s6 := ((s5.set F.FTL_GEOM_CELL (if env.qlc then 2 else 1)).set F.FTL_PE_RATED (n % 65536)).set F.FTL_GEOM_CHMASK (g % 256)
  let s7 := ((s6.set F.FTL_GEOM_TGTS (g / 256 % 8)).set F.FTL_GEOM_LUNS (g / 2048 % 8)).set F.FTL_GEOM_PLANES (g / 16384 % 16)
  (s7.set F.CLK_STATUS_RUN (setBit (s7.get F.CLK_STATUS_RUN) (domIx .NAND) true)).showSpare

/-! ## The meter store and the post table (R101, R114, R183, R187) -/

/-- The placement key of an empty store (R101). -/
def State.placeStart (s : State) : State :=
  if s.meter.placeK.isSome then s
  else
    let (k, s1) := s.drawBytes 16
    { s1 with meter := { s1.meter with placeK := some k } }

/-- The slots that the checkpoint or the journal names. -/
def State.storedSlots (s : State) : List Nat :=
  uniq (sortBy (fun a b => decide (a ≤ b))
    ((s.meter.ckpt.map (fun p => p.recs.map (fun r => r.1))).flatten ++ s.meter.journal.map (fun j => j.slot)))

/-- Every record rebuilt (R114): the state and the number of slots that step 5 marked. -/
def State.recsBack (s : State) : State × Nat :=
  s.storedSlots.foldl (fun (x : State × Nat) slot =>
    let (r, c) := s.rebuildRec slot
    (x.1.setMrec slot r, x.2 + b2n c)) (s, 0)

/-- The overflow directory of the records that lie through it (R102): DRAM holds it, so a start enters them again. -/
def State.dirBack (s : State) : State :=
  (s.meter.recs.filter (fun e => bit e.2.flags 4)).foldl (fun (t : State) e => t.dirPut e.2.ident e.1)
    { s with meter := { s.meter with dir := [] } }

/-- One post of the mirror compared with the meter store (R187): the store decides whether it is active and its addressing, and the
mirror's CLIMIT and CURT stay. -/
def State.postCheck (s : State) (p : Post) : State :=
  let r := s.mrec p.slot
  if r.state = 3 ∧ r.post = true ∧ r.ident = p.ident then
    (s.setPost { p.route r with dkv := r.dist.dkv, seed := r.seed }).pinPost r.seed r.ident r.dist.dkv
  else s.postLeave p.slot

/-- The meter store and the post table of a start (R114, R187). -/
def State.meterBack (s : State) : State :=
  let (s1, n) := s.placeStart.recsBack
  let s2 := s1.dirBack.dirCheck.log 0x2034 [(4, n)] (.ag 5)
  let slots := s2.meter.recs.map (fun e => e.1)
  let s3 := slots.foldl State.dctrBack s2
  let s4 := s3.dist.posts.foldl State.postCheck s3
  (slots.filter (fun x => (s4.mrec x).state == 3)).foldl State.postEnter s4

/-! ## The legal region (R123, R147) -/

/-- The legal partition's first run: its interval opens now, a part of one unless now is a boundary. -/
def State.firstLegal (s : State) : State :=
  if s.leg.firstRun.isSome then s
  else
    let t := s.time.dev
    let i := s.leg.common
    let c := { i with openS := t, openFl := if s.onGrid i.len (t / nsS) && t % nsS == 0 then 0 else 4 }
    { s with leg := { s.leg with firstRun := some t, lastB := max s.leg.lastB t, common := c, ckpt := { s.leg.ckpt with common := c } } }

/-- The legal region of a start (R123, R147, R150); the display returns to CHECK (R420). A partition halted since goes on in the next
start (R122). -/
def State.legalBack (s : State) : State :=
  let s1 := ({ s with leg := { s.leg with noCal := [] } } : State).firstLegal.legRebuild
  let s2 := match s1.leg.rep with
    | some (_, h) => if h ≤ s1.time.dev then (s1.set F.BILL_STATUS_REPEAT 1).endRepeat else s1.set F.BILL_STATUS_REPEAT 1
    | none => s1
  (if s2.on F.BILL_STATUS_HALTED then s2 else (s2.set F.BILL_STATUS_RUN 1).armBoundary).drawScreen

/-! ## Full pipeline ready (R399, R438) -/

/-- The Burin engines that passed their self-test (R80): the others are logged. Which ones pass is the outside's, a bit
for each engine. -/
def State.burinStart (s : State) (m : Nat) : State :=
  let s1 : State := { s with pipe := { s.pipe with engOk := m % 16777216 } }
  ((List.range 24).filter (fun e => !bit m e)).foldl (fun (t : State) e => t.log 0x2010 [(1, e)] (.ag 4)) s1

/-- The end of a trial (R383, R399, R400): the set confirmed, or reverted where a check fails. -/
def State.trialEnd (s : State) (env : FullEnv) : State :=
  if !s.trial then s
  else
    let legOk := match s.fwu.man with
      | some m => m.ents.all (fun e => e.kind != 0x4C || e.ihash == s.leg.chk0)
      | none => true
    let run := ((List.range 24).filter (fun e => bit s.engines e)).length
    match firstBad (env.partsBad ++ (if legOk then [] else [0x4C]) ++ (if tableOk (s.running 0x44).image then [] else [0x44]) ++ (if run < s.fwu.engines then [0x56] else [])) with
    | some k => s.revert k 1
    | none =>
      let s1 := ({ s with fwu := { s.fwu with confcnt := s.fwu.actcnt } } : State).endMan 1
      s1.log 0x9012 [(8, s.fwu.mseq), (4, s.fwu.actcnt)] (.ag 18)

/-- The limit of step 9 in ns after power-good (R438). -/
def State.fullLimit (s : State) : Nat := if s.pwr.fwuStart then 25 * nsS else 20 * nsS

/-- The instant of full pipeline ready: within the limit unless the limit has passed. -/
def State.fullInstant (s : State) : State :=
  let (n, s1) := s.draw
  let room := s.pwr.pgAt + s.fullLimit - s.time.clk
  s1.adv (n % (room + 1))

/-- Step 9 of R438: everything is ready; source 32 is raised with PIPE_STATUS.READY. -/
def State.fullReady (s : State) (env : FullEnv) : State :=
  let s0 := s.fullInstant
  let ms := (s0.time.clk - s0.pwr.pgAt) / 1000000
  let s1 := ((s0.set F.SYS_STATUS_FULLREADY 1).set F.SYS_FULLMS ms).set F.SYS_STATUS_MISSING 0
  let s2 := ((s1.set F.SYS_STATUS_STAGE 9).raiseSrc 32).log 0x0002 [(4, ms)] (.ag 21)
  s2.trialEnd env

/-- Step 9 is not reached within its limit (R439, R400): 0x0003; during a trial that is a failed check of part A. -/
def State.readyLate (s : State) : State :=
  (({ s with pwr := { s.pwr with lateLogged := true } } : State).log 0x0003 [(2, s.get F.SYS_STATUS_MISSING)] (.ag 21)).revert 0x41 1

/-- FULL_PIPELINE_READY (R438, R439): what step 8 finds. A DRAM pair or an array that is refused leaves the step open; a step past its limit is
late first. -/
def execFullPipelineReady (env : FullEnv) (s' : State) : Out :=
  let s := if s'.pwr.on && !s'.pwr.lateLogged && decide (s'.pwr.pgAt + s'.fullLimit < s'.time.clk) && !s'.on F.SYS_STATUS_FULLREADY then s'.readyLate
    else s'
  ok (if !s.on F.SYS_STATUS_C0READY || s.on F.SYS_STATUS_FULLREADY || decide (s.get F.PWR_STATUS_PHASE < 2) then s
  else
    let s1 := s.dramStart env
    if !s1.on F.DRAM_STATUS_TRAINED then s1
    else if !nandTaken env then s1.set F.SYS_STATUS_MISSING 30
    else
      let s2 := ((s1.mount env).meterBack).legalBack
      (s2.balBack.burinStart env.engines).fullReady env)

/-- FULLREADY_TIMEOUT (R439, R400): step 9 is not reached within its limit; during a trial that is a failed check of part A. -/
def execFullreadyTimeout (s : State) : Out :=
  ok (if !s.pwr.on || s.on F.SYS_STATUS_FULLREADY || s.pwr.lateLogged then s
  else (s.advTo (s.pwr.pgAt + s.fullLimit)).readyLate)

end Sys2Proof.Machine
end

