-- ==== Sys2Proof/Machine/Hcp.lean ====
section
/-! DEFINITION. The uplinks and the Head-End Command Protocol (R279 to R283, R292 to R304): frames received, requests queued, the
commands that read the part, notifications, transfers closed; the SD card and the PHYs' reports (R291, R306). -/

namespace Sys2Proof.Machine

/-! ## MACsec on reception (R280 to R283) -/

/-- Whether a key number is one that an uplink receives under (R282): the one in force, or the former one during the overlap. -/
def State.rxKey (s : State) (u k : Nat) : Bool :=
  let m := s.sec u
  m.installed && (k == s.geti F.UPLINK_KNUM u || (m.old == some k && decide (s.time.clk < m.oldEnd)))

/-- Whether a packet number lies in the replay window (R283): the lowest accepted is the highest received + 1 - REPLAY. -/
def State.rxFresh (s : State) (u k pn : Nat) : Bool :=
  decide ((lookupK k (s.sec u).rx).getD 0 + 1 ≤ pn + s.geti F.UPLINK_MSCFG_REPLAY u)

/-- A packet number received. -/
def State.rxNote (s : State) (u k pn : Nat) : State :=
  let m := s.sec u
  s.setSec u { m with rx := insertK k (max pn ((lookupK k m.rx).getD 0)) m.rx }

/-- A frame that validation discards (R280): event 0x7011 tells how many in a second. -/
def State.rxDrop (s : State) (u : Nat) (ctr : Fld) : State := (s.inci ctr u 1).logCount 0x7011 u nsS 1 (.ag 12)

/-! ## Requests accepted (R208, R210, R217, R220, R293) -/

/-- The request that a frame carries. -/
def HcpFrame.req (f : HcpFrame) (p : Port) (src sport : Nat) (prot outprof : Bool) : Req :=
  { port := p, src := src, sport := sport, reqid := f.reqid, cls := f.cls, prot := prot, outprof := outprof, ref := f.ref
    head := beAt f.body 0 4 }

/-- A request whose frame or body is malformed, or whose code is unknown: the checks that stand before the body, else BADFRAME. -/
def State.hcpBad (s : State) (r : Req) (code : Nat) : State :=
  match hcpGate r code s with
  | some s1 => s1
  | none => s.respond r code stBADFRAME []

/-- A request queued for its engine (R217). A full queue discards it in class 0 and in classes 2 and 3; in class 1 it waits. -/
def State.hcpQueue (s : State) (h : HcpIn) : State :=
  let put : State := { s with port := { s.port with hcpIn := s.port.hcpIn ++ [h] } }
  match reqQueue h.req with
  | none => put
  | some id =>
    let c := (id - 6) % 4
    -- in class 1 the receiver waits with the frame where the queue has no room (takenOf)
    if decide (s.hcpWords id + pktWords 1536 ≤ queueWords id) || c == 1 then put
    else if c = 0 then (s.inc F.QOS_C0DROP).log 0x5102 [(1, id)] (.ag 9)
    else s.inc F.QOS_HDROP

/-- A request frame handled: queued where it is well formed, else answered. `stamp` is its frame's (R27). -/
def State.hcpTake (s : State) (f : HcpFrame) (r : Req) (len : Nat) (stamp : Nat × Nat) : State :=
  if f.clean && bodyFits f.code f.body then
    s.hcpQueue { req := r, code := f.code, body := f.body, at_ := s.time.clk, len := len, stamp := stamp }
  else State.hcpBad { s with port := { s.port with c0At := some (s.time.clk, len, (reqQueue r).getD 0) } } r f.code

/-! ## Notifications (R300, R301) -/

/-- A notification's acknowledgement. -/
def State.notifAcked (s : State) (u code seq : Nat) : State :=
  { s with port := { s.port with notifs := s.port.notifs.filter (fun n => !(n.up == u && n.code == code && n.seq == seq)) } }

/-- NOTIFICATION_ACK (R301): a frame of TYPE 3 with the notification's CODE and REQID. -/
def execNotificationAck (up code seq : Nat) (s : State) : Out := ok (s.notifAcked up code seq)

/-- NOTIFICATION_TIMEOUT (R301): not acknowledged within NACKMS, a notification is sent again, or discarded after its last resend.
A resend may wait in its queue, so NACKMS runs from when it is sent. -/
def execNotificationTimeout (up code seq : Nat) (s : State) : Out :=
  let same := fun (n : Notif) => n.up == up && n.code == code && n.seq == seq
  ok (match s.port.notifs.find? same, s.port.sub with
    | none, _ => s
    | some n, some b =>
      let s0 := s.advTo (n.sent + s.get F.PORT_HCP_NACKMS * 1000000)
      if n.left = 0 then ((s0.notifAcked up code seq).inc F.PORT_NDROP).log 0x6204 [(1, up), (2, code), (4, seq)] (.ag 12)
      else
        let s1 : State := { s0 with port := { s0.port with
          notifs := s0.port.notifs.map (fun x => if same x then { x with left := x.left - 1 } else x) } }
        s1.enq up { cls := n.cls, len := uplinkLen true n.frame.length, body := .hcp b.src b.sport true n.frame } .wait
    | some _, none => s.notifAcked up code seq)

/-- RESPONSE_CACHE_EXPIRE (R294): the oldest kept response has been kept for PORT_HCP.CACHES. -/
def execResponseCacheExpire (s : State) : Out :=
  let life := s.get F.PORT_HCP_CACHES * nsS
  ok (match s.port.kept.map (fun k => k.at_) with
    | [] => s
    | t :: ts =>
      let s1 := s.advTo (ts.foldl min t + life)
      { s1 with port := { s1.port with kept := s1.port.kept.filter (fun k => decide (s1.time.clk < k.at_ + life)) } })

/-! ## A frame on an uplink (R279 to R281, R292) -/

/-- The HCP receiver of an uplink: every frame of class 0 is policed (R208, R293), and one out of profile is demoted. `len` is the frame's length on
the wire, `stamp` its stamp. -/
def State.hcpFrameIn (s : State) (u : Nat) (src sport : Nat) (b : Bytes) (prot : Bool) (len : Nat) (stamp : Nat × Nat) : State :=
  match hcpParse b with
  | none => s.inci F.UPLINK_HCPBAD u 1
  | some f =>
    let (s1, inP) := if f.cls = 0 then s.police u len (s.upRate u) else (s, true)
    let s2 := if inP then s1 else s1.outProfile u
    if f.type = 3 then s2.notifAcked u f.code f.reqid
    else if f.type ≠ 0 then s2.inci F.UPLINK_HCPBAD u 1
    else s2.hcpTake f (f.req (if u = 0 then .uplink0 else .uplink1) src sport prot !inP) len stamp

/-- A packet that the part does not support: discarded and counted (R279). -/
def State.upOther (s : State) : State := { s with time := { s.time with uplOther := s.time.uplOther + 1 } }

/-- A neighbour solicitation or echo handled (R279). -/
def State.upNd (s : State) : State := { s with time := { s.time with ndDone := s.time.ndDone + 1 } }

/-- An ICMPv6 message sent on an uplink. DESIGN CHOICE: it leaves in class 2, no chapter names its class. -/
def State.icmpOut (s : State) (u src dst : Nat) (m : Bytes) : State :=
  let p := ip6 58 src dst (withSum src dst 58 m)
  s.enq u { cls := 2, len := 14 + p.length + 36, body := .ip dst p } .wait

/-- An ICMPv6 message to the part (R279): an echo request is answered, a solicitation of an address of the part is advertised; a reply and an
advertisement are taken; any other is discarded and counted. -/
def State.icmpIn (s : State) (u src dst : Nat) (m : Bytes) : State :=
  let me := if s.ownIp u dst then dst else linkLocal (upMac u)
  match beAt m 0 1 with
  | 128 => s.upNd.icmpOut u me src (be 1 129 ++ zeros 3 ++ m.drop 4)
  | 135 =>
    let t := beAt m 8 16
    if s.ownIp u t then s.upNd.icmpOut u t src (be 1 136 ++ zeros 3 ++ be 4 0x60000000 ++ be 16 t ++ be 1 2 ++ be 1 1 ++ be 6 (upMac u))
    else s
  | 129 => s.upNd
  | 136 => s.upNd
  | _ => s.upOther

/-- An IPv6 packet of an uplink frame (R279): no extension headers, no fragments; UDP to HCP or PTP, and ICMPv6. -/
def State.upPacket (s : State) (u : Nat) (p : Bytes) (prot : Bool) (len : Nat) (stamp : Nat × Nat) : State :=
  let src := beAt p 8 16
  let dst := beAt p 24 16
  let m := sub p 40 (beAt p 4 2)
  if beAt p 0 1 / 16 ≠ 6 ∨ m.length ≠ beAt p 4 2 ∨ (s.ownIp u dst || s.joined u dst) = false ∨ sumGood src dst (beAt p 6 1) m = false then
    s.upOther
  else if beAt p 6 1 = 17 ∧ beAt m 4 2 = m.length then
    let port := beAt m 2 2
    if port = s.geti F.UPLINK_HCP_UDPPORT u ∧ s.ownIp u dst = true then s.hcpFrameIn u src (beAt m 0 2) (m.drop 8) prot len stamp
    else if port = 319 ∨ port = 320 then s.ptpIn u true stamp.1 (m.drop 8)
    else s.upOther
  else if beAt p 6 1 = 58 then s.icmpIn u src dst m
  else s.upOther

/-- The UDP payload of a frame to the HCP port of the part, with its sender: what boot state looks at (R281). -/
def State.upHcp (s : State) (u : Nat) (b : Bytes) : Option (Nat × Nat × Bytes) :=
  let p := b.drop 14
  let m := sub p 40 (beAt p 4 2)
  if beAt b 12 2 = 0x86DD ∧ beAt p 0 1 / 16 = 6 ∧ m.length = beAt p 4 2 ∧ beAt p 6 1 = 17 ∧ beAt m 4 2 = m.length ∧
      beAt m 2 2 = s.geti F.UPLINK_HCP_UDPPORT u ∧ s.ownIp u (beAt p 24 16) = true ∧
      sumGood (beAt p 8 16) (beAt p 24 16) 17 m = true then some (beAt p 8 16, beAt m 0 2, m.drop 8)
  else none

/-- What lies above MACsec in a frame that was accepted (R28, R279). -/
def State.upAbove (s : State) (u : Nat) (b : Bytes) (len : Nat) (stamp : Nat × Nat) : State :=
  if beAt b 12 2 = 0x88F7 then s.ptpIn u false stamp.1 (b.drop 14)
  else if beAt b 12 2 = 0x86DD then s.upPacket u (b.drop 14) true len stamp
  else s.upOther

/-- An unprotected frame (R280, R281): in boot state the four requests pass and are logged, everything else is discarded. -/
def State.upPlain (s : State) (u : Nat) (b : Bytes) (len : Nat) (stamp : Nat × Nat) : State :=
  let p := if u = 0 then Port.uplink0 else .uplink1
  match s.upHcp u b with
  | some (src, sport, m) =>
    match hcpParse m with
    | some h =>
      if h.type = 0 ∧ s.bootPass p ((hcpRow h.code).any (fun r => r.boot)) = true then
        (s.log 0x7013 [(1, u), (2, h.code)] (.ag 12)).hcpFrameIn u src sport m false len stamp
      else s.rxDrop u F.UPLINK_RXUNPROT
    | none => s.rxDrop u F.UPLINK_RXUNPROT
  | none => s.rxDrop u F.UPLINK_RXUNPROT

/-- A whole frame received (R27, R280): stamped at its delimiter, and taken when its last bit has passed. -/
def State.upFrame (s : State) (f : UplinkRx) (b : Bytes) : State :=
  let u := f.up
  let stamp := (s.time.dev, s.stampFrac)
  let len := b.length + (if f.protd then 36 else 4)
  let s0 := (s.adv (wireNs (s.upRate u) len)).install u
  if !f.protd then s0.upPlain u b len stamp
  else if f.valid && s0.rxKey u f.knum && s0.rxFresh u f.knum f.pn then
    ((s0.rxNote u f.knum f.pn).inci F.UPLINK_RXOK u 1).upAbove u b len stamp
  else s0.rxDrop u F.UPLINK_RXMSBAD

/-- A fragment of a preempted frame (R211): kept until the last, which makes the frame whole; a bad one ends it. -/
def State.upPart (s : State) (f : UplinkRx) (start last good : Bool) (b : Bytes) : State :=
  let u := f.up
  let had := if start then some [] else lookupK u s.port.mrx
  let s1 : State := { s with port := { s.port with mrx := eraseK u s.port.mrx } }
  match had, good with
  | some x, true =>
    if last then s1.upFrame f (x ++ b) else { s1 with port := { s1.port with mrx := insertK u (x ++ b) s1.port.mrx } }
  | _, _ => s1

/-- UPLINK_FRAME_RECEIVE (R211, R279, R280): validated, policed and passed on. A port bound to NONE receives nothing, and frames before class 0
ready are lost. -/
def execUplinkFrameReceive (f : UplinkRx) (s : State) : Out :=
  ok (if decide (1 < f.up) || s.geti F.UPLINK_CFG_EN f.up == 0 || !s.live f.up || !s.on F.SYS_STATUS_C0READY then s
  else match f.payload with
    | .frame b => s.upFrame f b
    | .part start last good b => s.upPart f start last good b
    | .verify => if bit (s.get F.QOS_CTRL_PREEMPT) f.up then s.mpacket f.up 1 else s
    | .respond => if bit (s.get F.QOS_STATUS_PREACT) f.up then s else s.verified f.up true)

/-- LINK_CHANGE (R211, R279): event 0x6201. Whether the link is up, in 1000BASE-X with UPLINK_CFG.ANEG after Clause 37 auto-negotiation with the partner, is
the outside's fact. The verification of preemption belongs to a link: one that comes up sends its verify frame, one that
goes down has none. -/
def execLinkChange (up : Nat) (isUp : Bool) (s : State) : Out :=
  ok (if 1 < up ∨ s.geti F.UPLINK_STATUS_LINK up = b2n isUp then s
  else
    let s1 := (s.seti F.UPLINK_STATUS_LINK up (b2n isUp)).log 0x6201 [(1, up), (1, b2n isUp)] (.ag 12)
    if !bit (s.get F.QOS_CTRL_PREEMPT) up || !s.on F.QOS_CTRL_VERIFY then s1
    else if isUp then s1.mpacket up 0
    else s1.set F.QOS_STATUS_PREACT (setBit (s.get F.QOS_STATUS_PREACT) up false))

/-! ## 10BASE-T1S (R57, R286, R306, R490) -/

/-- Whether an IPv6 packet is neighbour discovery or echo (R490). -/
def ndOrEcho (b : Bytes) : Bool :=
  let t := beAt b 40 1
  beAt b 6 1 == 58 && (t == 128 || t == 129 || (decide (133 ≤ t) && decide (t ≤ 137)))

/-- Neighbour discovery and echo on a segment (R490): consumed, and a request or solicitation of the part's own link-local address is answered
to its sender. DESIGN CHOICE: as on an uplink, the answer leaves in class 2. -/
def State.t1sNd (s : State) (seg : Nat) (frame : Bytes) : State :=
  let p := frame.drop 14
  let m := sub p 40 (beAt p 4 2)
  let mac := upMac (2 + seg)
  let me := linkLocal mac
  let src := beAt p 8 16
  let s1 : State := { s with time := { s.time with ndDone := s.time.ndDone + 1 } }
  let out := fun (b : Bytes) =>
    let fr := sub frame 6 6 ++ be 6 mac ++ be 2 0x86DD ++ ip6 58 me src (withSum me src 58 b)
    s1.enq (2 + seg) { cls := 2, len := fr.length + 4, body := .link 4 seg fr } .wait
  if m.length ≠ beAt p 4 2 ∨ sumGood src (beAt p 24 16) 58 m = false then s1
  else if beAt m 0 1 = 128 ∧ beAt p 24 16 = me then out (be 1 129 ++ zeros 3 ++ m.drop 4)
  else if beAt m 0 1 = 135 ∧ beAt m 8 16 = me then
    out (be 1 136 ++ zeros 3 ++ be 4 0x60000000 ++ be 16 me ++ be 1 2 ++ be 1 1 ++ be 6 mac)
  else s1

/-- T1S_FRAME_RECEIVE (R57, R286, R306, R490): a frame of an enabled segment, from the destination address on, without its FCS. -/
def execT1sFrameReceive (seg : Fin 8) (frame : Bytes) (fcs : Bool) (s : State) : Out :=
  let n := seg.val
  ok (if !bit (s.get F.T1S_CTRL_EN) n || !s.live (2 + n) then s
  else if !fcs || decide (1496 < frame.length) then s.inci F.T1S_RXBAD n 1
  else
    let s1 := s.inci F.T1S_RXOK n 1
    if beAt frame 12 2 = 0x86DD ∧ ndOrEcho (frame.drop 14) then
      s1.t1sNd n frame
    else
      -- stamped at the delimiter (R27), taken when the last bit of its FCS has passed
      let d := wireNs 10000000 (frame.length + 4)
      let i : Item := { medium := 2, port := n, stamp := s1.time.dev, frac := s1.stampFrac, net := 14, dur := d, frame := frame }
      (s1.adv d).receive i (2 + n) 10000000)

/-! ## Commands that read the part (R296, R300) -/

/-- The uplink of a port; 0 for the seal port. -/
def upOf (p : Port) : Nat := if p = .uplink1 then 1 else 0

/-- INFO (R296). Boot state is that of the uplink that asked; the seal port has none. -/
def execInfo (r : Req) (s : State) : Out :=
  ok (hcpRun r 0x0001 (fun s =>
    let boot := r.port != .seal && s.boot (upOf r.port)
    let flags := b2n s.cert + 2 * b2n s.restricted + 4 * b2n (s.on F.KEY_STATUS_FLAT) + 8 * b2n boot +
      16 * b2n (s.on F.SYS_STATUS_FULLREADY)
    let body := be 4 (s.readWord false F.SYS_ID_MINOR.addr) ++ be 1 (s.get F.KEY_STATUS_GEN) ++ be 1 flags ++ zeros 2 ++
      timeBytes s.time.dev ++ be 4 (s.readWord false F.TIME_STATUS_STATE.addr)
    { st := s, body := body, changed := false }) s)

/-- REGREAD (R296, R443): words from an address on. Through the seal port too it reads the check value and the plate as zero (R121,
R423). -/
def execRegread (r : Req) (addr count : Nat) (s : State) : Out :=
  ok (hcpRun r 0x0002 (fun s =>
    if count = 0 ∨ 256 < count then .no s stBADRANGE
    else
      match State.readRun r.port false count addr s with
      | (s1, some b) => { st := s1, body := b, changed := false }
      | (s1, none) => .no s1 stBUSY) s)

/-- SUBSCRIBE (R300): the destination and kinds of notifications, kept in the state store. -/
def execSubscribe (r : Req) (mask kinds : Nat) (s : State) : Out :=
  ok (hcpRun r 0x0003 (fun s =>
    if 32 ≤ kinds ∨ 2 ^ 96 ≤ mask then .no s stBADRANGE
    else { st := { s with port := { s.port with sub := some ⟨upOf r.port, r.src, r.sport, mask, kinds⟩ } } }) s)

/-- A quarantine entry as it is stored (R96): the prefix, least significant byte first, then the item. -/
def Quar.bytes (q : Quar) : Bytes :=
  le 1 q.outcome ++ le 1 q.stage ++ zeros 2 ++ le 4 (q.slot.getD max32) ++ le 8 q.secs ++ q.item.wire

/-- QREAD (R296): up to 1,400 B of an entry, with the cursors of this entry and of the next. -/
def execQread (r : Req) (cursor ofs : Nat) (s : State) : Out :=
  ok (hcpRun r 0x0610 (fun s =>
    let q := if cursor = 0 then s.pipe.quar.head? else s.pipe.quar.find? (fun x => x.vseq == cursor)
    match q with
    | none => .no s stNOTFOUND
    | some q =>
      let b := q.bytes
      let next := ((s.pipe.quar.find? (fun x => decide (q.vseq < x.vseq))).map (fun x => x.vseq)).getD (q.vseq + 1)
      if b.length ≤ ofs then .no s stBADRANGE
      else { st := s, body := be 8 q.vseq ++ be 8 next ++ be 2 b.length ++ be 2 ofs ++ sub b ofs 1400, changed := false }) s)

/-- A session record on a wire, field by field (R6, R155). -/
def SessRec.wire (x : SessRec) : Bytes := be 4 x.slot ++ be 4 x.seq ++ be 8 x.ct ++ fit 240 x.body

/-- SESSREAD (R296): a slot's session records from a sequence on; bit 31 marks a conflicting record and does not count. -/
def execSessread (r : Req) (slot start count : Nat) (s : State) : Out :=
  ok (hcpRun r 0x0630 (fun s =>
    if count = 0 ∨ 5 < count then .no s stBADRANGE
    else
      let mine := s.leg.sess.filter (fun x => x.slot == slot && decide (start % 2147483648 ≤ x.seq % 2147483648))
      { st := s, body := ((mine.take count).map SessRec.wire).flatten, changed := false }) s)

/-- RELAYDN (R297, R268): an opaque frame to a slot on the medium and port of its last authentic item. A free slot is not found, one that
was never heard has no way down, and a full sleeper store answers BUSY. -/
def execRelaydn (r : Req) (slot : Nat) (frame : Bytes) (s : State) : Out :=
  ok (hcpRun r 0x0330 (fun s =>
    let m := s.mrec slot
    if m.state = 0 then .no s stNOTFOUND
    else if m.ct = 0 && m.addr.isEmpty && (s.post slot).isNone then .no s stBADSTATE
    else match s.toSlot slot 2 (.relay slot frame) frame.length false .drop with
      | (s1, true) => { st := s1 }
      | (s1, false) => .no s1 stBUSY) s)

/-! ## A transfer closed (R304) -/

/-- A complete transfer whose digest matches goes to its consumer (R196, R304, R393): a campaign image and a firmware part at once, the
other kinds when a command names them. -/
def State.xferTaken (s : State) (x : Xfer) (o : Org) : State :=
  let y := { x with closed := true }
  if x.kind = 2 then s.takeImage y
  else if x.kind = 4 then
    let s1 := (s.stagePart x.target x.image o).xferNotice y stOK
    if s1.stagedLegal x.target then { s1 with port := { s1.port with xfers := s1.port.xfers.filter (fun z => z.handle != x.handle) } }
    else s1.dropXfer y
  else (s.setXfer y).xferNotice y stOK

/-- XCLOSE (R304). -/
def execXclose (r : Req) (handle : Nat) (s : State) : Out :=
  ok (hcpRun r 0x0903 (fun s => match s.xfer r handle with
    | none => .no s stBADXFER (be 4 0)
    | some x =>
      if x.closed then .no s stBADXFER (be 4 0)
      else if x.units.length < x.total then .no s stBADXFER (be 4 (x.total - x.units.length))
      else if sha256 x.image = x.sha then { st := s.xferTaken x (reqOrg r 18), body := be 4 0 }
      else
        -- an image that fails the digest of its transfer fails the campaign as well (R196)
        let s1 := if x.kind = 2 ∧ (s.camp x.target).isSome = true then (s.dropXfer x).imageBad x.target else s.abortXfer x
        .no (s1.xferNotice x stBADHASH) stBADHASH (be 4 0)) s)

/-! ## The SD card and the PHYs (R291, R306, R395) -/

/-- SD_INSERT (R291, R395, R483): a card in the socket; outside restricted mode its firmware files are read once. The state's code in 0x6203 is
not listed; whether the card goes through the voltage switch, which raises SD_VSEL, is the card's. -/
def execSdInsert (c : Card) (s : State) : Out :=
  let (n, s0) := s.draw
  let (v, s0) := s0.draw
  let s1 := (({ s0 with port := { s0.port with card := some c, sdVsel := s.role .sd == 5 && !s.restricted && v % 2 == 1 } } : State)).log 0x6203
    [(1, n)] (.ag 12)
  ok (if s.restricted then s1 else s1.sdRead c)

/-- SD_REMOVE (R291): the card is gone, or a read of it failed; what was staged stays. -/
def execSdRemove (err : Bool) (s : State) : Out :=
  let (n, s0) := s.draw
  let s1 : State := if err then s0.inc F.PORT_SDERR else { s0 with port := { s0.port with card := none, sdVsel := false } }
  ok (if s.port.card.isNone then s
  else (((s1.set F.PORT_STATUS_SDBUSY 0).set F.FWU_STATUS_SDREAD 0).log 0x6203 [(1, n)] (.ag 12)))

/-- T1S_PHY_FAULT (R306): a segment's PHY reports a fault or clears it. The state's code in 0x6202 is not listed for it. -/
def execT1sPhyFault (seg : Nat) (fault : Bool) (s : State) : Out :=
  let m := s.get F.T1S_STATUS_PHYFAULT
  ok (if 7 < seg ∨ bit m seg = fault then s
  else
    let (n, s1) := s.draw
    (s1.set F.T1S_STATUS_PHYFAULT (setBit m seg fault)).log 0x6202 [(1, seg), (1, n)] (.ag 12))

end Sys2Proof.Machine
end

