-- ==== Sys2Proof/Machine/Power.lean ====
section
/-! DEFINITION. The supply warning and its end (R447, R448, R451, R452), and recommissioning (R333), which ends in a restart. -/

namespace Sys2Proof.Machine

/-! ## The supply warning (R448, R452) -/

/-- The rails that have a warning level (R447): VDD_AON has none. -/
def warnRails (rails : Nat) : Nat := rails &&& 0x7D

/-- SUPPLY_WARNING (R448, R452 step 1): PWRWARN_N and the rails below their warning levels, as they now stand. -/
def execSupplyWarning (pin : Bool) (rails : Nat) (s : State) : Out :=
  let s1 := (({ s with pwr := { s.pwr with low := warnRails rails } } : State).set F.PWR_STATUS_PIN (b2n pin)).showLow
  ok (if s.pwr.on then s1.supplyNow else s1)

/-- SUPPLY_WARNING_RELEASED (R448, R451): PWRWARN_N is high and every rail above its level; the sequencer resumes and the release
time begins. -/
def execSupplyWarningReleased (s : State) : Out :=
  let s1 := (({ s with pwr := { s.pwr with low := 0 } } : State).set F.PWR_STATUS_PIN 0).showLow
  ok (if s.pwr.on && s.pwr.warnAt.isSome && s.pwr.relAt.isNone then s1.supplyNow.seqResume else s1)

/-- The dip ends without reset (R452 step 4): all work resumes. -/
def State.dipEnd (s : State) (t0 rel : Nat) : State :=
  let us := (rel - t0) / 1000
  let by_ := s.pwr.dipBy
  let rails := s.pwr.dipRails
  let s1 : State := { (s.set F.PWR_STATUS_WARN 0) with
    pwr := { s.pwr with warnAt := none, relAt := none, held := false, dipRails := 0, dipBy := none }
    ftl := { s.ftl with held := false } }
  let s2 := s1.markedIf by_ (fun x => x.log 0x0104 [(4, us), (2, rails)] (.ag 21))
  let s3 := ((s2.inc F.PWR_DIPCNT).set F.PWR_DIPLAST (min max32 us)).dispRecover
  if s3.fault.waits then State.fire 16 s3 else s3

/-- SUPPLY_RECOVER (R452 step 4): the warning has stayed released for PWR_DIP.RECUS. -/
def execSupplyRecover (s : State) : Out :=
  ok (match s.pwr.warnAt, s.pwr.relAt with
    | some t0, some rel => (s.advTo (rel + s.get F.PWR_DIP_RECUS * 1000)).dipEnd t0 rel
    | _, _ => s)

/-- WARNING_HOLD_TIMEOUT (R452 step 5): the warning is still asserted 100 ms after it began; once in a dip. -/
def execWarningHoldTimeout (s : State) : Out :=
  ok (match s.pwr.warnAt, s.pwr.relAt, s.pwr.held with
    | some t0, none, false =>
      let s1 := s.advTo (t0 + 100000000)
      ({ s1 with pwr := { s1.pwr with held := true } } : State).markedIf s1.pwr.dipBy
        (fun x => x.log 0x0105 [(2, s1.pwr.dipRails)] (.ag 21))
    | _, _, _ => s)

/-! ## Recommissioning (R333) -/

/-- Whether TAMPERCLR is refused with BADSTATE. -/
def State.clrRefused (s : State) : Bool :=
  (!s.on F.TAMPER_STATUS_LATCH && !s.on F.TAMPER_STATUS_SEALBRK) || (s.asserting &&& s.get F.TAMPER_ARM_ARM != 0) ||
  s.on F.PWR_STATUS_PIN || s.monLow

/-- The generation's word that TAMPERCLR has to blow, unless a supply loss came between its blowing and the end of the command. -/
def State.clrWord (s : State) : Option Nat :=
  match s.key.clrGen with
  | some g => if g ≤ s.key.gen then none else some g
  | none => some (s.key.gen + 1)

/-- Steps 3 to 5 of R333: what the old generation sealed is erased, mirror, latch, seal state and CLRPEND are cleared. -/
def State.clrFinish (s : State) (old new : Nat) (o : Org) : State :=
  let s1 : State := { s with
    key := { s.key with seeds := [], flat := none, mirror := none, clrGen := none, gen := new }
    port := { s.port with sub := none } }
  let s2 := ((s1.showSeeds.set F.KEY_STATUS_GEN new).set F.TAMPER_STATUS_LATCH 0).set F.TAMPER_STATUS_SEALBRK 0
  ((s2.set F.TAMPER_STATUS_CLRPEND 0).log 0x7003 [(1, old), (1, new)] o).inc F.TAMPER_CLRCNT

/-- TAMPERCLR's body (R333). Whether the blown word reads back is the fuse's: a free value decides. -/
def State.tamperClr (s : State) (o : Org) : HRes :=
  if s.clrRefused then .no s stBADSTATE
  else match s.clrWord with
  | none => { st := s.clrFinish (s.key.gen - 1) s.key.gen o }
  | some g =>
    if 15 < g then .no (s.log 0x700A [] o) stBADSTATE
    else
      let s1 := ({ s with key := { s.key with clrGen := some g } } : State).set F.TAMPER_STATUS_CLRPEND 1
      let (n, s2) := s1.draw
      if n % 2 = 1 then .no s2 stBUSY else { st := s2.clrFinish (g - 1) g o }

/-- What only recommissioning clears (R329, R331): the latch or the seal state. -/
def State.needsClr (s : State) : Bool := s.on F.TAMPER_STATUS_LATCH || s.on F.TAMPER_STATUS_SEALBRK

/-- TAMPERCLR (R333): answered, and once it has cleared the latch and the seal state the G1M restarts. -/
def execTamperclr (r : Req) (s : State) : Out :=
  let s1 := hcpRun r 0x0801 (fun s => s.tamperClr (reqOrg r 14)) s
  ok (if s.needsClr && !s1.needsClr then s1.restart .die F.PWR_RSTCAUSE_TCLR else s1)

end Sys2Proof.Machine
end

