-- ==== Sys2Proof/Machine/Spi.lean ====
section
/-! DEFINITION. The SPI ports (R287 to R289, R426): the service port and the seal port. -/

namespace Sys2Proof.Machine

/-- A transaction begins: the port's status byte, as the port stands. A port bound to NONE answers nothing (R275). -/
def State.spiBegin (s : State) (p : Port) : Option (State × Nat) :=
  if !spiPort p || s.role p == 0 then none else some (s.spiStatusByte p)

/-- SPI_READ (R287, R443): the register's word once its domain has answered. Another transaction ends a held pair (R426). -/
def execSpiRead (p : Port) (addr : Nat) (s : State) : Out :=
  ok (match s.spiBegin p with
    | none => s
    | some (s1, st) =>
      match (s1.spiHoldDrop p).readAt p (p == .seal) addr with
      | (s2, some w) => s2.spiSend p (be 1 st ++ be 1 spiDone ++ be 4 w)
      | (s2, none) => s2.spiSend p (be 1 st ++ be 1 spiRefused))

/-- A write passed on to the registers, and answered. -/
def State.spiPut (s : State) (p : Port) (addr v st : Nat) : State :=
  let (s1, refused) := s.reach (domOfReg addr)
  if refused then (s1.spiNote p true).spiSend p (be 1 st ++ be 1 spiRefused)
  else
    let w := s1.regWrite actOf p addr v
    w.st.spiSend p (be 1 st ++ be 1 (if w.refused then spiRefused else spiDone))

/-- The pair that a port has collected is issued, its two writes back to back (R426). -/
def State.spiPair (s : State) (p : Port) (h : HeldWrite) (v st : Nat) : State :=
  let s1 : State := { s with reg := { s.reg with spiHeld := s.reg.spiHeld.filter (fun x => x.port != p) } }
  let (s2, refused) := s1.reach (domOfReg h.addr)
  if refused then (s2.spiNote p true).spiSend p (be 1 st ++ be 1 spiRefused)
  else
    let w1 := s2.regWrite actOf p h.addr h.v
    let w2 := w1.st.regWrite actOf p (h.addr + 0x8000) v
    w2.st.spiSend p (be 1 st ++ be 1 (if w2.refused then spiRefused else spiDone))

/-- A WRITE taken by a port: a first write to an RWP register is held (R426), any other goes on to the registers. -/
def State.spiTake (s : State) (p : Port) (addr v st : Nat) : State :=
  match findReg addr with
  | some (r, _) =>
    if r.prot = .pair then
      let s1 : State := { s with reg := { s.reg with spiHeld := ⟨p, addr, v, s.time.clk⟩ :: s.reg.spiHeld } }
      (s1.spiLast p false).spiSend p (be 1 st ++ be 1 spiDone)
    else s.spiPut p addr v st
  | none => s.spiPut p addr v st

/-- SPI_WRITE (R287, R288, R426). -/
def execSpiWrite (p : Port) (addr : Nat) (v : Word) (s : State) : Out :=
  ok (match s.spiBegin p with
    | none => s
    | some (s1, st) =>
      match s1.reg.spiHeld.find? (fun h => h.port == p) with
      | some h => if addr = h.addr + 0x8000 ∧ s1.time.clk ≤ h.since + spiHoldNs then s1.spiPair p h v.toNat st else (s1.spiHoldDrop p).spiTake p addr v.toNat st
      | none => s1.spiTake p addr v.toNat st)

/-- SPI_STATUS (R287). -/
def execSpiStatus (p : Port) (s : State) : Out :=
  ok (match s.spiBegin p with
    | none => s
    | some (s1, st) => (s1.spiHoldDrop p).spiSend p (be 1 st))

/-- A frame that HCPIN brings: queued as the uplinks' are; one too broken to answer is dropped. -/
def State.sealFrame (s : State) (b : Bytes) : State :=
  match hcpParse b with
  | some f => if f.type = 0 then s.hcpTake f (f.req .seal 0 0 true false) b.length (s.time.dev, s.stampFrac) else s
  | none => s

/-- HCPIN (R287, R289): refused at the service port, whose role permits no command (R22), and while the queue is full; a refusal is
counted (R307), and one for role is logged. -/
def execHcpin (p : Port) (frame : Bytes) (s : State) : Out :=
  ok (match s.spiBegin p with
    | none => s
    | some (s1, st) =>
      let s2 := s1.spiHoldDrop p
      if p ≠ .seal ∨ Config.sealDepth ≤ (s2.port.hcpIn.filter (fun h => h.req.port == .seal)).length then
        let s3 := (s2.spiLast p true).inc F.PORT_SPIREF
        let s4 := if p = .seal then s3
          else s3.log 0x7010 [(1, portCode p), (1, s3.role p), (4, beAt frame 6 2)] { port := p, agent := 12 }
        s4.spiSend p (be 1 st ++ be 1 spiRefused)
      else ((s2.spiLast p false).sealFrame frame).spiSend p (be 1 st ++ be 1 spiDone))

/-- HCPOUT (R287, R289): the oldest response that waits at the seal port; length 0 when none waits. -/
def execHcpout (p : Port) (s : State) : Out :=
  ok (match s.spiBegin p with
    | none => s
    | some (s1, st) =>
      let s2 := s1.spiHoldDrop p
      match p, s2.port.sealOut with
      | .seal, b :: rest =>
        ({ s2 with port := { s2.port with sealOut := rest } } : State).spiSend p (be 1 st ++ be 2 b.length ++ b)
      | _, _ => s2.spiSend p (be 1 st ++ be 2 0))

end Sys2Proof.Machine
end

