-- ==== Sys2Proof/Machine/Dispatch.lean ====
section
/-! DEFINITION. The dispatch: one arm for each command, each one direct call of its meaning. -/

namespace Sys2Proof.Machine

/-- What a command does to everything but the queue. -/
def exec (i : Instr) (s : State) : Host.Outcome State Fault Refusal :=
  match i with
  | .registerWrite p addr v => Sys2Proof.Machine.execRegisterWrite p addr v s
  | .unmappedAccess p addr write => Sys2Proof.Machine.execUnmappedAccess p addr write s
  | .pairTimeout p => Sys2Proof.Machine.execPairTimeout p s
  | .spiPairHoldExpire p => Sys2Proof.Machine.execSpiPairHoldExpire p s
  | .tripleVote => Sys2Proof.Machine.execTripleVote s
  | .sysStrobe p v => Sys2Proof.Machine.execSysStrobe p v s
  | .crossingComplete d => Sys2Proof.Machine.execCrossingComplete d s
  | .sysLock p v => Sys2Proof.Machine.execSysLock p v s
  | .servoMeasurement dom ofs => Sys2Proof.Machine.execServoMeasurement dom ofs s
  | .announceReceive dom a => Sys2Proof.Machine.execAnnounceReceive dom a s
  | .announceTimeout dom => Sys2Proof.Machine.execAnnounceTimeout dom s
  | .acquisitionWaitExpire => Sys2Proof.Machine.execAcquisitionWaitExpire s
  | .slewComplete => Sys2Proof.Machine.execSlewComplete s
  | .leapApply => Sys2Proof.Machine.execLeapApply s
  | .aonSecondsCopy => Sys2Proof.Machine.execAonSecondsCopy s
  | .mainsCrossing c => Sys2Proof.Machine.execMainsCrossing c s
  | .mainsCrossingTimeout => Sys2Proof.Machine.execMainsCrossingTimeout s
  | .timeplateArm p n v => Sys2Proof.Machine.execTimeplateArm p n v s
  | .timeplateFire n => Sys2Proof.Machine.execTimeplateFire n s
  | .timeSnap p v => Sys2Proof.Machine.execTimeSnap p v s
  | .mainsSnap p v => Sys2Proof.Machine.execMainsSnap p v s
  | .mainsXcycRead p => Sys2Proof.Machine.execMainsXcycRead p s
  | .t1sFrameReceive seg frame fcs => Sys2Proof.Machine.execT1sFrameReceive seg frame fcs s
  | .plcFrameReceive f => Sys2Proof.Machine.execPlcFrameReceive f s
  | .radioFrameReceive f => Sys2Proof.Machine.execRadioFrameReceive f s
  | .uplinkFrameReceive f => Sys2Proof.Machine.execUplinkFrameReceive f s
  | .spillDrain cls => Sys2Proof.Machine.execSpillDrain cls s
  | .ingressAndClassSorting cls => Sys2Proof.Machine.execIngressAndClassSorting cls s
  | .duplicateSuppression seq => Sys2Proof.Machine.execDuplicateSuppression seq s
  | .meterSlotLookup seq => Sys2Proof.Machine.execMeterSlotLookup seq s
  | .keyDerivationAndDecryption seq => Sys2Proof.Machine.execKeyDerivationAndDecryption seq s
  | .deferralReplay => Sys2Proof.Machine.execDeferralReplay s
  | .signatureVerification seq => Sys2Proof.Machine.execSignatureVerification seq s
  | .batchClose cls => Sys2Proof.Machine.execBatchClose cls s
  | .batchVerifyComplete id => Sys2Proof.Machine.execBatchVerifyComplete id s
  | .parsing seq => Sys2Proof.Machine.execParsing seq s
  | .validation seq => Sys2Proof.Machine.execValidation seq s
  | .commit seq => Sys2Proof.Machine.execCommit seq s
  | .acknowledgement seq => Sys2Proof.Machine.execAcknowledgement seq s
  | .quarantineExpire => Sys2Proof.Machine.execQuarantineExpire s
  | .pipeCntclr p v => Sys2Proof.Machine.execPipeCntclr p v s
  | .provision r ident f => Sys2Proof.Machine.execProvision r ident f s
  | .deprovision r slot => Sys2Proof.Machine.execDeprovision r slot s
  | .commission r slot => Sys2Proof.Machine.execCommission r slot s
  | .suspend r slot => Sys2Proof.Machine.execSuspend r slot s
  | .popResume r slot => Sys2Proof.Machine.execPopResume r slot s
  | .quarantine r slot => Sys2Proof.Machine.execQuarantine r slot s
  | .recommission r slot => Sys2Proof.Machine.execRecommission r slot s
  | .retire r slot => Sys2Proof.Machine.execRetire r slot s
  | .replace r old spare => Sys2Proof.Machine.execReplace r old spare s
  | .release r slot => Sys2Proof.Machine.execRelease r slot s
  | .update r slot mask f => Sys2Proof.Machine.execUpdate r slot mask f s
  | .readslot r slot => Sys2Proof.Machine.execReadslot r slot s
  | .find r ident => Sys2Proof.Machine.execFind r ident s
  | .listen r slot lwper lwofs lwlen tol => Sys2Proof.Machine.execListen r slot lwper lwofs lwlen tol s
  | .checkpointPage => Sys2Proof.Machine.execCheckpointPage s
  | .recordRebuild slot => Sys2Proof.Machine.execRecordRebuild slot s
  | .meterFind p v => Sys2Proof.Machine.execMeterFind p v s
  | .meterPeek p v => Sys2Proof.Machine.execMeterPeek p v s
  | .legalQueueEntry => Sys2Proof.Machine.execLegalQueueEntry s
  | .settle => Sys2Proof.Machine.execSettle s
  | .boundaryPrecommit t => Sys2Proof.Machine.execBoundaryPrecommit t s
  | .boundaryCommit t => Sys2Proof.Machine.execBoundaryCommit t s
  | .checkTimer => Sys2Proof.Machine.execCheckTimer s
  | .recompute p v => Sys2Proof.Machine.execRecompute p v s
  | .legalFault cause => Sys2Proof.Machine.execLegalFault cause s
  | .legalRebuildComplete => Sys2Proof.Machine.execLegalRebuildComplete s
  | .legalCheckpoint => Sys2Proof.Machine.execLegalCheckpoint s
  | .hwmWrite => Sys2Proof.Machine.execHwmWrite s
  | .repeatModeEnd => Sys2Proof.Machine.execRepeatModeEnd s
  | .sessionExpire => Sys2Proof.Machine.execSessionExpire s
  | .calload r handle => Sys2Proof.Machine.execCalload r handle s
  | .tariffBpeek p v => Sys2Proof.Machine.execTariffBpeek p v s
  | .balanceReading => Sys2Proof.Machine.execBalanceReading s
  | .balanceInstant t => Sys2Proof.Machine.execBalanceInstant t s
  | .provisionalResult node t => Sys2Proof.Machine.execProvisionalResult node t s
  | .intervalFinal node t => Sys2Proof.Machine.execIntervalFinal node t s
  | .localisation node => Sys2Proof.Machine.execLocalisation node s
  | .define r node parent ref a0 b0 s0 flags => Sys2Proof.Machine.execDefine r node parent ref a0 b0 s0 flags s
  | .redefine r node parent ref a0 b0 s0 flags => Sys2Proof.Machine.execRedefine r node parent ref a0 b0 s0 flags s
  | .remove r node => Sys2Proof.Machine.execRemove r node s
  | .readnode r node => Sys2Proof.Machine.execReadnode r node s
  | .resultExpire => Sys2Proof.Machine.execResultExpire s
  | .balNsel p v => Sys2Proof.Machine.execBalNsel p v s
  | .curtail r limit group slots => Sys2Proof.Machine.execCurtail r limit group slots s
  | .resumePosts r group slots => Sys2Proof.Machine.execResumePosts r group slots s
  | .resumeRelease => Sys2Proof.Machine.execResumeRelease s
  | .curtailAck => Sys2Proof.Machine.execCurtailAck s
  | .curtAckTimeout slot => Sys2Proof.Machine.execCurtAckTimeout slot s
  | .curtRefresh slot => Sys2Proof.Machine.execCurtRefresh slot s
  | .postMirrorWrite slot => Sys2Proof.Machine.execPostMirrorWrite slot s
  | .group r g op slots => Sys2Proof.Machine.execGroup r g op slots s
  | .pushcal r scheme which group handle => Sys2Proof.Machine.execPushcal r scheme which group handle s
  | .pushRetry slot => Sys2Proof.Machine.execPushRetry slot s
  | .targetReport => Sys2Proof.Machine.execTargetReport s
  | .campdef r tag size block group handle version sha ta => Sys2Proof.Machine.execCampdef r tag size block group handle version sha ta s
  | .campstart r camp => Sys2Proof.Machine.execCampstart r camp s
  | .campRound camp => Sys2Proof.Machine.execCampRound camp s
  | .campArm camp => Sys2Proof.Machine.execCampArm camp s
  | .campConfirmTimeout slot => Sys2Proof.Machine.execCampConfirmTimeout slot s
  | .camptime r camp ta => Sys2Proof.Machine.execCamptime r camp ta s
  | .campabort r camp => Sys2Proof.Machine.execCampabort r camp s
  | .campread r camp => Sys2Proof.Machine.execCampread r camp s
  | .distCsel p v => Sys2Proof.Machine.execDistCsel p v s
  | .relaydn r slot frame => Sys2Proof.Machine.execRelaydn r slot frame s
  | .relayup r packet => Sys2Proof.Machine.execRelayup r packet s
  | .uplinkTransmit up => Sys2Proof.Machine.execUplinkTransmit up s
  | .plcaOpportunity seg => Sys2Proof.Machine.execPlcaOpportunity seg s
  | .plcTransmit phase => Sys2Proof.Machine.execPlcTransmit phase s
  | .radioTransmit => Sys2Proof.Machine.execRadioTransmit s
  | .lbtWindowEnd level => Sys2Proof.Machine.execLbtWindowEnd level s
  | .lbtBackoffEnd => Sys2Proof.Machine.execLbtBackoffEnd s
  | .dwellMinute => Sys2Proof.Machine.execDwellMinute s
  | .preemptVerify up ok => Sys2Proof.Machine.execPreemptVerify up ok s
  | .c0faultEnd => Sys2Proof.Machine.execC0faultEnd s
  | .egressSpillDrain port cls => Sys2Proof.Machine.execEgressSpillDrain port cls s
  | .qosCntclr p v => Sys2Proof.Machine.execQosCntclr p v s
  | .qosQsel p v => Sys2Proof.Machine.execQosQsel p v s
  | .plcJoin j => Sys2Proof.Machine.execPlcJoin j s
  | .reassemblyTimeout ch tag => Sys2Proof.Machine.execReassemblyTimeout ch tag s
  | .driverFault phase => Sys2Proof.Machine.execDriverFault phase s
  | .driverFaultClear phase => Sys2Proof.Machine.execDriverFaultClear phase s
  | .maskPublish phase band => Sys2Proof.Machine.execMaskPublish phase band s
  | .liveCalibration c => Sys2Proof.Machine.execLiveCalibration c s
  | .plcCal p v => Sys2Proof.Machine.execPlcCal p v s
  | .calSlice run e => Sys2Proof.Machine.execCalSlice run e s
  | .calAbandon run => Sys2Proof.Machine.execCalAbandon run s
  | .plcCntclr p v => Sys2Proof.Machine.execPlcCntclr p v s
  | .neighbourPeriod ch saddr => Sys2Proof.Machine.execNeighbourPeriod ch saddr s
  | .routeFound ch dest route => Sys2Proof.Machine.execRouteFound ch dest route s
  | .norouteTimeout ch dest => Sys2Proof.Machine.execNorouteTimeout ch dest s
  | .sleeperWindow slot => Sys2Proof.Machine.execSleeperWindow slot s
  | .sleeperAttemptLapse slot => Sys2Proof.Machine.execSleeperAttemptLapse slot s
  | .sleeperReplyTimeout slot => Sys2Proof.Machine.execSleeperReplyTimeout slot s
  | .reffreqApply idle => Sys2Proof.Machine.execReffreqApply idle s
  | .radioCal p v => Sys2Proof.Machine.execRadioCal p v s
  | .radioCntclr p v => Sys2Proof.Machine.execRadioCntclr p v s
  | .info r => Sys2Proof.Machine.execInfo r s
  | .regread r addr count => Sys2Proof.Machine.execRegread r addr count s
  | .subscribe r mask kinds => Sys2Proof.Machine.execSubscribe r mask kinds s
  | .hcpSet r sec ns => Sys2Proof.Machine.execHcpSet r sec ns s
  | .adopt r dom => Sys2Proof.Machine.execAdopt r dom s
  | .manifest r handle => Sys2Proof.Machine.execManifest r handle s
  | .fwread r => Sys2Proof.Machine.execFwread r s
  | .importseed r h w => Sys2Proof.Machine.execImportseed r h w s
  | .importflat r w => Sys2Proof.Machine.execImportflat r w s
  | .attest r kref => Sys2Proof.Machine.execAttest r kref s
  | .keyroll r up knum sec ns => Sys2Proof.Machine.execKeyroll r up knum sec ns s
  | .keyrollFire up => Sys2Proof.Machine.execKeyrollFire up s
  | .keyrollOverlapEnd up => Sys2Proof.Machine.execKeyrollOverlapEnd up s
  | .evread r area count first => Sys2Proof.Machine.execEvread r area count first s
  | .evfreeze r secs => Sys2Proof.Machine.execEvfreeze r secs s
  | .qread r cursor ofs => Sys2Proof.Machine.execQread r cursor ofs s
  | .results r node start count => Sys2Proof.Machine.execResults r node start count s
  | .sessread r slot start count => Sys2Proof.Machine.execSessread r slot start count s
  | .hashlist r hashes => Sys2Proof.Machine.execHashlist r hashes s
  | .tamperclr r => Sys2Proof.Machine.execTamperclr r s
  | .xopen r kind target size sha => Sys2Proof.Machine.execXopen r kind target size sha s
  | .xblock r handle ofs data => Sys2Proof.Machine.execXblock r handle ofs data s
  | .xquery r handle first => Sys2Proof.Machine.execXquery r handle first s
  | .xclose r handle => Sys2Proof.Machine.execXclose r handle s
  | .xabort r handle => Sys2Proof.Machine.execXabort r handle s
  | .transferTimeout handle => Sys2Proof.Machine.execTransferTimeout handle s
  | .responseCacheExpire => Sys2Proof.Machine.execResponseCacheExpire s
  | .notificationAck up code seq => Sys2Proof.Machine.execNotificationAck up code seq s
  | .notificationTimeout up code seq => Sys2Proof.Machine.execNotificationTimeout up code seq s
  | .spiRead p addr => Sys2Proof.Machine.execSpiRead p addr s
  | .spiWrite p addr v => Sys2Proof.Machine.execSpiWrite p addr v s
  | .spiStatus p => Sys2Proof.Machine.execSpiStatus p s
  | .hcpin p frame => Sys2Proof.Machine.execHcpin p frame s
  | .hcpout p => Sys2Proof.Machine.execHcpout p s
  | .sdInsert c => Sys2Proof.Machine.execSdInsert c s
  | .sdRemove err => Sys2Proof.Machine.execSdRemove err s
  | .linkChange up isUp => Sys2Proof.Machine.execLinkChange up isUp s
  | .detectorDecide x => Sys2Proof.Machine.execDetectorDecide x s
  | .katPeriodic pass => Sys2Proof.Machine.execKatPeriodic pass s
  | .keyCert p v => Sys2Proof.Machine.execKeyCert p v s
  | .dramScrub len found => Sys2Proof.Machine.execDramScrub len found s
  | .fold => Sys2Proof.Machine.execFold s
  | .superblockClose id pages => Sys2Proof.Machine.execSuperblockClose id pages s
  | .readRefresh b => Sys2Proof.Machine.execReadRefresh b s
  | .nandScrub id found => Sys2Proof.Machine.execNandScrub id found s
  | .blockFail id erase => Sys2Proof.Machine.execBlockFail id erase s
  | .durabilityDeadline => Sys2Proof.Machine.execDurabilityDeadline s
  | .graverRequest vol => Sys2Proof.Machine.execGraverRequest vol s
  | .graverStateAdvance req res => Sys2Proof.Machine.execGraverStateAdvance req res s
  | .graverOverdue req => Sys2Proof.Machine.execGraverOverdue req s
  | .ftlGsel p v => Sys2Proof.Machine.execFtlGsel p v s
  | .wearReport => Sys2Proof.Machine.execWearReport s
  | .eventLog code fields agent => Sys2Proof.Machine.execEventLog code fields agent s
  | .tokenGain code => Sys2Proof.Machine.execTokenGain code s
  | .eventWindowEnd code key => Sys2Proof.Machine.execEventWindowEnd code key s
  | .freezeEnd => Sys2Proof.Machine.execFreezeEnd s
  | .evSecs p v => Sys2Proof.Machine.execEvSecs p v s
  | .evThaw p v => Sys2Proof.Machine.execEvThaw p v s
  | .longRollExpire => Sys2Proof.Machine.execLongRollExpire s
  | .evrecSel p v => Sys2Proof.Machine.execEvrecSel p v s
  | .evrecWinAdvance p => Sys2Proof.Machine.execEvrecWinAdvance p s
  | .activationPrepare => Sys2Proof.Machine.execActivationPrepare s
  | .activation => Sys2Proof.Machine.execActivation s
  | .activationRestart => Sys2Proof.Machine.execActivationRestart s
  | .activationCandidate => Sys2Proof.Machine.execActivationCandidate s
  | .revert kind cause => Sys2Proof.Machine.execRevert kind cause s
  | .fwuPsel p v => Sys2Proof.Machine.execFwuPsel p v s
  | .plateCommit img first last => Sys2Proof.Machine.execPlateCommit img first last s
  | .redraw p v => Sys2Proof.Machine.execRedraw p v s
  | .biasSettleEnd => Sys2Proof.Machine.execBiasSettleEnd s
  | .rowComplete => Sys2Proof.Machine.execRowComplete s
  | .coldRetry temp => Sys2Proof.Machine.execColdRetry temp s
  | .vhvLow => Sys2Proof.Machine.execVhvLow s
  | .keyPress key => Sys2Proof.Machine.execKeyPress key s
  | .screenKey => Sys2Proof.Machine.execScreenKey s
  | .screenIdle => Sys2Proof.Machine.execScreenIdle s
  | .dispPlate p v => Sys2Proof.Machine.execDispPlate p v s
  | .powerGood env => Sys2Proof.Machine.execPowerGood env s
  | .fullPipelineReady env => Sys2Proof.Machine.execFullPipelineReady env s
  | .fullreadyTimeout => Sys2Proof.Machine.execFullreadyTimeout s
  | .cfgWrite addr v => Sys2Proof.Machine.execCfgWrite addr v s
  | .cfgWritePair addr v => Sys2Proof.Machine.execCfgWritePair addr v s
  | .cfgStrobe mask => Sys2Proof.Machine.execCfgStrobe mask s
  | .cfgWait kind addr mask value limit => Sys2Proof.Machine.execCfgWait kind addr mask value limit s
  | .cfgTable id data => Sys2Proof.Machine.execCfgTable id data s
  | .waitEnd => Sys2Proof.Machine.execWaitEnd s
  | .cfgEnd => Sys2Proof.Machine.execCfgEnd s
  | .domainWake d => Sys2Proof.Machine.execDomainWake d s
  | .domainStop d => Sys2Proof.Machine.execDomainStop d s
  | .wakeFail d => Sys2Proof.Machine.execWakeFail d s
  | .pllUnlock d => Sys2Proof.Machine.execPllUnlock d s
  | .ppsInEdge => Sys2Proof.Machine.execPpsInEdge s
  | .ppsInMissing => Sys2Proof.Machine.execPpsInMissing s
  | .supplyWarning pin rails => Sys2Proof.Machine.execSupplyWarning pin rails s
  | .supplyRecover => Sys2Proof.Machine.execSupplyRecover s
  | .warningHoldTimeout => Sys2Proof.Machine.execWarningHoldTimeout s
  | .sequencerRelease => Sys2Proof.Machine.execSequencerRelease s
  | .por => Sys2Proof.Machine.execPor s
  | .bor rail => Sys2Proof.Machine.execBor rail s
  | .pinReset => Sys2Proof.Machine.execPinReset s
  | .wdogExpire => Sys2Proof.Machine.execWdogExpire s
  | .injection p v => Sys2Proof.Machine.execInjection p v s
  | .occurrenceEnd => Sys2Proof.Machine.execOccurrenceEnd s
  | .faultStop p v => Sys2Proof.Machine.execFaultStop p v s
  | .faultStBurin p v => Sys2Proof.Machine.execFaultStBurin p v s
  | .faultStKey p v => Sys2Proof.Machine.execFaultStKey p v s
  | .faultCtrl p v => Sys2Proof.Machine.execFaultCtrl p v s
  | .pllRelock d => Sys2Proof.Machine.execPllRelock d s
  | .supplyWarningReleased => Sys2Proof.Machine.execSupplyWarningReleased s
  | .vhvReturn => Sys2Proof.Machine.execVhvReturn s
  | .refreshDerating m => Sys2Proof.Machine.execRefreshDerating m s
  | .t1sPhyFault seg fault => Sys2Proof.Machine.execT1sPhyFault seg fault s
  | .demodulatorWaitExpire => Sys2Proof.Machine.execDemodulatorWaitExpire s

end Sys2Proof.Machine
end

