-- ==== Sys2Proof/Safety.lean ====
section
/-! DEFINITION. What a safe state of the part is, and the terms the statements use: the status fields that software reads agree
with the state behind them, the register store keeps its one canonical form, a command completes, a request passes the gate and
is answered, a write is admitted. -/

namespace Sys2Proof.Machine

/-- The status fields of R42, R277, R313 and R430 read what the manual ties them to: drawing them again changes nothing. -/
def State.StatusAgrees (s : State) : Prop := s.mirror = s

/-- The register store is canonical: keys strictly rising (R8). -/
def State.StoreCanonical (s : State) : Prop := risingKeys s.reg.fields = true

/-- The register fields that `mirror` draws. -/
def mirrorKeys : List Nat :=
  [F.TIME_STATUS_TRUSTED.key 0, F.PORT_STATUS_CAUSE.key 0, F.PORT_STATUS_RESTRICTED.key 0, F.SYS_STATUS_RESTRICTED.key 0,
   F.KEY_STATUS_GENLEFT.key 0, F.SYS_PEND_GROUPS.key 0]

/-- The register fields that logging an event may count in: the recorder's own, and those of the queues that a notification is offered
to (R210, R220, R372, R377). -/
def logKeys : List Nat :=
  [F.EVREC_LOST.key 0, F.EVREC_SUPP.key 0, F.EVREC_STATUS_PROOFFULL.key 0, F.QOS_C0DROP.key 0, F.QOS_DROP2.key 0, F.QOS_DROP3.key 0]

/-- A command answers a next state of which `P` holds. -/
def Completes (c : Instr) (s : State) (P : State → Prop) : Prop := ∃ t, exec c s = .next t ∧ P t

/-- The state in which a request's body runs: the request taken from its ingress queue (R217). -/
def State.atRun (s : State) (r : Req) (code : Nat) : State := (s.takeReq r code).1

/-- A request's words are read without a finding (R216) and every check that stands before the command lets it pass
(R294, R293, R276, R277, R281, R23). -/
def State.passes (s : State) (r : Req) (code : Nat) : Bool :=
  (s.takeReq r code).2 && (hcpGate r code (s.atRun r code)).isNone

/-- A response with a status and a body is kept for the request (R292, R294). -/
def State.answered (t : State) (r : Req) (code status : Nat) (body : Bytes) : Prop :=
  ∃ k ∈ t.port.kept, k.reqid = r.reqid ∧ k.frame = hcpFrame 1 r.cls (b2n r.outprof) code r.reqid r.ref status body

/-- From every state where the request passes and `pre` holds, the command answers a next state in which it is answered OK with
`body` and `post` holds. `pre`, `body` and `post` read the state in which the body runs. -/
def Serves (c : Instr) (r : Req) (code : Nat) (pre : State → Prop) (body : State → Bytes) (post : State → State → Prop) : Prop :=
  ∀ s : State, s.passes r code = true → pre (s.atRun r code) →
    Completes c s (fun t => t.answered r code stOK (body (s.atRun r code)) ∧ post (s.atRun r code) t)

/-- A port's write of a value to a register is applied: the port is bound to a role, no pair of its own is in progress, and neither
role, certified mode, legal protection nor a lock refuses it (R275, R288, R289, R334, R431). -/
def State.admits (s : State) (p : Port) (addr v : Nat) : Bool :=
  !(spiPort p && s.role p == 0) && (s.heldBy p).isNone &&
  (match findReg addr with
   | some (r, i) => (s.writeRefusal p r i v).isNone && r.flds.all (fun f => f.ty == .RO || mayWrite p r i f)
   | none => false)

/-- From every state that admits the port's write and where `pre` holds, the command answers a next state of which `post` holds. -/
def Writes (c : Instr) (p : Port) (f : Fld) (v : Word) (pre : State → Prop) (post : State → State → Prop) : Prop :=
  ∀ s : State, s.admits p f.addr v.toNat = true → pre s → Completes c s (post s)

/-- A pair discarded with a cause: counted and logged with the register's address and the writer (R425). -/
def State.discarded (s : State) (p : Port) (a cause : Nat) : State :=
  (s.inc F.SYS_PAIRERR).log 0xC0F1 [(4, a), (1, cause), (1, portCode p)] { port := p }

/-- A slot of the population whose record can be read (R99, R115). -/
def State.known (s : State) (slot : Nat) : Prop := slot < 1048576 ∧ s.meter.lostRec.contains slot = false

/-- The item of a sequence number stands before stage `k`, whose command runs (R65, R97, R452). -/
def State.atStage (s : State) (k seq : Nat) (w : Work) : Prop :=
  s.on F.PIPE_CTRL_EN = true ∧ (4 ≤ k → k ≤ 8 → s.on F.PWR_STATUS_WARN = false) ∧ s.workOf seq = some w ∧ w.at_ k = true

/-- A saturating counter after one more. -/
def State.oneMore (s : State) (f : Fld) (i : Nat) : Nat := min (2 ^ f.w - 1) (s.geti f i + 1)

/-- The request and the command code of a command of the Head-End Command Protocol (R296); TAMPERCLR, whose success restarts the
die, is not among them. -/
def requestOf : Instr → Option (Req × Nat)
  | .info r => some (r, 0x0001) | .regread r _ _ => some (r, 0x0002) | .subscribe r _ _ => some (r, 0x0003)
  | .hcpSet r _ _ => some (r, 0x0010) | .adopt r _ => some (r, 0x0011)
  | .provision r _ _ => some (r, 0x0100) | .deprovision r _ => some (r, 0x0101) | .commission r _ => some (r, 0x0102)
  | .suspend r _ => some (r, 0x0103) | .popResume r _ => some (r, 0x0104) | .quarantine r _ => some (r, 0x0105)
  | .recommission r _ => some (r, 0x0106) | .retire r _ => some (r, 0x0107) | .replace r _ _ => some (r, 0x0108)
  | .release r _ => some (r, 0x0109) | .update r _ _ _ => some (r, 0x010A) | .readslot r _ => some (r, 0x010B)
  | .find r _ => some (r, 0x010C) | .listen r _ _ _ _ _ => some (r, 0x010D)
  | .define r _ _ _ _ _ _ _ => some (r, 0x0180) | .redefine r _ _ _ _ _ _ _ => some (r, 0x0181)
  | .remove r _ => some (r, 0x0182) | .readnode r _ => some (r, 0x0183)
  | .calload r _ => some (r, 0x0200) | .pushcal r _ _ _ _ => some (r, 0x0201)
  | .curtail r _ _ _ => some (r, 0x0300) | .resumePosts r _ _ => some (r, 0x0301) | .group r _ _ _ => some (r, 0x0302)
  | .campdef r _ _ _ _ _ _ _ _ => some (r, 0x0310) | .campstart r _ => some (r, 0x0311) | .camptime r _ _ => some (r, 0x0312)
  | .campabort r _ => some (r, 0x0313) | .campread r _ => some (r, 0x0314)
  | .relaydn r _ _ => some (r, 0x0330) | .relayup r _ => some (r, 0x0331)
  | .manifest r _ => some (r, 0x0400) | .fwread r => some (r, 0x0401)
  | .importseed r _ _ => some (r, 0x0500) | .importflat r _ => some (r, 0x0501) | .attest r _ => some (r, 0x0502)
  | .keyroll r _ _ _ _ => some (r, 0x0503)
  | .evread r _ _ _ => some (r, 0x0600) | .evfreeze r _ => some (r, 0x0601) | .qread r _ _ => some (r, 0x0610)
  | .results r _ _ _ => some (r, 0x0620) | .sessread r _ _ _ => some (r, 0x0630) | .hashlist r _ => some (r, 0x0800)
  | .xopen r _ _ _ _ => some (r, 0x0900) | .xblock r _ _ _ => some (r, 0x0901) | .xquery r _ _ => some (r, 0x0902)
  | .xclose r _ => some (r, 0x0903) | .xabort r _ => some (r, 0x0904)
  | _ => none

end Sys2Proof.Machine
end

