-- ==== Sys2Proof/Certificates/Slice0/Obligations.lean ====
section
/-! DEFINITION. The statements for the provers. A statement that a command completes names, for every command in it, the conditions
on the state and the operands under which the command has its own effect, and something the next state then holds. -/

open Sys2Proof Sys2Proof.Machine

/-! ## The queue, reset and what every step keeps -/

/-- A step runs the command at the front of the queue on the state with the queue's rest. -/
def Obligations.StepRunsTheFrontCommand : Prop :=
  ∀ (s : State) (c : Instr) (rest : List Instr), s.pending = c :: rest → step s = exec c { s with pending := rest }

/-- The model's choice (log entry 1): on an empty queue a step lets 1 ns of elapsed time pass and changes nothing else but the
status fields drawn after every step. -/
def Obligations.EmptyQueueLetsTimePass : Prop :=
  ∀ s : State, s.pending = [] → ∃ t, step s = .next t ∧ t.time.clk = s.time.clk + 1 ∧
    t = { s with time := t.time, reg := t.reg } ∧
    ∀ (f : Fld) (i : Nat), f.key i ∉ mirrorKeys →
      t.geti f i = s.geti f i

/-- What reset leaves (R8, R440): no command waits, every field reads its reset value, SYS_ID reads 0x6731_4200, the start step in
progress is 1 and neither readiness is reported. -/
def Obligations.ResetLeavesResetValues : Prop :=
  State.reset.pending = [] ∧ (∀ (f : Fld) (i : Nat), State.reset.geti f i = f.resetAt i) ∧
  (State.reset.readWord false 0x40000000 = 0x67314200) ∧ State.reset.get F.SYS_STATUS_STAGE = 1 ∧
  State.reset.get F.SYS_STATUS_C0READY = 0 ∧ State.reset.get F.SYS_STATUS_FULLREADY = 0

/-- After every step, from every state, the status fields agree with the state they are drawn from: TRUSTED is 1 exactly in state
LOCKED, CAUSE is the foremost cause, RESTRICTED is 1 exactly while a cause holds, GENLEFT is 15 less GEN, and SYS_PEND shows the
groups with a pending shadow. -/
def Obligations.StatusFieldsAgreeAfterEveryStep : Prop :=
  ∀ s t : State, step s = .next t →
    t.StatusAgrees ∧
    t.get F.TIME_STATUS_TRUSTED = b2n (t.get F.TIME_STATUS_STATE == 2) ∧
    t.get F.PORT_STATUS_CAUSE = foremost (t.get F.PORT_STATUS_CAUSES) % 2 ^ F.PORT_STATUS_CAUSE.w ∧
    t.get F.PORT_STATUS_RESTRICTED = b2n t.restricted ∧
    t.get F.SYS_STATUS_RESTRICTED = b2n t.restricted ∧
    t.get F.KEY_STATUS_GENLEFT = (15 - t.get F.KEY_STATUS_GEN) % 2 ^ F.KEY_STATUS_GENLEFT.w ∧
    t.get F.SYS_PEND_GROUPS = pendMask t.reg.shadows % 2 ^ 16

/-- No step of the model faults or refuses: every command of the table has an effect in every state. -/
def Obligations.EveryStepAnswersANextState : Prop := ∀ s : State, ∃ t, step s = .next t

/-- The status fields agree, and the register store is canonical, after reset once the status fields are drawn. -/
def Obligations.ResetIsCanonical : Prop :=
  State.reset.StoreCanonical ∧ State.reset.mirror.StoreCanonical ∧ State.reset.mirror.StatusAgrees

/-- A write at the registers keeps the store canonical, whatever the register does beside its fields, if that does. -/
def Obligations.RegisterWriteKeepsTheStoreCanonical : Prop :=
  ∀ (act : Act), (∀ p a v s, s.StoreCanonical → (act p a v s).StoreCanonical) →
    ∀ (s : State) (p : Port) (a v : Nat), s.pairForced (a - 0x8000) = false → s.StoreCanonical →
      (s.regWrite act p a v).st.StoreCanonical

/-! ## Registers -/

/-- R424: a read of a complement alias returns zero; a write to the complement alias of a register that is not an RWP register has no
effect beyond ending a pair that the same requester had in progress. -/
def Obligations.ComplementAliasReadsZero : Prop :=
  (∀ (s : State) (atSeal : Bool) (r : RegDef) (i : Nat), r ∈ blockRegs.flatten → r.prot = .pair → i < r.cnt →
    s.readWord atSeal (r.at_ i + 0x8000) = 0) ∧
  (∀ (s : State) (act : Act) (p : Port) (a v : Nat), 0x40000000 ≤ a → a < 0x401B0000 → findReg a = none → findAlias a = none →
    s.heldBy p = none → (s.regWriteCore act p a v).st = s)

/-- R19: a read from an address that belongs to no block returns zero, a write to it has no effect, and each access is logged once per
second at most, with the address of the first access in that second. -/
def Obligations.UnmappedAccessReadsZeroAndIsLoggedOnce : Prop :=
  ∀ (s : State) (p : Port) (a : Nat) (w : Bool), 0x401B0000 ≤ a → a < 0x50000000 →
    (∀ atSeal, s.readWord atSeal a = 0) ∧
    (s.win Config.unmappedCode 0 = none →
      exec (.unmappedAccess p a w) s = .next ((s.openWin ⟨Config.unmappedCode, 0, s.time.clk + 1000000000, false, 1, 0⟩).log
        Config.unmappedCode [(4, a)] { port := p }).mirror) ∧
    ((s.win Config.unmappedCode 0).isSome = true → exec (.unmappedAccess p a w) s = .next s.mirror)

/-- R8: a write to a register whose fields are all RW, by a port that may write each, takes effect at once: each field holds what was
written, where its value is in range. -/
def Obligations.PlainWriteTakesEffectAtOnce : Prop :=
  ∀ (s : State) (p : Port) (addr : Nat) (v : Word) (r : RegDef) (i : Nat),
    findReg addr = some (r, i) → r.prot ≠ .pair → r.flds ≠ [] →
    (∀ f ∈ r.flds, f.ty = .RW ∧ mayWrite p r i f = true ∧ s.inRange f i (f.of v.toNat) v.toNat = true) →
    s.admits p addr v.toNat = true → lookupK addr actTable = none →
    (addr < F.TIME_TPCFG_KIND.addr ∨ F.TIME_TPCFG_KIND.addr + 8192 ≤ addr) →
    Completes (.registerWrite p addr v) s (fun t =>
      ∀ f ∈ r.flds, f.key i ∉ mirrorKeys → f.key i ∉ logKeys → t.geti f i = s.taken f (f.of v.toNat) % 2 ^ f.w)

/-- R10: a write to a register whose fields are all RWS leaves the value in force and makes one pending shadow of exactly the values
written, in place of whatever was pending for that register. T1S_CTRL is left to R284. -/
def Obligations.SecondWriteReplacesTheWholeShadow : Prop :=
  ∀ (s : State) (p : Port) (addr : Nat) (v : Word) (r : RegDef) (i : Nat),
    findReg addr = some (r, i) → r.prot ≠ .pair → r.flds ≠ [] → (∀ f ∈ r.flds, f.ty = .RWS ∧ s.inRange f i (f.of v.toNat) v.toNat = true) →
    (∀ f ∈ r.flds, f ≠ F.T1S_CTRL_QUAL) → (p = .config ∨ p = .none) → s.admits p addr v.toNat = true → lookupK addr actTable = none →
    (addr < F.TIME_TPCFG_KIND.addr ∨ F.TIME_TPCFG_KIND.addr + 8192 ≤ addr) →
    Completes (.registerWrite p addr v) s (fun t =>
      (∃ x, t.reg.shadows = s.reg.shadows.filter (fun y => y.addr != addr) ++ [x] ∧ x.addr = addr ∧
        x.vals = r.flds.map (fun f => (f.key i, f.of v.toNat)) ∧ x.port = p) ∧
      ∀ f ∈ r.flds, f.key i ∉ mirrorKeys → t.geti f i = s.geti f i)

/-- R425: a write to an RWP register is held as the requester's first write; a write of the complement to the alias then completes the pair,
which is applied as one write. In every other case what is held is discarded, the register stays as it was, and event 0xC0F1 is logged:
with cause 0 for any other value at the alias, or where an injection corrupts the second write; with cause 1 when no second write comes in
time, in which the rest of that time passes, or the requester's next write goes elsewhere; and with cause 2 for a write to the alias with
no first write held for that register. -/
def Obligations.ComplementPairCompletesOrIsDiscarded : Prop :=
  ∀ (s : State) (act : Act) (p : Port) (r : RegDef) (i v w n : Nat),
    (∀ a, findReg a = some (r, i) → r.prot = .pair → 0x40000000 ≤ a → a < 0x401B0000 → s.heldBy p = none →
      (s.regWriteCore act p a v).st.heldBy p = some ⟨p, r.at_ i, v, s.time.clk⟩ ∧
      (s.regWriteCore act p a v).st.reg.fields = s.reg.fields) ∧
    (s.heldBy p = some ⟨p, r.at_ i, v, n⟩ → s.pairForced (r.at_ i) = false → w = 4294967295 - v →
      s.aliasWrite act p r i w = (s.dropHeld p).checkedWrite act p r i v) ∧
    (s.heldBy p = some ⟨p, r.at_ i, v, n⟩ → s.pairForced (r.at_ i) = false → w ≠ 4294967295 - v →
      (s.aliasWrite act p r i w).st = (s.dropHeld p).discarded p (r.at_ i) 0 ∧ (s.aliasWrite act p r i w).refused = true) ∧
    (s.heldBy p = some ⟨p, r.at_ i, v, n⟩ → s.pairForced (r.at_ i) = true → w = 4294967295 - v →
      (s.aliasWrite act p r i w).st = ((s.dropHeld p).pairDiscardBy (some s.fault.org) p (r.at_ i) 0).pairForcedEnd ∧
      (s.aliasWrite act p r i w).refused = true) ∧
    (∀ h, s.heldBy p = some h → exec (.pairTimeout p) s =
      .next (((s.advTo (h.since + s.pairWindow (domOfReg h.addr))).dropHeld p).discarded p h.addr 1).mirror) ∧
    (∀ h a r' j, s.heldBy p = some h → 0x40000000 ≤ a → a < 0x401B0000 → findReg a = some (r', j) → r'.prot ≠ .pair →
      s.regWriteCore act p a w = ((s.dropHeld p).discarded p h.addr 1).checkedWrite act p r' j w) ∧
    (∀ h, s.heldBy p = some h → h.addr ≠ r.at_ i →
      (s.aliasWrite act p r i w).st = ((s.dropHeld p).discarded p h.addr 1).discarded p (r.at_ i) 2) ∧
    (s.heldBy p = none →
      (s.aliasWrite act p r i w).st = s.discarded p (r.at_ i) 2 ∧ (s.aliasWrite act p r i w).refused = true) ∧
    (∀ (s : State) a c (f : Fld) j, f.key j ∉ logKeys → f.key j ≠ F.SYS_PAIRERR.key 0 → (s.discarded p a c).geti f j = s.geti f j)

/-- R428: of three copies of a triplicated field, two that agree put their value into the latch, the odd copy is rewritten and the
correction counted; where all three differ the latch stays, the copies are rewritten from it, SYS_TRIFAULT counts and
SYS_STATUS.TRIFAULT is set. -/
def Obligations.VoteTakesTheMajority : Prop :=
  ∀ (s : State) (r : RegDef) (f : Fld) (i : Nat) (x : TriCopies),
    s.reg.tri = [x] → findReg (x.key / 32) = some (r, i) → r.flds.find? (fun g => g.key i == x.key) = some f → f.ty = .RWT →
    (x.c0 = x.c1 ∧ x.c0 = x.c2 → Completes .tripleVote s (fun t => t.reg.tri = [] ∧ t.geti f i = x.c0 % 2 ^ f.w)) ∧
    (x.c0 = x.c1 ∧ x.c0 ≠ x.c2 ∨ x.c0 = x.c2 ∧ x.c0 ≠ x.c1 → Completes .tripleVote s (fun t =>
      t.reg.tri = [] ∧ t.geti f i = x.c0 % 2 ^ f.w ∧ t.get F.SYS_TRICORR = s.oneMore F.SYS_TRICORR 0)) ∧
    (x.c1 = x.c2 ∧ x.c0 ≠ x.c1 → Completes .tripleVote s (fun t =>
      t.reg.tri = [] ∧ t.geti f i = x.c1 % 2 ^ f.w ∧ t.get F.SYS_TRICORR = s.oneMore F.SYS_TRICORR 0)) ∧
    (x.c0 ≠ x.c1 ∧ x.c0 ≠ x.c2 ∧ x.c1 ≠ x.c2 → Completes .tripleVote s (fun t =>
      t.reg.tri = [] ∧ t.geti f i = s.geti f i ∧ t.get F.SYS_TRIFAULT = s.oneMore F.SYS_TRIFAULT 0 ∧
      t.get F.SYS_STATUS_TRIFAULT = 1))

/-- The commands of the register engine complete. A first write in progress at the registers, and one that an SPI port holds, are discarded
when their time has passed: SYS_PAIRERR counts, and at the SPI port event 0xC0F1 with cause 1 follows and LASTREF is set. A strobe takes
every pending shadow of the groups written 1 but a write of RADIO_CTRL that R274 holds back; it leaves the other groups' shadows, captures
those of other domains to cross, and puts a value of the SYS domain into its field. A crossing takes exactly what is captured for its
domain and puts it into its field, unless a lost PLL holds the domain stopped: then it changes nothing. A completed pair of SYS_LOCK sets
the bits written 1 and clears none, unless an injection corrupts the pair: then the register stays. -/
def Obligations.RegisterEngineCompletes : Prop :=
  (∀ s p h, s.heldBy p = some h → Completes (.pairTimeout p) s (fun t =>
    t.heldBy p = none ∧ h.since + s.pairWindow (domOfReg h.addr) ≤ t.time.clk ∧ t.get F.SYS_PAIRERR = s.oneMore F.SYS_PAIRERR 0)) ∧
  (∀ s p h, s.reg.spiHeld.find? (fun h => h.port == p) = some h → Completes (.spiPairHoldExpire p) s (fun t =>
    ∃ u : State, t = (u.discarded p h.addr 1).mirror ∧ u.reg.fields = s.reg.fields ∧
      u.reg.spiHeld = s.reg.spiHeld.filter (fun h => h.port != p) ∧ u.reg.lastRef.contains p = true ∧
      h.since + spiHoldNs ≤ u.time.clk)) ∧
  (∀ p v, Writes (.sysStrobe p v) p F.SYS_STROBE_FIRE v (fun _ => True) (fun s t =>
    (∀ x ∈ t.reg.shadows, x ∈ s.reg.shadows ∧ (x.sg < 16 → bit v.toNat x.sg = true → x.addr = F.RADIO_CTRL_BAND.addr)) ∧
    (∀ x ∈ s.reg.shadows, (x.sg < 16 → bit v.toNat x.sg = false) → x ∈ t.reg.shadows) ∧
    (∀ x ∈ s.reg.shadows, x.sg < 16 → bit v.toNat x.sg = true → x.dom ≠ .SYS → x.addr ≠ F.RADIO_CTRL_BAND.addr → x ∈ t.reg.xing) ∧
    (∀ x r i f w, s.reg.shadows = [x] → x.sg < 16 → bit v.toNat x.sg = true → x.dom = .SYS → findReg x.addr = some (r, i) → f ∈ r.flds →
      f.ty = .RWS → x.addr ≠ F.RADIO_CTRL_BAND.addr → x.vals = [(f.key i, w)] → t.geti f i = w % 2 ^ f.w))) ∧
  (∀ s d, s.pwr.noPll.contains d = true → exec (.crossingComplete d) s = .next s.mirror) ∧
  (∀ s d, s.pwr.noPll.contains d = false → Completes (.crossingComplete d) s (fun t =>
    t.reg.xing = s.reg.xing.filter (fun x => x.dom != d) ∧
    (∀ x r i f w, s.reg.xing.filter (fun x => x.dom == d) = [x] → findReg x.addr = some (r, i) → f ∈ r.flds → f.ty = .RWS →
      x.vals = [(f.key i, w)] → t.geti f i = w % 2 ^ f.w))) ∧
  (∀ p v, Writes (.sysLock p v) p F.SYS_LOCK_LOCK v (fun _ => True) (fun s t =>
    t.get F.SYS_LOCK_LOCK = if s.pairForced F.SYS_LOCK_LOCK.addr = true then s.get F.SYS_LOCK_LOCK
      else (s.get F.SYS_LOCK_LOCK ||| F.SYS_LOCK_LOCK.of v.toNat) % 2 ^ 27))

/-! ## The Head-End Command Protocol -/

/-- A request that the gate stops, or whose words are found bad, changes nothing but the registers, the recorder and the ports, for every
command but TAMPERCLR (stated on its own). -/
def Obligations.StoppedRequestChangesNothingElse : Prop :=
  ∀ (i : Instr) (r : Req) (code : Nat) (s t : State), requestOf i = some (r, code) → s.passes r code = false → exec i s = .next t →
    ∃ g e p, t = { s with reg := g, ev := e, port := p }

/-- R22: a frame from a DOWNSTREAM port is never treated as a command: with a request from a port that carries none, a command only takes
the request from its queue, if it was there. -/
def Obligations.DownstreamPortNeverCommands : Prop :=
  ∀ (i : Instr) (r : Req) (code : Nat) (s : State), requestOf i = some (r, code) → hcpPort r.port = false →
    (s.takeReq r code).2 = true → exec i s = .next (s.atRun r code).mirror

/-- R294: a request that matches a kept response is answered with that response and not executed again: beside the answer's
sending, only the count of hits changes. -/
def Obligations.KeptResponseIsSentAgain : Prop :=
  ∀ (i : Instr) (r : Req) (code : Nat) (s : State) (k : Kept), requestOf i = some (r, code) → hcpPort r.port = true →
    (s.takeReq r code).2 = true → (s.atRun r code).role r.port ≠ 0 → (s.atRun r code).keptFor r = some k →
    exec i s = .next (((if k.store = 2 then s.atRun r code else (s.atRun r code).inci F.UPLINK_CACHEHIT k.store 1).sendResp
      { r with prot := k.prot } k.frame true)).mirror

/-- R276: whatever its body holds, a request of a command that the role of its arriving port does not permit is answered with status ROLE
and logged with event 0x7010 (beside it PORT_REFUSED counts). The command table gives the roles that each command permits. The port is
bound to a role, the request stands in the command's class and matches no kept response. -/
def Obligations.ForbiddenRoleIsRefused : Prop :=
  ∀ (i : Instr) (r : Req) (code : Nat) (row : HcpRow) (s : State),
    (requestOf i = some (r, code) ∨ i = .tamperclr r ∧ code = 0x0801) → hcpPort r.port = true →
    hcpRow code = some row → r.cls = row.cls → (s.takeReq r code).2 = true → (s.atRun r code).role r.port ≠ 0 →
    (s.atRun r code).keptFor r = none → roleAllows (s.atRun r code) row ((s.atRun r code).role r.port) = false →
    exec i s = .next ((s.atRun r code).refuseRole r code).mirror ∧
      ((s.atRun r code).refuseRole r code).mirror.answered r code stROLE []

/-- A command that only reads leaves everything but the registers, the recorder, the ports and the count of free values as it was:
INFO, FWREAD, READSLOT, FIND, READNODE, CAMPREAD, EVREAD, QREAD, RESULTS, SESSREAD, XQUERY, ATTEST. -/
def Obligations.ReadingCommandsChangeNothingElse : Prop :=
  ∀ (i : Instr) (s t : State),
    (match i with
     | .info _ | .fwread _ | .readslot _ _ | .find _ _ | .readnode _ _ | .campread _ _ | .evread _ _ _ _ | .qread _ _ _
     | .results _ _ _ _ | .sessread _ _ _ _ | .xquery _ _ _ | .attest _ _ => True
     | _ => False) →
    exec i s = .next t → ∃ g e p n, t = { s with reg := g, ev := e, port := p, free := n }

/-- The commands that read are answered OK with what they read: INFO, REGREAD, FWREAD, ATTEST, EVREAD, QREAD, RESULTS, SESSREAD. -/
def Obligations.ReadsAreServed : Prop :=
  (∀ r s, s.passes r 0x0001 = true → Completes (.info r) s (fun t => ∃ b, b.length = 24 ∧ t.answered r 0x0001 stOK b)) ∧
  (∀ r addr count s, s.passes r 0x0002 = true → 1 ≤ count → count ≤ 256 →
    (s.atRun r 0x0002).pwr.noPll = [] → (s.atRun r 0x0002).pwr.wakeBad = [] →
    Completes (.regread r addr count) s (fun t => ∃ b, b.length = 4 * count ∧ t.answered r 0x0002 stOK b)) ∧
  (∀ r s, s.passes r 0x0401 = true → Completes (.fwread r) s (fun t => ∃ b, t.answered r 0x0401 stOK b)) ∧
  (∀ r s, s.passes r 0x0502 = true → (s.atRun r 0x0502).on F.KEY_STATUS_FUSEGATED = false →
    Completes (.attest r 1) s (fun t => ∃ b, t.answered r 0x0502 stOK b)) ∧
  (∀ r area count first, area ≤ 2 → 1 ≤ count → count ≤ 44 → Serves (.evread r area count first) r 0x0600 (fun _ => True)
    (fun s => ((((s.area area).dropWhile (fun x => decide (2147483648 ≤ fwd 4294967296 first x.seq))).take count).map
      Rec.wire).flatten) (fun _ _ => True)) ∧
  (∀ r ofs s q rest, s.passes r 0x0610 = true → (s.atRun r 0x0610).pipe.quar = q :: rest → ofs < q.bytes.length →
    Completes (.qread r 0 ofs) s (fun t => ∃ b, t.answered r 0x0610 stOK b)) ∧
  (∀ r cursor ofs s q, cursor ≠ 0 → s.passes r 0x0610 = true →
    (s.atRun r 0x0610).pipe.quar.find? (fun x => x.vseq == cursor) = some q → ofs < q.bytes.length →
    Completes (.qread r cursor ofs) s (fun t => ∃ b, t.answered r 0x0610 stOK b)) ∧
  (∀ r node start count, 1 ≤ count → count ≤ 22 → Serves (.results r node start count) r 0x0620
    (fun s => (s.node node).isSome = true)
    (fun s => (((s.bal.results.filter (fun b => b.node == node && decide (start ≤ b.t))).take count).map BRes.wire).flatten)
    (fun _ _ => True)) ∧
  (∀ r slot start count, 1 ≤ count → count ≤ 5 → Serves (.sessread r slot start count) r 0x0630 (fun _ => True)
    (fun s => (((s.leg.sess.filter (fun x => x.slot == slot && decide (start % 2147483648 ≤ x.seq % 2147483648))).take count).map
      SessRec.wire).flatten) (fun _ _ => True))

/-- PROVISION places an identity that no slot holds, in a slot whose record is not being rebuilt, and answers its handle; FIND and READSLOT
answer what the population holds; DEPROVISION and RELEASE free a slot; LISTEN writes its window. -/
def Obligations.PopulationPlacesAndFrees : Prop :=
  (∀ r ident f slot dir s, s.passes r 0x0100 = true → fieldsOk f 255 = true → (keyEmpty f.key || keyValid f.key) = true →
    (s.atRun r 0x0100).findSlot ident = none → (s.atRun r 0x0100).place ident = .ok (slot, dir) →
    (s.atRun r 0x0100).meter.lostRec.contains slot = false →
    Completes (.provision r ident f) s (fun t => t.answered r 0x0100 stOK (be 4 slot) ∧
      (t.mrec slot).state = 1 ∧ (t.mrec slot).ident = ident ∧ (t.mrec slot).profile = f.profile)) ∧
  (∀ r slot, Serves (.deprovision r slot) r 0x0101 (fun s => s.known slot ∧ (s.mrec slot).state = 1) (fun _ => [])
    (fun _ t => (t.mrec slot).state = 0)) ∧
  (∀ r slot, Serves (.release r slot) r 0x0109
    (fun s => s.known slot ∧ (s.mrec slot).state = 5 ∧ s.isRef slot = false ∧
      (s.mrec slot).stateT + s.get F.METER_RETAIN_DAYS * 86400 ≤ s.secs ∧ s.periodClosed slot (s.mrec slot).stateT = true)
    (fun _ => []) (fun _ t => (t.mrec slot).state = 0)) ∧
  (∀ r slot, Serves (.readslot r slot) r 0x010B (fun s => s.known slot) (fun s => (s.mrec slot).wire ++ s.keyEntry slot)
    (fun _ _ => True)) ∧
  (∀ r ident n d s, s.passes r 0x010C = true → (s.atRun r 0x010C).findSlot ident = some (n, d) →
    Completes (.find r ident) s (fun t => t.answered r 0x010C stOK (be 4 n))) ∧
  (∀ r slot lwper lwofs lwlen tol, lwper ≠ 0 → Serves (.listen r slot lwper lwofs lwlen tol) r 0x010D
    (fun s => s.known slot ∧ (s.mrec slot).state ≠ 0) (fun _ => [])
    (fun _ t => (t.mrec slot).radio.lwper = lwper ∧ (t.mrec slot).radio.lwofs = lwofs ∧ (t.mrec slot).radio.lwlen = lwlen ∧
      (t.mrec slot).radio.tol = tol))

/-- R105: the life-state commands move a slot between its states: COMMISSION and RECOMMISSION to commissioned, SUSPEND to suspended,
RESUME back, QUARANTINE to quarantined, RETIRE to retired, REPLACE the old slot to retired and the spare to commissioned. -/
def Obligations.LifeStateCommandsMoveTheSlot : Prop :=
  (∀ r slot, Serves (.commission r slot) r 0x0102
    (fun s => s.known slot ∧ (s.mrec slot).state = 1 ∧ s.mayCommission slot = true ∧ ((s.mrec slot).post = true → s.postCount < 16384))
    (fun _ => []) (fun _ t => (t.mrec slot).state = 2)) ∧
  (∀ r slot, Serves (.suspend r slot) r 0x0103
    (fun s => s.known slot ∧ ((s.mrec slot).state = 2 ∨ (s.mrec slot).state = 3)) (fun _ => [])
    (fun _ t => (t.mrec slot).state = 4)) ∧
  (∀ r slot, Serves (.popResume r slot) r 0x0104 (fun s => s.known slot ∧ (s.mrec slot).state = 4) (fun _ => [])
    (fun s t => (t.mrec slot).state = if (s.mrec slot).first then 2 else 3)) ∧
  (∀ r slot, Serves (.quarantine r slot) r 0x0105
    (fun s => s.known slot ∧ 2 ≤ (s.mrec slot).state ∧ (s.mrec slot).state ≤ 4) (fun _ => [])
    (fun _ t => (t.mrec slot).state = 6)) ∧
  (∀ r slot, Serves (.recommission r slot) r 0x0106
    (fun s => s.known slot ∧ ((s.mrec slot).state = 4 ∨ (s.mrec slot).state = 6) ∧ s.mayCommission slot = true ∧
      ((s.mrec slot).post = true → (s.mrec slot).state = 6 → s.postCount < 16384))
    (fun _ => []) (fun _ t => (t.mrec slot).state = 2)) ∧
  (∀ r slot, Serves (.retire r slot) r 0x0107
    (fun s => s.known slot ∧ ((s.mrec slot).state = 2 ∨ (s.mrec slot).state = 3 ∨ (s.mrec slot).state = 4 ∨ (s.mrec slot).state = 6))
    (fun _ => []) (fun _ t => (t.mrec slot).state = 5)) ∧
  (∀ r old spare, Serves (.replace r old spare) r 0x0108
    (fun s => s.known old ∧ s.known spare ∧
      ((s.mrec old).state = 2 ∨ (s.mrec old).state = 3 ∨ (s.mrec old).state = 4 ∨ (s.mrec old).state = 6) ∧
      (s.mrec spare).state = 1 ∧ s.mayCommission spare = true ∧ ((s.mrec spare).post = true →
        s.postCount - b2n ((s.mrec old).post && decide (2 ≤ (s.mrec old).state) && decide ((s.mrec old).state ≤ 4)) < 16384))
    (fun _ => []) (fun _ t => (t.mrec old).state = 5 ∧ (t.mrec spare).state = 2))

/-- UPDATE completes on a slot that is provisioned, commissioned, active or suspended: it is answered OK, GEN rises by one, each field of
the mask takes the value given and every other field of the eight stays. IMPORTSEED and IMPORTFLAT complete where the operator's key and the
fuse root are there: they take the key that they unwrap, under the generation in force, or answer BADKEY and keep what was held where the
unwrap fails. HASHLIST replaces the approved hashes. A TAMPERCLR that is not refused clears the latch and the seal state, erases every
imported key and restarts the die with PWR_RSTCAUSE.TCLR: at once where its generation's word is blown already, else when the word that it
blows reads back, which is free; where it does not, the command is answered BUSY with the clearing pending. -/
def Obligations.UpdatesAndImportsAreTaken : Prop :=
  (∀ r slot mask f, fieldsOk f mask = true → mask ≤ 255 → (bit mask 7 = true → (keyEmpty f.key || keyValid f.key) = true) →
    Serves (.update r slot mask f) r 0x010A
    (fun s => s.known slot ∧ 1 ≤ (s.mrec slot).state ∧ (s.mrec slot).state ≤ 4 ∧
      (bit mask 3 = true → bit f.flags 1 = true → (s.mrec slot).post = false → 2 ≤ (s.mrec slot).state → s.postCount < 16384) ∧
      (bit mask 4 = true → (f.node = 65535 ∨ (s.node f.node).isSome = true) ∧ (f.node = (s.mrec slot).node ∨ s.isRef slot = false)))
    (fun _ => []) (fun s t =>
      (t.mrec slot).gen = (s.mrec slot).gen + 1 ∧
      (t.mrec slot).profile = (if bit mask 0 then f.profile else (s.mrec slot).profile) ∧
      (t.mrec slot).minkv = (if bit mask 1 then f.minkv else (s.mrec slot).minkv) ∧
      (t.mrec slot).seed = (if bit mask 2 then f.seed else (s.mrec slot).seed) ∧
      (t.mrec slot).flags = (if bit mask 3 then ((s.mrec slot).flags - ((s.mrec slot).flags &&& settableFlags)) + f.flags
        else (s.mrec slot).flags) ∧
      (t.mrec slot).node = (if bit mask 4 then f.node else (s.mrec slot).node) ∧
      (t.mrec slot).scheme = (if bit mask 5 then f.scheme else (s.mrec slot).scheme) ∧
      (t.mrec slot).pmax = (if bit mask 6 then f.pmax else (s.mrec slot).pmax) ∧
      t.keyEntry slot = (if bit mask 7 then (if keyEmpty f.key then zeros 64 else f.key) else s.keyEntry slot))) ∧
  (∀ r h w s, s.passes r 0x0500 = true → w.length = 40 → h ≤ 63 → (s.atRun r 0x0500).key.opkey ≠ [] →
    (s.atRun r 0x0500).rootOpen = true →
    Completes (.importseed r h w) s (fun t =>
      match keyUnwrap (kdf (s.atRun r 0x0500).importZ "SEEDWRAP" (be 1 h ++ be 4 ((s.atRun r 0x0500).geti F.KEY_SEEDCNT_COUNT h)) 256) w with
      | some k => t.answered r 0x0500 stOK [] ∧ lookupK h t.key.seeds = some ⟨(s.atRun r 0x0500).get F.KEY_STATUS_GEN, k⟩
      | none => t.answered r 0x0500 stBADKEY [] ∧ t.key.seeds = s.key.seeds)) ∧
  (∀ r w s, s.passes r 0x0501 = true → w.length = 40 → (s.atRun r 0x0501).on F.KEY_STATUS_FLAT = true →
    (s.atRun r 0x0501).key.opkey ≠ [] → (s.atRun r 0x0501).rootOpen = true →
    Completes (.importflat r w) s (fun t =>
      match keyUnwrap (kdf (s.atRun r 0x0501).importZ "FLATWRAP" (be 4 ((s.atRun r 0x0501).get F.KEY_FLATCNT)) 256) w with
      | some k => t.answered r 0x0501 stOK [] ∧ t.key.flat = some ⟨(s.atRun r 0x0501).get F.KEY_STATUS_GEN, k⟩
      | none => t.answered r 0x0501 stBADKEY [] ∧ t.key.flat = s.key.flat)) ∧
  (∀ r hashes, hashes.length ≤ 8 → Serves (.hashlist r hashes) r 0x0800 (fun _ => True) (fun _ => [])
    (fun _ t => t.fwu.approved = hashes.map (fit 32))) ∧
  (∀ r s, s.passes r 0x0801 = true → (s.atRun r 0x0801).clrRefused = false → (s.atRun r 0x0801).clrWord = none →
    Completes (.tamperclr r) s (fun t => t.get F.PWR_RSTCAUSE_TCLR = 1 ∧ t.needsClr = false ∧ t.key.seeds = [] ∧ t.key.flat = none ∧
      t.key.gen = s.key.gen)) ∧
  ∀ r g s, s.passes r 0x0801 = true → (s.atRun r 0x0801).clrRefused = false → (s.atRun r 0x0801).clrWord = some g → g ≤ 15 →
    Completes (.tamperclr r) s (fun t =>
      (t.get F.PWR_RSTCAUSE_TCLR = 1 ∧ t.needsClr = false ∧ t.key.seeds = [] ∧ t.key.flat = none ∧ t.key.gen = g) ∨
      (t.answered r 0x0801 stBUSY [] ∧ t.key.clrGen = some g ∧ t.get F.TAMPER_STATUS_CLRPEND = 1))

/-- The commands of time, the recorder, the subscription and key rolls complete: SET outside LOCKED, ADOPT of a domain heard, EVFREEZE,
SUBSCRIBE, KEYROLL. -/
def Obligations.OperatorSettingsComplete : Prop :=
  (∀ r sec ns, ns ≤ 999999999 → Serves (.hcpSet r sec ns) r 0x0010 (fun s => s.get F.TIME_STATUS_STATE ≠ 2) (fun _ => [])
    (fun s t => t.time = ((s.log 0x1008 [(1, 0), (8, tc 8 (((sec * nsS + ns : Nat) : Int) - (s.time.dev : Int)))]
      { port := r.port, agent := 2 }).adjust (((sec * nsS + ns : Nat) : Int) - (s.time.dev : Int))).time)) ∧
  (∀ r dom, dom ≤ 1 → Serves (.adopt r dom) r 0x0011 (fun s => s.geti F.TIME_DOMSTAT_ANNOUNCE_OK dom = 1) (fun _ => [])
    (fun _ t => t.time.acqDone = true ∧ t.time.acqEnd = none)) ∧
  (∀ r secs, 1 ≤ secs → secs ≤ 10 → Serves (.evfreeze r secs) r 0x0601 (fun _ => True) (fun _ => [])
    (fun s t => t.ev.freeze = (s.freezeFor secs).ev.freeze ∧ t.ev.freeze.isSome = true)) ∧
  (∀ r mask kinds, kinds < 32 → mask < 2 ^ 96 → Serves (.subscribe r mask kinds) r 0x0003 (fun _ => True) (fun _ => [])
    (fun _ t => t.port.sub = some ⟨upOf r.port, r.src, r.sport, mask, kinds⟩)) ∧
  (∀ r up knum sec ns, up ≤ 1 → ns < nsS → knum < 4294967296 → Serves (.keyroll r up knum sec ns) r 0x0503
    (fun s => (s.install up).on F.KEY_STATUS_FLAT = false ∧ (s.install up).secured up = true ∧
      (s.install up).geti F.UPLINK_KNUM up < knum ∧ (s.install up).time.dev < sec * nsS + ns ∧
      (((s.install up).agDrop (.keyroll up)).undue (.keyroll up)).agFull = false)
    (fun _ => []) (fun _ t => (t.sec up).armed = some (knum, sec * nsS + ns)))

/-- A transfer is opened with nothing held; it takes the units of a block that lies in it and differs from nothing held; it tells its units
from a first one on; it closes once every unit is held and its digest matches, and, for a calendar, a manifest or a list of slots, stands
closed for the command that names it; it is aborted. MANIFEST of a closed transfer that the update agent accepts is answered OK and leaves
what the agent makes of it; CALLOAD of a calendar that parses and leads far enough makes it its scheme's passive one; RELAYDN to a slot with
a way down is answered OK once the frame is taken, and RELAYUP of a whole IPv6 packet is answered OK. -/
def Obligations.TransfersAndImagesComplete : Prop :=
  (∀ r kind target size sha s, s.passes r 0x0900 = true → (s.atRun r 0x0900).xopenCheck kind target size sha = none →
    (s.atRun r 0x0900).port.xfers.length < 16 → (s.atRun r 0x0900).on F.FTL_STATUS_RO = false →
    ¬ (2 ≤ kind ∧ kind ≤ 4 ∧ 1073741824 < (s.atRun r 0x0900).stageUsed + size) →
    Completes (.xopen r kind target size sha) s (fun t =>
      (∃ h, t.answered r 0x0900 stOK (be 1 h ++ zeros 3)) ∧
      ∃ x ∈ t.port.xfers, x.kind = kind ∧ x.target = target ∧ x.size = size ∧ x.sha = sha ∧ x.closed = false ∧ x.units = [])) ∧
  (∀ r handle ofs data x s, s.passes r 0x0901 = true → (s.atRun r 0x0901).xfer r handle = some x → x.closed = false →
    (unitsOf (ofs / 64) (data.length + 1) data).all (fun u => (lookupK u.1 x.units).all (fun d => d == u.2)) = true →
    ofs % 64 = 0 → data ≠ [] → ofs + data.length ≤ x.size → (data.length % 64 = 0 ∨ ofs + data.length = x.size) →
    Completes (.xblock r handle ofs data) s (fun t =>
      (∃ n, t.answered r 0x0901 stOK (be 4 n)) ∧ ∃ y ∈ t.port.xfers, y.handle = handle ∧
        y.units = (unitsOf (ofs / 64) (data.length + 1) data).foldl (fun l u => insertK u.1 u.2 l) x.units)) ∧
  (∀ r handle first x s, s.passes r 0x0902 = true → (s.atRun r 0x0902).xfer r handle = some x → first < x.total →
    Completes (.xquery r handle first) s (fun t => ∃ b, t.answered r 0x0902 stOK (be 4 first ++ be 4 x.total ++ b))) ∧
  (∀ r handle x s, s.passes r 0x0903 = true → (s.atRun r 0x0903).xfer r handle = some x → x.closed = false →
    x.total ≤ x.units.length → sha256 x.image = x.sha →
    Completes (.xclose r handle) s (fun t => t.answered r 0x0903 stOK (be 4 0) ∧
      (x.kind = 1 ∨ x.kind = 3 ∨ x.kind = 5 → ∃ y ∈ t.port.xfers, y.handle = x.handle ∧ y.closed = true ∧ y.units = x.units))) ∧
  (∀ r handle x s, s.passes r 0x0904 = true → (s.atRun r 0x0904).xfer r handle = some x →
    Completes (.xabort r handle) s (fun t => t.answered r 0x0904 stOK [] ∧ t.port.xfers.all (fun y => y.handle != x.handle) = true)) ∧
  (∀ r handle x s1 s, s.passes r 0x0400 = true → (s.atRun r 0x0400).closedXfer r handle 3 = some x →
    (s.atRun r 0x0400).manSubmit x.image (reqOrg r 18) = (s1, 0) →
    Completes (.manifest r handle) s (fun t => t.answered r 0x0400 stOK [] ∧ t.fwu = s1.fwu)) ∧
  (∀ r handle x c s, s.passes r 0x0200 = true →
    ¬ ((s.atRun r 0x0200).on F.TARIFF_LCTRL_CALLOCK = true ∧ (s.atRun r 0x0200).role r.port = 1) →
    (s.atRun r 0x0200).closedXfer r handle 1 = some x → parseCal x.image = some c →
    ((s.atRun r 0x0200).dropXfer x).time.dev + ((s.atRun r 0x0200).dropXfer x).get F.TARIFF_LCTRL_MINLEAD * 3600 * nsS ≤
      c.activate * nsS →
    ((((s.atRun r 0x0200).dropXfer x).agDrop (.calActivate c.scheme)).undue (.calActivate c.scheme)).agFull = false →
    Completes (.calload r handle) s (fun t => t.answered r 0x0200 stOK [] ∧ (t.calSet c.scheme).passive = some c)) ∧
  (∀ r slot frame s1 s, s.passes r 0x0330 = true → ((s.atRun r 0x0330).mrec slot).state ≠ 0 →
    (((s.atRun r 0x0330).mrec slot).ct ≠ 0 ∨ ((s.atRun r 0x0330).mrec slot).addr ≠ [] ∨ ((s.atRun r 0x0330).post slot).isSome = true) →
    (s.atRun r 0x0330).toSlot slot 2 (.relay slot frame) frame.length false .drop = (s1, true) →
    Completes (.relaydn r slot frame) s (fun t => t.answered r 0x0330 stOK [] ∧ t.radio = s1.radio)) ∧
  (∀ r packet s, s.passes r 0x0331 = true → 40 ≤ packet.length → packet.length ≤ 1496 → beAt packet 0 1 / 16 = 6 →
    Completes (.relayup r packet) s (fun t => t.answered r 0x0331 stOK []))

/-- DEFINE of a new node in a topology that stays legal adds the node that the command's values give; REDEFINE puts the values of its
command in the node's place and keeps the intervals buffered, the residuals and the suspects; REMOVE of a node without children takes it out
of the topology; READNODE of a node is answered with its 96 B. Each is answered OK. -/
def Obligations.TopologyCommandsComplete : Prop :=
  (∀ r node parent ref a0 b0 s0 flags, nodeRange node parent ref flags = true →
    Serves (.define r node parent ref a0 b0 s0 flags) r 0x0180
      (fun s => (s.node node).isSome = false ∧ s.topoBad node parent ref s0 = false) (fun _ => [])
      (fun s t => t.bal.nodes = s.bal.nodes ++
        [{ nodeOf node parent ref a0 b0 s0 flags (s.levelUnder parent) with since := s.time.dev }])) ∧
  (∀ r node parent ref a0 b0 s0 flags, nodeRange node parent ref flags = true →
    Serves (.redefine r node parent ref a0 b0 s0 flags) r 0x0181
      (fun s => s.topoBad node parent ref s0 = false ∧ ∃ old, s.node node = some old ∧
        (s.levelUnder parent = old.level ∨ s.bnodes.any (fun n => n.parent == node) = false))
      (fun _ => [])
      (fun s t => ∀ old, s.node node = some old →
        t.node node = some { nodeOf node parent ref a0 b0 s0 flags (s.levelUnder parent) with
          since := s.time.dev, clipDay := old.clipDay, susp := old.susp, hist := old.hist, lastFlags := old.lastFlags, buf := old.buf })) ∧
  (∀ r node, node < 65535 → Serves (.remove r node) r 0x0182
    (fun s => (s.node node).isSome = true ∧ s.meter.recs.any (fun e => e.2.state != 0 && e.2.node == node) = false ∧
      s.bnodes.any (fun n => n.parent == node) = false)
    (fun _ => []) (fun _ t => t.node node = none)) ∧
  (∀ r node s, s.passes r 0x0183 = true → ((s.atRun r 0x0183).node node).isSome = true →
    Completes (.readnode r node) s (fun t => ∃ b, b.length = 96 ∧ t.answered r 0x0183 stOK b))

/-- CURTAIL and RESUME complete while CURT_EN is set: they are answered OK with the slots refused and why; every other post named takes the
limit with CURT 1, or stands in the resume queue. GROUP sets or clears the bit of a group in the posts listed, or clears it in every post.
PUSHCAL of a calendar that is there, to slots that can receive it, is answered OK and begins a push to each. -/
def Obligations.PostCommandsComplete : Prop :=
  (∀ r limit group slots, groupRange group slots 64 = true → Serves (.curtail r limit group slots) r 0x0300
    (fun s => s.on F.DIST_CTRL_CURT_EN = true) (fun s => refusedBody r (s.refusals (s.named group slots) false))
    (fun s t => ∀ x ∈ s.named group slots, s.postRefusal x false = none →
      (t.post x).map (fun p => (p.climit, p.curt)) = some (limit, 1))) ∧
  (∀ r group slots, groupRange group slots 64 = true → Serves (.resumePosts r group slots) r 0x0301
    (fun s => s.on F.DIST_CTRL_CURT_EN = true) (fun s => refusedBody r (s.refusals (s.named group slots) true))
    (fun s t => ∀ x ∈ s.named group slots, s.postRefusal x true = none → t.resuming x = true)) ∧
  (∀ r g op slots, g ≤ 63 → op ≤ 1 → slots.length ≤ 256 → slots.all (fun x => decide (x < 1048576)) = true →
    Serves (.group r g op slots) r 0x0302
    (fun s => slots.all (fun x => (s.post x).isSome && s.canSend x) = true) (fun _ => [])
    (fun _ t => ∀ x ∈ slots, (t.post x).map (fun p => bit p.groups g) = some (op == 0))) ∧
  (∀ r g slots, g ≤ 63 → slots.length ≤ 256 → slots.all (fun x => decide (x < 1048576)) = true → Serves (.group r g 2 slots) r 0x0302
    (fun _ => True) (fun _ => []) (fun _ t => ∀ p ∈ t.dist.posts, bit p.groups g = false)) ∧
  (∀ r scheme which group handle l x c s, scheme ≤ 1023 → which ≤ 1 → s.passes r 0x0201 = true →
    (s.atRun r 0x0201).on F.DIST_CTRL_PUSH_EN = true → (s.atRun r 0x0201).targetsOf r group handle = .ok (l, x) →
    (if which = 0 then ((s.atRun r 0x0201).calSet scheme).active else ((s.atRun r 0x0201).calSet scheme).passive) = some c →
    l.any (fun y => ((s.atRun r 0x0201).mrec y).state == 0 || !(s.atRun r 0x0201).canSend y) = false →
    Completes (.pushcal r scheme which group handle) s (fun t => t.answered r 0x0201 stOK [] ∧
      ∀ y ∈ l, (t.mrec y).dist.pstate = 1 ∧ (t.mrec y).dist.pcalid = c.calid))

/-- CAMPDEF of a campaign whose targets are free and can receive it is answered OK with its number and defines it in state 1; CAMPSTART
of a defined campaign with its image sets it running (state 3); CAMPTIME gives one that is not armed another instant; CAMPABORT ends one
that has not ended (state 6); CAMPREAD is answered with its numbers. -/
def Obligations.CampaignCommandsComplete : Prop :=
  (∀ r tag size block group handle version sha ta l x s, 1 ≤ size → size ≤ 16777216 → [128, 256, 512, 1024].contains block = true →
    s.passes r 0x0310 = true → (s.atRun r 0x0310).on F.DIST_CTRL_CAMP_EN = true →
    (s.atRun r 0x0310).targetsOf r group handle = .ok (l, x) → (s.atRun r 0x0310).openCamps.length < 16 →
    l.all (fun y => (((s.atRun r 0x0310).mrec y).state == 2 || ((s.atRun r 0x0310).mrec y).state == 3) &&
      ((s.atRun r 0x0310).mrec y).dist.camp == 255 && (s.atRun r 0x0310).canSend y) = true →
    (s.atRun r 0x0310).taSoon ta = false → (s.atRun r 0x0310).agFull = false →
    Completes (.campdef r tag size block group handle version sha ta) s (fun t =>
      t.answered r 0x0310 stOK (be 1 (s.atRun r 0x0310).freeCamp ++ zeros 3) ∧
      (t.camp (s.atRun r 0x0310).freeCamp).map (fun c => (c.tag, c.size, c.block, c.version, c.sha, c.ta, c.targets, c.state)) =
        some (tag, size, block, version, sha, ta, l, 1))) ∧
  (∀ r camp c s, camp ≤ 15 → s.passes r 0x0311 = true → (s.atRun r 0x0311).camp camp = some c → c.state = 1 → c.got = true →
    (s.atRun r 0x0311).on F.DIST_CTRL_CAMP_EN = true →
    Completes (.campstart r camp) s (fun t => t.answered r 0x0311 stOK [] ∧ (t.camp camp).map (fun c => c.state) = some 3)) ∧
  (∀ r camp ta c s, camp ≤ 15 → s.passes r 0x0312 = true → (s.atRun r 0x0312).camp camp = some c → c.state < 5 → c.armed = false →
    (s.atRun r 0x0312).taSoon ta = false →
    (((s.atRun r 0x0312).agDrop (.campArm camp)).undue (.campArm camp)).agFull = false →
    Completes (.camptime r camp ta) s (fun t => t.answered r 0x0312 stOK [] ∧ (t.camp camp).map (fun c => c.ta) = some ta)) ∧
  (∀ r camp c s, camp ≤ 15 → s.passes r 0x0313 = true → (s.atRun r 0x0313).camp camp = some c → c.state < 5 →
    Completes (.campabort r camp) s (fun t => t.answered r 0x0313 stOK [] ∧ (t.camp camp).map (fun c => c.state) = some 6)) ∧
  (∀ r camp c s, camp ≤ 15 → s.passes r 0x0314 = true → (s.atRun r 0x0314).camp camp = some c →
    Completes (.campread r camp) s (fun t => t.answered r 0x0314 stOK
      (be 4 c.info ++ be 4 c.tag ++ be 4 c.targets.length ++ be 4 c.have_.length ++ be 4 c.done.length)))

/-! ## Registers that act when they are written -/

/-- A write of a selector register takes the value: METER_PEEK copies the record, TARIFF_BPEEK the legal record, EVREC_SEL, BAL_NSEL,
DIST_CSEL, QOS_QSEL, FTL_GSEL and FWU_PSEL hold what was selected. A write of 1 to a clearing register clears its counters, and a write of 1
to a snapshot register copies the clock. -/
def Obligations.SelectorsAndClearsComplete : Prop :=
  (∀ p v, Writes (.meterPeek p v) p F.METER_PEEK_SLOT v (fun _ => True) (fun s t =>
    t.get F.METER_PEEK_SLOT = F.METER_PEEK_SLOT.of v.toNat ∧ t.meter.peek = (s.mrec (F.METER_PEEK_SLOT.of v.toNat)).bytes)) ∧
  (∀ p v, Writes (.tariffBpeek p v) p F.TARIFF_BPEEK_SLOT v (fun _ => True) (fun s t =>
    t.get F.TARIFF_BPEEK_SLOT = F.TARIFF_BPEEK_SLOT.of v.toNat ∧
    t.leg.bpeek = ((lookupK (F.TARIFF_BPEEK_SLOT.of v.toNat) s.leg.recs).map LRec.bytes).getD [])) ∧
  (∀ p v, Writes (.evrecSel p v) p F.EVREC_SEL_SEQ v
    (fun s => s.inRange F.EVREC_SEL_SEQ 0 (F.EVREC_SEL_SEQ.of v.toNat) v.toNat = true) (fun _ t =>
    t.get F.EVREC_SEL_SEQ = F.EVREC_SEL_SEQ.of v.toNat ∧ t.get F.EVREC_WSTAT_DONE = 1)) ∧
  (∀ p v, Writes (.balNsel p v) p F.BAL_NSEL_NODE v
    (fun s => s.inRange F.BAL_NSEL_NODE 0 (F.BAL_NSEL_NODE.of v.toNat) v.toNat = true) (fun _ t =>
    t.get F.BAL_NSEL_NODE = F.BAL_NSEL_NODE.of v.toNat)) ∧
  (∀ p v, Writes (.distCsel p v) p F.DIST_CSEL_CAMP v
    (fun s => s.inRange F.DIST_CSEL_CAMP 0 (F.DIST_CSEL_CAMP.of v.toNat) v.toNat = true) (fun s t =>
    t.get F.DIST_CSEL_CAMP = F.DIST_CSEL_CAMP.of v.toNat ∧
    t.get F.DIST_CTAG = ((s.camp (F.DIST_CSEL_CAMP.of v.toNat)).map (fun c => c.tag)).getD 0 % 2 ^ 32)) ∧
  (∀ p v, Writes (.qosQsel p v) p F.QOS_QSEL_QUEUE v
    (fun s => s.inRange F.QOS_QSEL_QUEUE 0 (F.QOS_QSEL_QUEUE.of v.toNat) v.toNat = true) (fun _ t =>
    t.get F.QOS_QSEL_QUEUE = F.QOS_QSEL_QUEUE.of v.toNat)) ∧
  (∀ p v, Writes (.ftlGsel p v) p F.FTL_GSEL_REQ v
    (fun s => s.inRange F.FTL_GSEL_REQ 0 (F.FTL_GSEL_REQ.of v.toNat) v.toNat = true) (fun s t =>
    t.get F.FTL_GSEL_REQ = F.FTL_GSEL_REQ.of v.toNat ∧
    t.get F.FTL_GINFO_VALID = b2n (s.greq (F.FTL_GSEL_REQ.of v.toNat)).isSome)) ∧
  (∀ p v, Writes (.fwuPsel p v) p F.FWU_PSEL_PART v
    (fun s => s.inRange F.FWU_PSEL_PART 0 (F.FWU_PSEL_PART.of v.toNat) v.toNat = true) (fun _ t =>
    t.get F.FWU_PSEL_PART = F.FWU_PSEL_PART.of v.toNat)) ∧
  (∀ p v, Writes (.meterFind p v) p F.METER_FIND_GO v (fun _ => bit v.toNat 0 = true) (fun s t =>
    t.get F.METER_FOUND_DONE = 1 ∧
    t.get F.METER_FOUND_VALID = b2n (s.findSlot (s.get F.METER_FINDL_ID + 4294967296 * s.get F.METER_FINDH)).isSome)) ∧
  (∀ s p, Completes (.evrecWinAdvance p) s (fun t => t.get F.EVREC_WSTAT_DONE = 1 ∧ t.ev.winRecs.length ≤ 8)) ∧
  (∀ p v, Writes (.pipeCntclr p v) p F.PIPE_CNTCLR_CLR v (fun _ => bit v.toNat 0 = true) (fun _ t =>
    (∀ i, i < 256 → t.geti F.PIPE_OCNT_COUNT i = 0) ∧ t.get F.BURIN_BATCH = 0)) ∧
  (∀ p v, Writes (.qosCntclr p v) p F.QOS_CNTCLR_CLR v (fun _ => bit v.toNat 0 = true) (fun _ t =>
    t.get F.QOS_C0DROP = 0 ∧ t.get F.QOS_OUTPROF = 0 ∧ ∀ i, i < 14 → t.geti F.QOS_C0CNT i = 0)) ∧
  (∀ p v, Writes (.plcCntclr p v) p F.PLC_CNTCLR_CLR v (fun _ => bit v.toNat 0 = true) (fun _ t =>
    ∀ i, i < 6 → t.geti F.PLC_FOK i = 0 ∧ t.geti F.PLC_FBAD i = 0)) ∧
  (∀ p v, Writes (.radioCntclr p v) p F.RADIO_CNTCLR_CLR v (fun _ => bit v.toNat 0 = true) (fun _ t =>
    t.get F.RADIO_FOK = 0 ∧ t.get F.RADIO_FBAD = 0 ∧ t.get F.RADIO_TXOK = 0)) ∧
  (∀ p v, Writes (.timeSnap p v) p F.TIME_SNAP_TAKE v (fun _ => bit v.toNat 0 = true) (fun s t =>
    t.get F.TIME_SNAPSL = s.secs % 4294967296 ∧ t.get F.TIME_SNAPNS = s.nanos)) ∧
  (∀ p v, Writes (.mainsSnap p v) p F.MAINS_SNAP_TAKE v (fun _ => bit v.toNat 0 = true) (fun s t =>
    t.mains.frozen = true ∧ t.get F.MAINS_SNAPHI_ANGLE = s.angle % 65536)) ∧
  (∀ s p, (s.role p ≠ 0 ∨ p = .none ∨ p = .config) → Completes (.mainsXcycRead p) s (fun t => t.mains.frozen = false))

/-- The other registers that act: the recorder is frozen and thawed, a recompute logs what it finds, a redraw is requested, a plate row is
copied, calibrations and self-tests are requested, certified mode is blown, an injection is stopped, LIVE is set, a timeplate entry is
written. -/
def Obligations.ActingRegistersComplete : Prop :=
  (∀ p v, Writes (.evSecs p v) p F.EVREC_FREEZE_SECS v
    (fun _ => bit v.toNat 4 = false ∧ 1 ≤ F.EVREC_FREEZE_SECS.of v.toNat ∧ F.EVREC_FREEZE_SECS.of v.toNat ≤ 10)
    (fun _ t => t.ev.freeze.isSome = true)) ∧
  (∀ p v, Writes (.evThaw p v) p F.EVREC_FREEZE_THAW v (fun _ => bit v.toNat 4 = true ∧ F.EVREC_FREEZE_SECS.of v.toNat = 0)
    (fun _ t => t.ev.freeze = none)) ∧
  (∀ v, Writes (.recompute .seal v) .seal F.BILL_CHKCMD_RECOMPUTE v (fun s => bit v.toNat 0 = true ∧ s.ev.lost = none)
    (fun s t => s.ev.total < t.ev.total ∧ (s.leg.chkNow ≠ s.leg.chk0 → t.get F.BILL_STATUS_CHKOK = 0 ∧ t.get F.BILL_STATUS_RUN = 0))) ∧
  (∀ p v, Writes (.redraw p v) p F.DISP_CMD_REDRAW v
    (fun s => bit v.toNat 0 = true ∧ s.on F.DISP_CTRL_EN = true ∧ s.on F.PWR_STATUS_WARN = false ∧ s.disp.pass.isSome = true)
    (fun _ t => (t.disp.again.isSome || t.disp.pend.isSome) = true)) ∧
  (∀ v, Writes (.dispPlate .seal v) .seal F.DISP_PLATE_COMMON v
    (fun s => s.inRange F.DISP_PLATE_COMMON 0 (F.DISP_PLATE_COMMON.of v.toNat) v.toNat = true) (fun s t =>
    t.disp.plated = le 4 s.disp.seq ++ le 4 s.disp.cur ++ sub s.plate (25 * F.DISP_PLATE_COMMON.of v.toNat) 25 ++ zeros 3)) ∧
  (∀ p v ph, ph < 3 → Writes (.plcCal p v) p F.PLC_CAL_RUN v
    (fun s => bit v.toNat ph = true ∧ v.toNat < 8 ∧ s.pairForced F.PLC_CAL_RUN.addr = false)
    (fun _ t => (lookupK ph t.plc.calReq).isSome = true)) ∧
  (∀ p v, Writes (.radioCal p v) p F.RADIO_CAL_RUN v
    (fun s => v.toNat = 1 ∧ s.pairForced F.RADIO_CAL_RUN.addr = false)
    (fun _ t => t.radio.calAt.isSome = true ∧ t.get F.RADIO_STATUS_CALRUN = 1)) ∧
  (∀ v, Writes (.keyCert .seal v) .seal F.KEY_CERT_BLOW v
    (fun s => v.toNat = 1 ∧ s.on F.TAMPER_STATUS_LATCH = false ∧ s.pairForced F.KEY_CERT_BLOW.addr = false)
    (fun _ t => t.key.blown = true)) ∧
  (∀ p v, Writes (.faultStop p v) p F.FAULT_CMD_STOP v (fun s => bit v.toNat 0 = true ∧ s.on F.FAULT_STATUS_ACTIVE = true)
    (fun _ t => t.get F.FAULT_STATUS_ACTIVE = 0 ∧ t.get F.FAULT_STATUS_LEFT = 0)) ∧
  (∀ p v, Writes (.faultStBurin p v) p F.FAULT_ST_BURIN v
    (fun s => v.toNat = 1 ∧ s.pairForced F.FAULT_ST_BURIN.addr = false) (fun _ t => t.fault.burinAt.isSome = true)) ∧
  (∀ p v, Writes (.faultStKey p v) p F.FAULT_ST_KEY v
    (fun s => v.toNat = 2 ∧ s.pairForced F.FAULT_ST_KEY.addr = false) (fun _ t => t.fault.keyAt.isSome = true)) ∧
  (∀ p v, Writes (.faultCtrl p v) p F.FAULT_CTRL_LIVE v
    (fun s => v.toNat < 2 ∧ s.pairForced F.FAULT_CTRL_LIVE.addr = false) (fun _ t => t.get F.FAULT_CTRL_LIVE = v.toNat)) ∧
  (∀ p n v s, 64 ≤ n → n < 256 → v.toNat = 0 → s.admits p (F.TIME_TPCFG_KIND.addr + 32 * n) 0 = true →
    Completes (.timeplateArm p n v) s (fun t => t.geti F.TIME_TPCFG_KIND n = 0 ∧ t.geti F.TIME_TPCFG_ARMED n = 0 ∧ t.tpEnt n = none)) ∧
  (∀ p n v s, 64 ≤ n → n < 256 → F.TIME_TPCFG_KIND.of v.toNat = 1 → s.admits p (F.TIME_TPCFG_KIND.addr + 32 * n) v.toNat = true →
    s.time.dev ≤ (s.geti F.TIME_TPW0 n + s.geti F.TIME_TPW1 n * 4294967296) * nsS + s.geti F.TIME_TPW2 n →
    Completes (.timeplateArm p n v) s (fun t => t.geti F.TIME_TPCFG_ARMED n = 1 ∧ (t.tpEnt n).map (fun e => e.next) =
      some ((s.geti F.TIME_TPW0 n + s.geti F.TIME_TPW1 n * 4294967296) * nsS + s.geti F.TIME_TPW2 n)))

/-- R459 to R461: an injection that R459 and R460 refuse is counted in FAULT_REFCNT; one that is taken stands in FAULT_INJ. R457: the last
held occurrence of an injection ends and with it the injection; one before the last is followed by its gap. -/
def Obligations.InjectionIsTakenOrCounted : Prop :=
  (∀ p v c, Writes (.injection p v) p F.FAULT_INJ_DET v
    (fun s => s.pairForced F.FAULT_INJ_DET.addr = false ∧
      s.injRefusal (F.FAULT_INJ_DET.of v.toNat) (F.FAULT_INJ_ARG.of v.toNat) (F.FAULT_INJ_COUNT.of v.toNat) = some c)
    (fun s t => t.get F.FAULT_REFCNT = s.oneMore F.FAULT_REFCNT 0)) ∧
  (∀ p v, Writes (.injection p v) p F.FAULT_INJ_DET v
    (fun s => s.pairForced F.FAULT_INJ_DET.addr = false ∧ s.on F.PWR_STATUS_WARN = false ∧
      isHeld (F.FAULT_INJ_DET.of v.toNat) = true ∧
      s.injRefusal (F.FAULT_INJ_DET.of v.toNat) (F.FAULT_INJ_ARG.of v.toNat) (F.FAULT_INJ_COUNT.of v.toNat) = none)
    (fun _ t => t.fault.holdEnd.isSome = true ∧ t.fault.fired = 1)) ∧
  (∀ (s : State) e, s.on F.FAULT_STATUS_ACTIVE = true → s.fault.holdEnd = some e → s.get F.FAULT_STATUS_LEFT = 1 →
    s.get F.FAULT_STATUS_DET ≠ 28 → Completes .occurrenceEnd s (fun t =>
      t.get F.FAULT_STATUS_ACTIVE = 0 ∧ t.get F.FAULT_STATUS_LEFT = 0 ∧ t.fault.holdEnd = none ∧ e ≤ t.time.clk)) ∧
  (∀ (s : State) e, s.on F.FAULT_STATUS_ACTIVE = true → s.fault.holdEnd = some e → 2 ≤ s.get F.FAULT_STATUS_LEFT →
    s.get F.FAULT_STATUS_LEFT ≤ 15 → s.get F.FAULT_STATUS_DET ≠ 28 → Completes .occurrenceEnd s (fun t =>
      t.get F.FAULT_STATUS_LEFT = s.get F.FAULT_STATUS_LEFT - 1 ∧ t.fault.holdEnd = none ∧ t.fault.gapEnd.isSome = true))

/-! ## Events: clocks, recorder, display -/

/-- R443 to R446: a stopped domain wakes, a domain whose stop condition holds stops, a wake that fails shows WAKEERR and leaves the access that waits to be refused, a PLL that loses
lock holds its domain stopped and one that locks again lets it run, an edge of PPS_IN is stamped and a second without one passes. -/
def Obligations.ClockEventsComplete : Prop :=
  (∀ s d, s.pwr.noPll.contains d = false → s.runs d = false → Completes (.domainWake d) s (fun t => t.runs d = true)) ∧
  (∀ s d, s.stopCond d = true → s.runs d = true → Completes (.domainStop d) s (fun t => t.runs d = false)) ∧
  (∀ s d, s.runs d = false → Completes (.wakeFail d) s (fun t => t.get F.CLK_STATUS_WAKEERR = 1 ∧ t.pwr.wakeBad.contains d = true)) ∧
  (∀ s d, hasPll d = true → s.pwr.noPll.contains d = false → Completes (.pllUnlock d) s (fun t =>
    t.pwr.noPll = d :: s.pwr.noPll ∧ t.get F.CLK_STATUS_PLLOK = 0 ∧ t.runs d = false)) ∧
  (∀ s d, s.pwr.noPll.contains d = true → s.forces 30 (domIx d) = false → Completes (.pllRelock d) s (fun t =>
    t.pwr.noPll.contains d = false ∧ (t.stopCond d = false → t.runs d = true))) ∧
  (∀ s : State, s.on F.CLK_IO_PPSIN = true → Completes .ppsInEdge s (fun t =>
    t.get F.CLK_PPSSL = s.secs % 4294967296 ∧ t.get F.CLK_PPSNS = s.nanos ∧ t.pwr.ppsAt = some s.time.clk)) ∧
  (∀ s : State, s.on F.CLK_IO_PPSIN = true → Completes .ppsInMissing s (fun t => t.pwr.ppsAt = some t.time.clk))

/-- Events of the recorder, while no freeze is in force and none is subscribed. An event that the rate limit lets pass and that finds room
becomes the next record of the roll area, with the fields of its payload. A token comes back to its bucket, and where events were suppressed it is
spent on their summary. A window ends. A freeze ends, nothing stays held, and no lost record stays open where the intake queue has room. What the long
roll has kept past its days leaves it, and it keeps at most 2^30 records. -/
def Obligations.RecorderEventsComplete : Prop :=
  (∀ (s : State) code fields agent, s.ev.freeze = none → s.ev.lost = none → s.noRoom = none → s.port.sub = none →
    (s.on F.EVREC_CTRL_RATE_EN = false ∨ neverLimited code = true ∨
      ((s.bucket code).supp = 0 ∧ (s.bucket code).missing - s.gained code < (s.bucketOf code).1)) →
    (s.ev.proof.length < 8191 ∨ s.on F.EVREC_STATUS_PROOFFULL = true) →
    Completes (.eventLog code fields agent) s (fun t => t.ev.total = s.ev.total + 1 ∧
      t.ev.roll = (if s.ev.roll.length < 65536 then s.ev.roll else s.ev.roll.drop 1) ++
        [⟨s.secs, s.nanos, code, s.origin (.ag agent), s.ev.total % 4294967296, fields⟩])) ∧
  (∀ (s : State) code u, s.on F.EVREC_CTRL_RATE_EN = true → 0 < (s.bucket code).missing → (s.bucket code).supp = 0 → 0 < s.perToken code →
    (s.ev.proof.length ≠ 8192 ∨ s.on F.EVREC_STATUS_PROOFFULL = true) → u = s.advTo ((s.bucket code).since + s.perToken code) →
    Completes (.tokenGain code) s (fun t => 1 ≤ u.gained code ∧
      (t.bucket code).missing = (s.bucket code).missing - u.gained code ∧ (t.bucket code).supp = 0)) ∧
  (∀ (s : State) code, s.on F.EVREC_CTRL_RATE_EN = true → s.ev.lost = none → s.port.sub = none → 0 < (s.bucket code).supp →
    0 < s.perToken code → Completes (.tokenGain code) s (fun t => (t.bucket code).supp = 0 ∧ s.ev.total < t.ev.total)) ∧
  (∀ (s : State) code key, s.ev.wins.any (fun w => w.code == code && w.key == key) = true →
    Completes (.eventWindowEnd code key) s (fun t => t.ev.wins.any (fun w => w.code == code && w.key == key) = false)) ∧
  (∀ s : State, s.ev.freeze.isSome = true → Completes .freezeEnd s (fun t => t.ev.freeze = none ∧ t.ev.hold = [] ∧
    (s.port.sub = none → s.backlog < 200 → t.ev.lost = none))) ∧
  (∀ s : State, s.ev.long ≠ [] → Completes .longRollExpire s (fun t =>
    t.ev.long.length ≤ longMax ∧ ∀ x ∈ t.ev.long, x ∈ s.ev.long ∧ t.secs < x.secs + s.get F.EVREC_LONG_DAYS * 86400))

/-- Events of the display. The bias settles and the first common is driven with its pixels; a common ends and the next is driven; the last
common ends the pass; a supply warning stops a pass at either instant; a request over the running span starts it again; with EN 0 the pass ends,
its span is held and the drive goes off. A pass deferred for temperature is tried again, VHV falls and returns. A committed plate takes the other
buffer, a key waits in the queue of eight, the legal core pair takes the oldest, and an idle screen returns to CHECK. -/
def Obligations.DisplayEventsComplete : Prop :=
  (∀ (s : State) p, s.disp.pass = some p → p.settle = true → s.pwr.noPll.contains .DISP = false → s.on F.PWR_STATUS_WARN = false → (p.pump = true ∨ s.disp.vhv = true) →
    Completes .biasSettleEnd s (fun t => ∃ q, t.disp.pass = some q ∧ q.settle = false ∧ q.row = p.row ∧
      lookupK p.row t.disp.glass = some (s.pixels p.row))) ∧
  (∀ (s : State) p, s.disp.pass = some p → s.pwr.noPll.contains .DISP = false → s.on F.PWR_STATUS_WARN = true →
    Completes (if p.settle = true then .biasSettleEnd else .rowComplete) s (fun t => t.disp.pass = none ∧ t.disp.stopped.isSome = true ∧
      t.get F.DISP_NSTOP = s.oneMore F.DISP_NSTOP 0)) ∧
  (∀ (s : State) p, s.disp.pass = some p → p.settle = false → s.pwr.noPll.contains .DISP = false → s.on F.PWR_STATUS_WARN = false → s.on F.DISP_CTRL_EN = true →
    (p.pump = true ∨ s.disp.vhv = true) → s.disp.again = none → p.row < p.last →
    Completes .rowComplete s (fun t => ∃ q, t.disp.pass = some q ∧ q.row = p.row + 1 ∧
      lookupK (p.row + 1) t.disp.glass = some (s.pixels (p.row + 1)))) ∧
  (∀ (s : State) p, s.disp.pass = some p → p.settle = false → s.pwr.noPll.contains .DISP = false → s.on F.PWR_STATUS_WARN = false → s.on F.DISP_CTRL_EN = true →
    (p.pump = true ∨ s.disp.vhv = true) → s.disp.again = none → s.disp.pend = none → s.disp.restoring = 0 → p.last ≤ p.row →
    Completes .rowComplete s (fun t => t.disp.pass = none ∧ t.get F.DISP_NPASS = s.oneMore F.DISP_NPASS 0)) ∧
  (∀ (s : State) p q, s.disp.pass = some p → p.settle = false → s.pwr.noPll.contains .DISP = false → s.on F.PWR_STATUS_WARN = false →
    s.on F.DISP_CTRL_EN = true → (p.pump = true ∨ s.disp.vhv = true) → s.disp.again = some q →
    Completes .rowComplete s (fun t => t.disp.again = none ∧ t.get F.DISP_NRESTART = s.oneMore F.DISP_NRESTART 0)) ∧
  (∀ (s : State) p, s.disp.pass = some p → p.settle = false → s.pwr.noPll.contains .DISP = false → s.on F.PWR_STATUS_WARN = false →
    s.on F.DISP_CTRL_EN = false → Completes .rowComplete s (fun t => t.disp.pass = none ∧ t.disp.held.isSome = true ∧
      t.get F.DISP_STATUS_OFF = 1)) ∧
  (∀ (s : State) q temp, s.disp.deferred = some q → s.on F.DISP_STATUS_COLD = true → s.on F.PWR_STATUS_WARN = false →
    s.on F.DISP_CTRL_EN = true → Completes (.coldRetry temp) s (fun t =>
      if (s.comp temp).isSome && s.driveSrc.isSome then t.disp.pass.isSome = true ∧ t.disp.deferred = none
      else t.disp.deferred.isSome = true)) ∧
  (∀ s : State, Completes .vhvLow s (fun t => t = ({ s with disp := { s.disp with vhv := false } } : State).mirror)) ∧
  (∀ s : State, Completes .vhvReturn s (fun t => t.disp.vhv = true ∧ t.meter = s.meter ∧ t.leg = s.leg)) ∧
  (∀ (s : State) img a b, s.on F.BILL_STATUS_RUN = true → Completes (.plateCommit img a b) s (fun t =>
    t.disp.seq = (s.disp.seq + 1) % 4294967296 ∧ t.disp.cur = 1 - s.disp.cur ∧ t.plate = fit 2400 img)) ∧
  (∀ (s : State) k, s.disp.keys.length < 8 → Completes (.keyPress k) s (fun t => t.disp.keys = s.disp.keys ++ [k.val])) ∧
  (∀ (s : State) k, 8 ≤ s.disp.keys.length → Completes (.keyPress k) s (fun t => t.disp.keys = s.disp.keys)) ∧
  (∀ (s : State) k rest, s.disp.keys = k :: rest → s.on F.BILL_STATUS_RUN = true → Completes .screenKey s (fun t =>
    t.disp.keys = rest ∧ t.disp.seq = (s.disp.seq + 1) % 4294967296 ∧
    (k = 0 → t.get F.DISP_STATUS_SCREEN = (s.get F.DISP_STATUS_SCREEN + 1) % 3))) ∧
  (∀ s : State, s.get F.DISP_STATUS_SCREEN ≠ 0 → s.on F.BILL_STATUS_RUN = true → Completes .screenIdle s (fun t =>
    t.get F.DISP_STATUS_SCREEN = 0))

/-! ## Events: the legal partition -/

/-- Events of the legal partition and of the meter records. A legal fault stops the partition and is counted; the third within an hour, or one
while it is halted, halts it, any other has it rebuilt. The rebuild lets it run. The daily check logs an event, and where the value differs it
clears CHKOK and stops the partition. The checkpoint pass of a partition that runs copies every record, unless it finds a record whose CRC
fails, which is a legal fault; one that does not run copies nothing. The time high-water mark takes device time where that is greater. Repeat
mode ends at its mark. Sessions past their retention leave. A lost record is rebuilt from what is stored. A checkpoint page moves the pass on
by one, the last one starts it over, and before the full pipeline is ready none is written. -/
def Obligations.LegalAndRecordEventsComplete : Prop :=
  (∀ (s : State) c, Completes (.legalFault c) s (fun t => t.get F.BILL_STATUS_RUN = 0 ∧ t.get F.BILL_FAULTS = s.oneMore F.BILL_FAULTS 0 ∧
    (if s.on F.BILL_STATUS_HALTED = true ∨ 2 ≤ (s.leg.faults.filter (fun x => decide (s.time.clk < x + 3600 * nsS))).length
     then t.get F.BILL_STATUS_HALTED = 1 ∧ t.get F.BILL_STATUS_REBUILDING = 0
     else t.get F.BILL_STATUS_HALTED = 0 ∧ t.get F.BILL_STATUS_REBUILDING = 1))) ∧
  (∀ s : State, s.on F.BILL_STATUS_REBUILDING = true → Completes .legalRebuildComplete s (fun t =>
    t.get F.BILL_STATUS_RUN = 1 ∧ t.get F.BILL_STATUS_REBUILDING = 0)) ∧
  (∀ s : State, Completes .checkTimer s (fun t => (s.ev.lost = none → s.ev.total < t.ev.total) ∧
    (s.leg.chkNow ≠ s.leg.chk0 → t.get F.BILL_STATUS_CHKOK = 0 ∧ t.get F.BILL_STATUS_RUN = 0))) ∧
  (∀ s : State, s.on F.BILL_STATUS_RUN = true → (∀ e ∈ s.leg.recs, e.2.crcBad = false) → Completes .legalCheckpoint s (fun t =>
    t.leg.ckpt.recs = s.leg.recs ∧ t.leg.ckpt.n = s.leg.upto ∧ t.leg.hist = [] ∧ t.leg.recs = s.leg.recs)) ∧
  (∀ s : State, s.on F.BILL_STATUS_RUN = true → (∃ e ∈ s.leg.recs, e.2.crcBad = true) → Completes .legalCheckpoint s (fun t =>
    t.leg.ckpt = s.leg.ckpt ∧ t.get F.BILL_STATUS_RUN = 0 ∧ t.get F.BILL_FAULTS = s.oneMore F.BILL_FAULTS 0)) ∧
  (∀ s : State, s.on F.BILL_STATUS_RUN = false → exec .legalCheckpoint s = .next s.mirror) ∧
  (∀ s : State, Completes .hwmWrite s (fun t => t.leg = { s.leg with hwm := max s.leg.hwm s.time.dev })) ∧
  (∀ (s : State) c h, s.leg.rep = some (c, h) → Completes .repeatModeEnd s (fun t =>
    t.leg.rep = none ∧ t.get F.BILL_STATUS_REPEAT = 0 ∧ h ≤ t.time.dev)) ∧
  (∀ (s : State) e l, s.leg.sess = e :: l → Completes .sessionExpire s (fun t =>
    t.leg.sess = s.leg.sess.filter (fun x => decide (t.secs < x.ct + s.get F.BILL_SESSDAYS_DAYS * 86400)) ∧
    e.ct + s.get F.BILL_SESSDAYS_DAYS * 86400 ≤ t.secs)) ∧
  (∀ (s : State) slot, s.meter.lostRec.contains slot = true → Completes (.recordRebuild slot) s (fun t =>
    t.meter.lostRec = s.meter.lostRec.filter (fun x => x != slot) ∧ (t.mrec slot).ident = (s.rebuildRec slot).1.ident ∧
    (t.mrec slot).state = (s.rebuildRec slot).1.state ∧ t.get F.METER_STATUS_REBUILDING = b2n (!t.meter.lostRec.isEmpty))) ∧
  (∀ s : State, s.on F.SYS_STATUS_FULLREADY = true → s.meter.ckPos + 1 ≠ ckPages → Completes .checkpointPage s (fun t =>
    t.meter.ckPos = s.meter.ckPos + 1 ∧ s.ckDue ≤ t.time.clk)) ∧
  (∀ s : State, s.on F.SYS_STATUS_FULLREADY = true → s.meter.ckPos + 1 = ckPages → Completes .checkpointPage s (fun t =>
    t.meter.ckPos = 0 ∧ s.ckDue ≤ t.time.clk)) ∧
  (∀ s : State, s.on F.SYS_STATUS_FULLREADY = false → exec .checkpointPage s = .next s.mirror)

/-- While the partition runs, the oldest entry of the legal queue is taken: a reading is attributed and counted as taken, and a cut notice acts,
unless the slot's record fails its CRC, when the partition stops and a cut notice stays queued; an entry whose words R216 finds bad is
discarded, or the queue is flushed. The intervals of an owner whose settle instant is the earliest settle, and its open interval stays. A
boundary to come is written with the next sequence number as its pre-commit entry fires, and committed under that number as device time reaches
it; what waited as its pre-commit is gone. -/
def Obligations.LegalBoundaryEventsComplete : Prop :=
  (∀ (s : State) e q, s.leg.queue = e :: q → s.on F.BILL_STATUS_RUN = true → (s.qTake 4 (s.leg.queue.map LqEnt.bytes)).2 = .fine →
    Completes .legalQueueEntry s (fun t => match e with
      | .reading r _ => t.leg.queue = q ∧
        (if (s.lrec r.slot).crcBad = true then t.get F.BILL_STATUS_RUN = 0 else t.leg.upto = r.n + 1)
      | .cut _ _ slot _ => if (s.lrec slot).crcBad = true then t.leg.queue = e :: q ∧ t.get F.BILL_STATUS_RUN = 0
        else t.leg.queue = q)) ∧
  (∀ (s : State) e q, s.leg.queue = e :: q → s.on F.BILL_STATUS_RUN = true → (s.qTake 4 (s.leg.queue.map LqEnt.bytes)).2 = .discard →
    Completes .legalQueueEntry s (fun t => t.leg = { s.leg with queue := q })) ∧
  (∀ (s : State) e q, s.leg.queue = e :: q → s.on F.BILL_STATUS_RUN = true → (s.qTake 4 (s.leg.queue.map LqEnt.bytes)).2 = .flush →
    Completes .legalQueueEntry s (fun t => t.leg = { s.leg with queue := [] })) ∧
  (∀ (s : State) o x, s.on F.BILL_STATUS_RUN = true → o ∈ s.owners → s.settleAt o = some x →
    (∀ o' ∈ s.owners, ∀ y, s.settleAt o' = some y → x ≤ y) → Completes .settle s (fun t =>
      (t.ownIvl o).settle = none ∧ (t.ownIvl o).openS = (s.ownIvl o).openS ∧ x ≤ t.time.dev)) ∧
  (∀ (s : State) b, s.kindsAt b ≠ 0 → s.repeated b = false → s.leg.lastB < b → s.on F.BILL_STATUS_RUN = true →
    Completes (.boundaryPrecommit b) s (fun t => (t.leg.pre.map (fun x => (x.t, x.seq, x.kinds))) = some (b, s.leg.bseq + 1, s.kindsAt b))) ∧
  (∀ (s : State) b, s.kindsAt b ≠ 0 → s.repeated b = false → s.leg.lastB < b → s.on F.BILL_STATUS_RUN = true →
    Completes (.boundaryCommit b) s (fun t => t.leg.bseq = s.leg.bseq + 1 ∧ t.leg.lastB = b ∧ t.leg.pre = none ∧
      ∃ x ∈ t.leg.brecs, x.t = b ∧ x.seq = s.leg.bseq + 1 ∧ x.kinds = s.kindsAt b))

/-! ## Events: time and mains -/

/-- Events of device time and of the mains clock. The first measurement of a tracked domain gives its prediction; one outside the guard is
refused and counted, and the sixteenth in a row makes the domain suspect and takes its lock, so that where it is the active one a standby that
is locked takes over, with its offset slewed where that is within the legal clock limit, or else a locked clock falls into holdover. One
within the guard ends the row of refusals, and the sixteenth small innovation in a row locks the active domain. An announce shows ANNOUNCE_OK
and ends holdover where its domain is locked; its absence clears ANNOUNCE_OK and LOCKED, with the same choice of standby or holdover. The
wait of first acquisition ends with an active domain. A slew runs out. A leap takes effect. The always-on counter takes device seconds. A
crossing of a present phase A is stamped, one of an absent phase A and 30 ms without one leave LOCKED for HOLDOVER. A timeplate entry that
fires once is disarmed, and an agenda instant that an entry holds falls due. -/
def Obligations.TimeEventsComplete : Prop :=
  (∀ (s : State) (d : Fin 2) ofs, s.tracked d = true → (s.dom d).pred = none → Completes (.servoMeasurement d ofs) s (fun t =>
    (t.dom d).pred = some ofs ∧ (t.dom d).run4 = [ofs])) ∧
  (∀ (s : State) (d : Fin 2) ofs p, s.tracked d = true → (s.dom d).pred = some p → s.guard < (ofs - p).natAbs →
    s.geti F.TIME_DOMSTAT_REFUSALS d < 15 → Completes (.servoMeasurement d ofs) s (fun t =>
      t.geti F.TIME_DOMSTAT_REFUSALS d = s.geti F.TIME_DOMSTAT_REFUSALS d + 1 ∧ t.geti F.TIME_DOMSTAT_CLEANRUN d = 0)) ∧
  (∀ (s : State) (d : Fin 2) ofs p, s.tracked d = true → (s.dom d).pred = some p → s.guard < (ofs - p).natAbs →
    s.geti F.TIME_DOMSTAT_REFUSALS d = 15 → s.suspect d = false → (s.time.acqDone = false ∨ s.get F.TIME_STATUS_ACTIVE ≠ d) →
    Completes (.servoMeasurement d ofs) s (fun t =>
      t.geti F.TIME_DOMSTAT_REFUSALS d = 16 ∧ t.suspect d = true ∧ t.locked d = false)) ∧
  (∀ (s : State) (d : Fin 2) ofs p, s.tracked d = true → (s.dom d).pred = some p → s.guard < (ofs - p).natAbs →
    s.geti F.TIME_DOMSTAT_REFUSALS d = 15 → s.suspect d = false → s.time.acqDone = true → s.get F.TIME_STATUS_ACTIVE = d →
    s.get F.TIME_STATUS_STATE = 2 → (s.tracked (1 - d) && s.locked (1 - d) && !s.failed (1 - d)) = false →
    Completes (.servoMeasurement d ofs) s (fun t => t.suspect d = true ∧ t.get F.TIME_STATUS_STATE = 3)) ∧
  (∀ (s : State) (d : Fin 2) ofs p, s.tracked d = true → (s.dom d).pred = some p → s.guard < (ofs - p).natAbs →
    s.geti F.TIME_DOMSTAT_REFUSALS d = 15 → s.suspect d = false → s.time.acqDone = true → s.get F.TIME_STATUS_ACTIVE = d →
    (s.tracked (1 - d) && s.locked (1 - d) && !s.failed (1 - d)) = true → (s.domOfs (1 - d)).natAbs ≤ s.legalLimit →
    Completes (.servoMeasurement d ofs) s (fun t => t.suspect d = true ∧ t.get F.TIME_STATUS_ACTIVE = (1 - d : Fin 2) ∧
      t.get F.TIME_STATUS_STATE = 2 ∧ t.time.slew = s.domOfs (1 - d))) ∧
  (∀ (s : State) (d : Fin 2) ofs p, s.tracked d = true → (s.dom d).pred = some p → (ofs - p).natAbs ≤ s.guard →
    s.time.acqDone = true → s.locked d = true → Completes (.servoMeasurement d ofs) s (fun t =>
      t.geti F.TIME_DOMSTAT_REFUSALS d = 0 ∧ t.domOfs d = ofs)) ∧
  (∀ (s : State) (d : Fin 2) ofs p, s.tracked d = true → (s.dom d).pred = some p → (ofs - p).natAbs ≤ s.guard → (ofs - p).natAbs < 1000 →
    15 ≤ (s.dom d).run16 → s.geti F.TIME_DOMSTAT_ANNOUNCE_OK d = 1 → s.suspect d = false → s.locked d = false → s.time.acqDone = true →
    s.get F.TIME_STATUS_STATE ≠ 3 → s.get F.TIME_STATUS_ACTIVE = d → Completes (.servoMeasurement d ofs) s (fun t =>
      t.locked d = true ∧ t.get F.TIME_STATUS_STATE = 2)) ∧
  (∀ (s : State) (d : Fin 2) a, s.tracked d = true → (s.get F.TIME_STATUS_STATE ≠ 3 ∨ s.geti F.TIME_DOMSTAT_ANNOUNCE_OK d ≠ 0 ∨
      s.locked d = false ∨ s.suspect d = true) → Completes (.announceReceive d a) s (fun t =>
    t.geti F.TIME_DOMSTAT_ANNOUNCE_OK d = 1 ∧ (t.dom d).heard = true ∧ (t.dom d).annAt = s.time.clk)) ∧
  (∀ (s : State) (d : Fin 2) a, s.tracked d = true → s.get F.TIME_STATUS_STATE = 3 → s.geti F.TIME_DOMSTAT_ANNOUNCE_OK d = 0 →
    s.locked d = true → s.suspect d = false → (s.domOfs d).natAbs ≤ s.legalLimit → Completes (.announceReceive d a) s (fun t =>
      t.geti F.TIME_DOMSTAT_ANNOUNCE_OK d = 1 ∧ t.get F.TIME_STATUS_STATE = 2 ∧ t.get F.TIME_STATUS_ACTIVE = d ∧ t.time.slew = s.domOfs d)) ∧
  (∀ (s : State) (d : Fin 2), s.geti F.TIME_DOMSTAT_ANNOUNCE_OK d = 1 → (s.time.acqDone = false ∨ s.get F.TIME_STATUS_ACTIVE ≠ d) →
    Completes (.announceTimeout d) s (fun t =>
      t.geti F.TIME_DOMSTAT_ANNOUNCE_OK d = 0 ∧ t.geti F.TIME_DOMSTAT_LOCKED d = 0)) ∧
  (∀ (s : State) (d : Fin 2), s.geti F.TIME_DOMSTAT_ANNOUNCE_OK d = 1 → s.get F.TIME_STATUS_ACTIVE = d → s.time.acqDone = true →
    s.get F.TIME_STATUS_STATE = 2 → (s.tracked (1 - d) && s.locked (1 - d) && !s.failed (1 - d)) = false →
    Completes (.announceTimeout d) s (fun t => t.geti F.TIME_DOMSTAT_ANNOUNCE_OK d = 0 ∧ t.get F.TIME_STATUS_STATE = 3)) ∧
  (∀ (s : State) (d : Fin 2), s.geti F.TIME_DOMSTAT_ANNOUNCE_OK d = 1 → (s.dom d).heard = true → s.get F.TIME_STATUS_ACTIVE = d →
    s.time.acqDone = true → (s.tracked (1 - d) && s.locked (1 - d) && !s.failed (1 - d)) = true →
    (s.domOfs (1 - d)).natAbs ≤ s.legalLimit → Completes (.announceTimeout d) s (fun t =>
      t.get F.TIME_STATUS_ACTIVE = (1 - d : Fin 2) ∧ t.get F.TIME_STATUS_STATE = 2 ∧ t.time.slew = s.domOfs (1 - d))) ∧
  (∀ (s : State) e, s.time.acqEnd = some e → (s.time.d0.cand && s.tracked 0 || s.time.d1.cand && s.tracked 1) = true →
    Completes .acquisitionWaitExpire s (fun t => t.time.acqEnd = none ∧ t.time.acqDone = true ∧ e ≤ t.time.clk)) ∧
  (∀ s : State, s.time.slew ≠ 0 → Completes .slewComplete s (fun t => t.time.slew = 0 ∧ t.time.clk = s.time.clk + s.slewEnd)) ∧
  (∀ (s : State) e new, s.time.leap = some (e, new) → Completes .leapApply s (fun t =>
    t.get F.TIME_UTCOFS_CUR = new % 2 ^ F.TIME_UTCOFS_CUR.w ∧ t.time.leap = none ∧ e ≤ t.secs)) ∧
  (∀ s : State, (s.locked 0 = true ∨ s.locked 1 = true) → Completes .aonSecondsCopy s (fun t =>
    t.time = { s.time with aon := s.secs, aonClk := s.time.clk })) ∧
  (∀ (s : State) c, s.on F.MAINS_CTRL_EN = true → s.get F.MAINS_CTRL_ABSTHR ≤ c.ampA → Completes (.mainsCrossing c) s (fun t =>
    t.mains.lastX.isSome = true ∧ t.mains.latest.isSome = true)) ∧
  (∀ (s : State) c, s.on F.MAINS_CTRL_EN = true → c.ampA < s.get F.MAINS_CTRL_ABSTHR → s.get F.MAINS_STATUS_STATE = 2 →
    Completes (.mainsCrossing c) s (fun t => t.get F.MAINS_STATUS_STATE = 3 ∧ t.mains.lastX = none ∧ t.leg.cutFrom.isSome = true)) ∧
  (∀ (s : State) x, s.mains.lastX = some x → s.get F.MAINS_STATUS_STATE = 2 → Completes .mainsCrossingTimeout s (fun t =>
    t.get F.MAINS_STATUS_STATE = 3 ∧ t.mains.absentFrom.isSome = true ∧ t.leg.cutFrom.isSome = true)) ∧
  (∀ (s : State) n e, 64 ≤ n → n < 256 → s.tpEnt n = some e → e.period = 0 → (s.tpWait n).isSome = true →
    Completes (.timeplateFire n) s (fun t => t.tpEnt n = none)) ∧
  (∀ (s : State) n a, n < 64 → s.time.agenda = [a] → a.entry = some n → s.time.due = [] →
    Completes (.timeplateFire n) s (fun t => t.time.due = [a.kind] ∧ t.time.agenda = [] ∧ a.t ≤ t.time.dev))

/-! ## Events: ingress and the nine stages -/

/-- R57, R66, R93, R233, R255, R279, R280: a frame of an enabled segment with a good FCS is counted and, where its class is 3 and its region
has room, becomes the region's last item with the next SEQ; a ring's oldest item goes to its region; a protected uplink frame, whole or in
fragments, is counted where MACsec accepts it and counted as bad where it does not; an unprotected one that is no HCP frame is discarded;
a frame of a power-line channel or a demodulator is counted by what became of it. -/
def Obligations.IngressEventsComplete : Prop :=
  (∀ (s : State) (g : Fin 8) frame, bit (s.get F.T1S_CTRL_EN) g = true → s.live (2 + g) = true → frame.length ≤ 1496 →
    Completes (.t1sFrameReceive g frame true) s (fun t => t.geti F.T1S_RXOK g = s.oneMore F.T1S_RXOK g ∧
      (¬ (beAt frame 12 2 = 0x86DD ∧ ndOrEcho (frame.drop 14) = true) →
        ({ medium := 2, port := g, net := 14, frame := frame } : Item).classOf (s.get F.PIPE_GUCOR_UDPPORT) = 3 →
        s.pipe.ring3 = [] → s.regionFits 3 = true → s.overWm 3 = false →
        ∃ x, t.pipe.reg3 = s.pipe.reg3 ++ [x] ∧ x.frame = frame ∧ x.seq = s.pipe.nextSeq ∧ x.stamp = s.time.dev))) ∧
  (∀ (s : State) (g : Fin 8) frame, bit (s.get F.T1S_CTRL_EN) g = true → s.live (2 + g) = true →
    Completes (.t1sFrameReceive g frame false) s (fun t => t.geti F.T1S_RXBAD g = s.oneMore F.T1S_RXBAD g ∧ t.pipe = s.pipe)) ∧
  (∀ (s : State) c i l, 2 ≤ c → c ≤ 3 → s.ring c = i :: l → s.regionFits c = true → Completes (.spillDrain c) s (fun t =>
    t.ring c = l ∧ t.region c = s.region c ++ [{ i with spilled := true }])) ∧
  (∀ (s : State) f b, f.up ≤ 1 → s.geti F.UPLINK_CFG_EN f.up ≠ 0 → s.live f.up = true → s.on F.SYS_STATUS_C0READY = true →
    f.protd = true →
    (f.payload = .frame b ∨ ∃ st x c, f.payload = .part st true true c ∧ b = x ++ c ∧
      (if st = true then some [] else lookupK f.up s.port.mrx) = some x) →
    let r := (s.adv (wireNs (s.upRate f.up) (b.length + 36))).install f.up
    let ip := b.drop 14
    Completes (.uplinkFrameReceive f) s (fun t =>
      if (f.valid && r.rxKey f.up f.knum && r.rxFresh f.up f.knum f.pn) = false then
        t.geti F.UPLINK_RXMSBAD f.up = s.oneMore F.UPLINK_RXMSBAD f.up ∧ t.geti F.UPLINK_RXOK f.up = s.geti F.UPLINK_RXOK f.up
      else if beAt b 12 2 ≠ 0x88F7 ∧ beAt b 12 2 ≠ 0x86DD then
        t.geti F.UPLINK_RXOK f.up = s.oneMore F.UPLINK_RXOK f.up ∧ t.time.uplOther = s.time.uplOther + 1
      else beAt b 12 2 = 0x86DD → ¬ (beAt ip 6 1 = 17 ∧ (beAt ip 42 2 = 319 ∨ beAt ip 42 2 = 320)) →
        t.geti F.UPLINK_RXOK f.up = s.oneMore F.UPLINK_RXOK f.up)) ∧
  (∀ (s : State) f b, f.up ≤ 1 → s.geti F.UPLINK_CFG_EN f.up ≠ 0 → s.live f.up = true → s.on F.SYS_STATUS_C0READY = true →
    f.protd = true → f.valid = true → f.payload = .frame b → beAt b 12 2 = 0x88F7 →
    let r := (s.adv (wireNs (s.upRate f.up) (b.length + 36))).install f.up
    r.rxKey f.up f.knum = true → r.rxFresh f.up f.knum f.pn = true →
    (b.length < 14 + 44 ∨ beAt b 15 1 % 16 ≠ 2) →
    Completes (.uplinkFrameReceive f) s (fun t => t.geti F.UPLINK_RXOK f.up = s.oneMore F.UPLINK_RXOK f.up ∧
      t.time.ptpIgnored = s.time.ptpIgnored + 1)) ∧
  (∀ (s : State) f b, f.up ≤ 1 → s.geti F.UPLINK_CFG_EN f.up ≠ 0 → s.live f.up = true → s.on F.SYS_STATUS_C0READY = true →
    f.protd = false → f.payload = .frame b → s.upHcp f.up b = none →
    Completes (.uplinkFrameReceive f) s (fun t => t.geti F.UPLINK_RXUNPROT f.up = s.oneMore F.UPLINK_RXUNPROT f.up ∧
      t.port.hcpIn = s.port.hcpIn)) ∧
  (∀ (s : State) f, f.up ≤ 1 → s.geti F.UPLINK_CFG_EN f.up ≠ 0 → s.live f.up = true → s.on F.SYS_STATUS_C0READY = true →
    f.payload = .verify → bit (s.get F.QOS_CTRL_PREEMPT) f.up = true →
    Completes (.uplinkFrameReceive f) s (fun t => (lookupK f.up t.port.out).map (fun x => x.body) = some (.mpkt 1))) ∧
  (∀ (s : State) f, f.ch ≤ 5 → s.plcRuns f.ch = true → s.plcBlanked (f.ch / 2) = false →
    Completes (.plcFrameReceive f) s (fun t =>
      if f.kind = .other then lookupK f.ch t.plc.unsup = some ((lookupK f.ch s.plc.unsup).getD 0 + 1)
      else if f.ok = false then t.geti F.PLC_FBAD f.ch = s.oneMore F.PLC_FBAD f.ch
      else if (f.secured && !s.hasGmk f.ch) = true then t.geti F.PLC_NOKEY f.ch = s.oneMore F.PLC_NOKEY f.ch
      else t.geti F.PLC_FOK f.ch = s.oneMore F.PLC_FOK f.ch)) ∧
  (∀ (s : State) f, f.dm ≤ 31 → s.on F.RADIO_CTRL_RXEN = true → s.geti F.RADIO_DMCFG_EN f.dm ≠ 0 → s.live 13 = true →
    s.radio.rows.contains (s.geti F.RADIO_DMCFG_ROW f.dm) = true → bit (s.rowField (s.geti F.RADIO_DMCFG_ROW f.dm) 4 1) 0 = true →
    bit (s.rowField (s.geti F.RADIO_DMCFG_ROW f.dm) 4 1) (2 + s.geti F.RADIO_DMCFG_MODE f.dm) = true →
    Completes (.radioFrameReceive f) s (fun t =>
      if f.blanked = true then t.get F.RADIO_BLANK = s.oneMore F.RADIO_BLANK 0
      else if s.rfBlanked = true then t.pipe = s.pipe
      else if f.missed = true then t.get F.RADIO_MISS = s.oneMore F.RADIO_MISS 0
      else if f.crc = false ∨ 1496 < f.frame.length then t.get F.RADIO_FBAD = s.oneMore F.RADIO_FBAD 0
      else t.get F.RADIO_FOK = s.oneMore F.RADIO_FOK 0))

/-- R65 to R75, R115, R216, stages 1 to 4: the oldest item of a region is taken where no lower class waits, is discarded or flushes its region
where its words fail their check; an item passes stage 2 under a free counter or ends there, finds its slot at stage 3, opens at stage 4 with
what the population gave it, or ends with the stage's outcome when its turn has come; a deferred item whose keys are back goes through stage 1
again. -/
def Obligations.EarlyStagesComplete : Prop :=
  (∀ (s : State) c i l, c ≤ 3 → s.region c = i :: l → (c = 0 ∨ (s.on F.SYS_STATUS_FULLREADY = true ∧ s.workFits = true)) →
    (List.range c).any (fun k => !(s.region k).isEmpty) = false →
    Completes (.ingressAndClassSorting c) s (fun t =>
      match ((s.setRegion c l).qTake c ((s.region c).map Item.len)).2 with
      | .fine => t.region c = l ∧ (c ≠ 0 → ∀ w, s.recognised i = .ok w → w ∈ t.pipe.work) ∧
          (c = 0 → i.len ≤ 256 → itemWords s.pipe.distQ + 33 ≤ queueWords 5 → t.pipe.distQ = s.pipe.distQ ++ [i])
      | .discard => t.region c = l ∧ t.pipe.work = s.pipe.work
      | .flush => t.region c = [] ∧ t.pipe.work = s.pipe.work)) ∧
  (∀ (s : State) seq w n, s.atStage 2 seq w →
    ((s.candidates w.ident).1 = n ∨ (s.holds (s.candidates w.ident).1 w.ident = false ∧ (s.candidates w.ident).2 = n)) →
    s.holds n w.ident = true →
    Completes (.duplicateSuppression seq) s (fun t =>
      if s.meter.lostRec.contains n = false ∧ (s.mrec n).window (w.widen (s.mrec n).h) = none then
        (t.workOf seq).map (fun x => (x.stage, x.wide, x.tested)) = some (2, w.widen (s.mrec n).h, true)
      else w.authentic = false → s.blocked w = false → t.workOf seq = none)) ∧
  (∀ (s : State) seq w, s.atStage 2 seq w → s.holds (s.candidates w.ident).1 w.ident = false →
    s.holds (s.candidates w.ident).2 w.ident = false →
    Completes (.duplicateSuppression seq) s (fun t => (t.workOf seq).map (fun x => x.stage) = some 2)) ∧
  (∀ (s : State) seq w, s.atStage 3 seq w → Completes (.meterSlotLookup seq) s (fun t =>
    match s.findSlot w.ident with
    | some (n, _) =>
      if s.meter.lostRec.contains n = false ∧ (s.mrec n).state ≠ 6 then
        (t.workOf seq).map (fun x => (x.stage, x.slot, x.held, x.pop)) = some (3, some n, lifeOutcome (s.mrec n).state, some (s.popOf n))
      else w.authentic = false → s.blocked w = false → t.workOf seq = none
    | none => w.authentic = false → s.blocked w = false → t.workOf seq = none)) ∧
  (∀ (s : State) seq w, s.atStage 4 seq w → Completes (.keyDerivationAndDecryption seq) s (fun t =>
    match s.stage4 w (s.popAt w) with
    | .pass o => (t.workOf seq).map (fun x => (x.stage, x.authentic, x.plain, x.sig, x.signed)) =
        some (4, authProfile (s.popAt w).profile, o.plain, o.sig, o.signed)
    | .out _ => w.authentic = false → s.blocked w = false → t.workOf seq = none
    | .defer => s.deferUsed + w.item.len ≤ 34359738368 → w.item ∈ t.pipe.defer)) ∧
  (∀ (s : State) i, s.pipe.defer.find? s.itemReady = some i → s.keysBack = true → s.ring i.cls = [] → s.regionFits i.cls = true →
    (i.cls ≤ 1 ∨ s.overWm i.cls = false) →
    Completes .deferralReplay s (fun t => t.pipe.defer = s.pipe.defer.erase i ∧ t.pipe.nextSeq = s.pipe.nextSeq + 1 ∧
      s.time.clk + 8000 ≤ t.time.clk))

/-- R76 to R79, R98, stage 5: an item without a signature passes, one without the right key or with a refused encoding ends, an ECDSA item
passes or ends by its own verification once no lower class waits for an engine, an Ed25519 item joins a batch, a batch closes with its
coefficients, and a verified batch is gone. -/
def Obligations.SignatureStageCompletes : Prop :=
  (∀ (s : State) seq w, s.atStage 5 seq w → w.alg (s.popAt w).profile = 0 →
    Completes (.signatureVerification seq) s (fun t => (t.workOf seq).map (fun x => x.stage) = some 5)) ∧
  (∀ (s : State) seq w, s.atStage 5 seq w → w.alg (s.popAt w).profile ≠ 0 →
    (w.keyCheck (s.popAt w).pkey (w.alg (s.popAt w).profile)).isSome = true ∨ sigRefused (w.alg (s.popAt w).profile) w.sig = true →
    Completes (.signatureVerification seq) s (fun t => w.authentic = false → s.blocked w = false → t.workOf seq = none)) ∧
  (∀ (s : State) seq w alg, s.atStage 5 seq w → w.alg (s.popAt w).profile = alg → alg ≠ 0 → alg ≠ 1 →
    w.keyCheck (s.popAt w).pkey alg = none → sigRefused alg w.sig = false → s.burinRuns = true → s.burinBefore w.item.cls = false →
    Completes (.signatureVerification seq) s (fun t =>
      if sigVerify alg (s.popAt w).pkey w.signed w.sig = true then
        (t.workOf seq).map (fun x => (x.stage, x.authentic)) = some (5, w.authentic || (s.popAt w).profile == 5)
      else w.authentic = false → s.blocked w = false → t.workOf seq = none)) ∧
  (∀ (s : State) seq w, s.atStage 5 seq w → w.alg (s.popAt w).profile = 1 →
    w.keyCheck (s.popAt w).pkey 1 = none → sigRefused 1 w.sig = false → s.burinRuns = true →
    Completes (.signatureVerification seq) s (fun t => t.pipe.batches.any (fun b => b.seqs.contains seq) = true)) ∧
  (∀ (s : State) c b, s.pipe.batches.find? (fun x => x.cls == c && !x.closed) = some b → s.on F.PWR_STATUS_WARN = false →
    s.on F.PIPE_CTRL_EN = true →
    Completes (.batchClose c) s (fun t => (∀ x ∈ t.pipe.batches, x.id = b.id → x.closed = true ∧ x.coef.length = 1024) ∧
      b.openAt + s.get F.BURIN_BWAIT_US * 1000 ≤ t.time.clk)) ∧
  (∀ (s : State) id b, s.pipe.batches.find? (fun x => x.id == id) = some b → b.closed = true → s.burinRuns = true →
    s.on F.PIPE_CTRL_EN = true → s.burinBefore b.cls = false →
    Completes (.batchVerifyComplete id) s (fun t =>
      t.pipe.batches.find? (fun x => x.id == id) = none ∧ t.get F.BURIN_BATCH = s.oneMore F.BURIN_BATCH 0))

/-- R81 to R92, stages 6 to 9, and R96: an item is parsed, validated, committed with its notes, and leaves with its acknowledgement; one that
a stage ends, when its turn has come, carries its outcome on to stage 8 if it is authentic; quarantine entries leave after their days. -/
def Obligations.LateStagesComplete : Prop :=
  (∀ (s : State) seq w, s.atStage 6 seq w → Completes (.parsing seq) s (fun t =>
    match s.parse w with
    | .ok r => match w.held with
      | none => (t.workOf seq).map (fun x => (x.stage, x.reading, x.outcome)) = some (6, some r, none)
      | some h => s.blocked w = false → w.authentic = true → (t.workOf seq).map (fun x => x.outcome) = some (some h)
    | .error c => s.blocked w = false → w.authentic = true → (t.workOf seq).map (fun x => x.outcome) = some (some c))) ∧
  (∀ (s : State) seq w, s.atStage 7 seq w → Completes (.validation seq) s (fun t =>
    match (if s.meter.lostRec.contains (w.slot.getD 0) = true then some 0x80
      else s.validate w (s.popAt w) (s.mrec (w.slot.getD 0)) (w.reading.getD { rt := w.item.stamp })) with
    | none => (t.workOf seq).map (fun x => (x.stage, x.outcome)) = some (7, none)
    | some c => s.blocked w = false → w.authentic = true → (t.workOf seq).map (fun x => x.outcome) = some (some c))) ∧
  (∀ (s : State) seq w, s.atStage 8 seq w → s.blocked w = false → s.legalWaits = false → s.handWaits = false →
    let again := if s.reruns w (w.slot.getD 0) = true then s.rerun w (w.slot.getD 0) else (none, none)
    (again.2.isSome && !s.burinRuns) = false → s.recheck8 w (w.slot.getD 0) again.1 = none →
    Completes (.commit seq) s (fun t =>
      (t.workOf seq).map (fun x => (x.stage, x.outcome)) = some (8, some w.notes) ∧
      t.pipe.series = s.pipe.series ++
        [⟨s.pipe.serN, w.slot.getD 0, w.wide.toNat, w.reading.getD { rt := w.item.stamp }, s.time.dev, w.item.stamp,
          w.lastgasp && w.authentic, (s.mrec (w.slot.getD 0)).kept, w.apdu, s.time.clk⟩] ∧
      (t.mrec (w.slot.getD 0)).ct = s.time.dev)) ∧
  (∀ (s : State) seq w c, s.atStage 8 seq w → s.blocked w = false → s.legalWaits = false → s.handWaits = false →
    s.reruns w (w.slot.getD 0) = false → s.recheck8 w (w.slot.getD 0) none = some c → w.authentic = true → c ≠ 0x30 →
    (c < 0x41 ∨ 0x60 ≤ c) →
    Completes (.commit seq) s (fun t => (t.workOf seq).map (fun x => (x.stage, x.outcome)) = some (8, some c) ∧
      t.pipe.series = s.pipe.series)) ∧
  (∀ (s : State) seq w c, s.on F.PIPE_CTRL_EN = true → s.on F.PWR_STATUS_WARN = false → s.workOf seq = some w → w.outcome = some c →
    w.stage < 8 → (w.lastgasp && s.legalWaits) = false →
    Completes (.commit seq) s (fun t => (t.workOf seq).map (fun x => (x.stage, x.outcome)) = some (8, some c) ∧
      t.pipe.series = s.pipe.series)) ∧
  (∀ (s : State) seq w c, s.on F.PIPE_CTRL_EN = true → s.workOf seq = some w → w.outcome = some c → w.stage = 8 →
    Completes (.acknowledgement seq) s (fun t => t.workOf seq = none)) ∧
  (∀ (s : State) q l, s.pipe.quar = q :: l → Completes .quarantineExpire s (fun t =>
    (∃ x ∈ s.pipe.quar, x.secs + s.get F.PIPE_QCFG_DAYS * 86400 ≤ t.secs) ∧
    t.pipe.quar = s.pipe.quar.filter (fun x => decide (t.secs < x.secs + s.get F.PIPE_QCFG_DAYS * 86400))))

/-! ## Events: egress, the power-line modem, the radio -/

/-- R27, R205, R211, R216, R218, R219, R279, R280: a spilled packet goes to its queue; the packet at the head of an uplink's or a segment's
queues leaves on its medium, counted and stamped, an uplink's under the next packet number where it is protected and not at all without an
association or a next hop; a suspended frame goes on; a verification sets or clears PREACT; C0FAULT ends. -/
def Obligations.EgressEventsComplete : Prop :=
  (∀ (s : State) p c pk rest, p < 14 → 2 ≤ c → c ≤ 3 → (s.egq (14 + 4 * p + c)).ring = pk :: rest → (s.egq (14 + 4 * p + c)).wait = [] →
    s.port.sub = none → pktsWords (s.egq (14 + 4 * p + c)).q + pktWords 1536 ≤ queueWords (14 + 4 * p + c) →
    Completes (.egressSpillDrain p c) s (fun t => (t.egq (14 + 4 * p + c)).ring = rest ∧
      (t.egq (14 + 4 * p + c)).q.length = (s.egq (14 + 4 * p + c)).q.length + 1)) ∧
  (∀ (s : State) u pk, u ≤ 1 → s.geti F.UPLINK_CFG_EN u ≠ 0 → s.geti F.UPLINK_STATUS_LINK u ≠ 0 → s.live u = true → s.bcDue u = s →
    (s.headCls u).isSome = true → (s.headCls u = some 0 ∨ s.suspended u = none) →
    let r := s.upReady u (s.headCls u == some 0)
    (r.egTake u ((s.headCls u).getD 0)).2 = some pk →
    Completes (.uplinkTransmit u) s (fun t =>
      match s.hopOf u pk.body with
      | some hop =>
        if (pk.body.prot && !((r.install u).sec u).installed) = true then t.geti F.UPLINK_TXOK u = s.geti F.UPLINK_TXOK u
        else t.geti F.UPLINK_TXOK u = s.oneMore F.UPLINK_TXOK u ∧
          (lookupK u t.port.out).map (fun x => (x.cls, x.hop)) = some (pk.cls, hop) ∧
          ((∀ d x, pk.body ≠ .ptp d x) → (lookupK u t.port.out).map (fun x => x.body) = some pk.body) ∧
          (pk.body.prot = true → (t.sec u).tx = ((r.install u).sec u).tx + 1)
      | none => t.geti F.UPLINK_TXOK u = s.geti F.UPLINK_TXOK u)) ∧
  (∀ (s : State) u f, u ≤ 1 → s.geti F.UPLINK_CFG_EN u ≠ 0 → s.geti F.UPLINK_STATUS_LINK u ≠ 0 → s.live u = true → s.bcDue u = s →
    s.headCls u ≠ some 0 → s.suspended u = some f →
    Completes (.uplinkTransmit u) s (fun t => ∃ g ∈ t.port.fly, g.up = u ∧ g.susp = false ∧ g.len = f.len ∧ g.before = f.before)) ∧
  (∀ (s : State) g pk, g ≤ 7 → bit (s.get F.T1S_CTRL_EN) g = true → s.live (2 + g) = true →
    (s.headCls (2 + g)).isSome = true → (s.egTake (2 + g) ((s.headCls (2 + g)).getD 0)).2 = some pk →
    Completes (.plcaOpportunity g) s (fun t => s.oneMore F.T1S_TXOK g ≤ t.geti F.T1S_TXOK g ∧
      s.time.clk + wireNs 10000000 (8 + pk.len + 12) ≤ t.time.clk ∧
      (s.geti F.T1S_PLCA_MAXBC g = 0 → t.geti F.T1S_TXOK g = s.oneMore F.T1S_TXOK g ∧
        (lookupK (2 + g) t.port.out).map (fun x => (x.cls, x.body, x.len)) = some (pk.cls, pk.body, pk.len)))) ∧
  (∀ (s : State) u good, u ≤ 1 → bit (s.get F.QOS_CTRL_PREEMPT) u = true → s.on F.QOS_CTRL_VERIFY = true →
    Completes (.preemptVerify u good) s (fun t => bit (t.get F.QOS_STATUS_PREACT) u = good)) ∧
  (∀ (s : State) x, s.port.c0Fault = some x → Completes .c0faultEnd s (fun t =>
    t.get F.QOS_STATUS_C0FAULT = 0 ∧ t.port.c0Fault = none ∧ x ≤ t.time.clk))

/-- R225, R226, R230, R231, R233, R239, R242, R246, R247: the power-line modem's events: a join is accepted under its PSK with a free short
address or refused; a datagram not complete times out; a driver fault comes and goes; a channel's 16 masks are rebuilt; a neighbour's period
ends with or without a beacon, the third missed one makes it unreachable; a discovery ends; a frame without a route is discarded in the end;
the frame at the head of a phase leaves in a permitted segment, or waits for a route. -/
def Obligations.PlcEventsComplete : Prop :=
  (∀ (s : State) j slot via, j.ch ≤ 5 → s.plcRuns j.ch = true → s.hasGmk j.ch = true → s.findSlot j.ident = some (slot, via) →
    (s.mrec slot).state ≠ 6 → s.pskOf (s.mrec slot).seed j.ident = some j.psk →
    (s.plc.nodes.filter (fun n => n.ch == j.ch && n.ident != j.ident)).length < 16384 →
    Completes (.plcJoin j) s (fun t => ∃ n ∈ t.plc.nodes, n.ch = j.ch ∧ n.ident = j.ident ∧ n.slot = slot ∧
      ∀ m ∈ t.plc.nodes, m.ch = j.ch → m.saddr = n.saddr → m = n)) ∧
  (∀ (s : State) j, j.ch ≤ 5 → s.plcRuns j.ch = true →
    (s.hasGmk j.ch = false ∨ s.findSlot j.ident = none ∨ ∃ slot via, s.findSlot j.ident = some (slot, via) ∧
      ((s.mrec slot).state = 6 ∨ s.pskOf (s.mrec slot).seed j.ident ≠ some j.psk)) →
    Completes (.plcJoin j) s (fun t => t.plc.nodes = s.plc.nodes)) ∧
  (∀ (s : State) ch tag, ch ≤ 5 → s.plc.reasm.any (fun d => d.ch == ch && d.tag == tag) = true →
    Completes (.reassemblyTimeout ch tag) s (fun t =>
      t.geti F.PLC_REASM ch = s.oneMore F.PLC_REASM ch ∧ t.plc.reasm.length + 1 = s.plc.reasm.length)) ∧
  (∀ (s : State) p, p ≤ 2 → bit (s.get F.PLC_STATUS_DRVFAULT) p = false → Completes (.driverFault p) s (fun t =>
    bit (t.get F.PLC_STATUS_DRVFAULT) p = true)) ∧
  (∀ (s : State) p, p ≤ 2 → s.forces 31 p = false → Completes (.driverFaultClear p) s (fun t =>
    bit (t.get F.PLC_STATUS_DRVFAULT) p = false)) ∧
  (∀ (s : State) ph b ch, ph ≤ 2 → b ≤ 1 → ch = 2 * ph + b → s.plcRuns ch = true → s.on F.PLC_CTRL_HATCH_EN = true →
    s.get F.MAINS_STATUS_STATE = 2 → Completes (.maskPublish ph b) s (fun t => lookupK ch t.plc.masksAt = some t.time.clk ∧
      lookupK ch t.plc.masks = some ((List.range 16).map (t.buildMask ch)) ∧ (∀ k, t.buildMask ch k ≠ 0) ∧
      ∀ x, lookupK ch s.plc.masksAt = some x → x + 10 * nsS ≤ t.time.clk)) ∧
  (∀ (s : State) ch a n, s.plcNode ch a = some n → n.nbr = true → s.plcRuns ch = true →
    Completes (.neighbourPeriod ch a) s (fun t => n.since + s.get F.PLC_NBR_PERIOD * nsS ≤ t.time.clk ∧
      (t.plcNode ch a).map (fun x => (x.heard, x.link.missed)) =
        some (false, if n.heard = true then n.link.missed else min 3 (n.link.missed + 1)) ∧
      (n.heard = false → n.link.missed = 2 → (t.plcNode ch a).map (fun x => bit x.link.lflags 4) = some true))) ∧
  (∀ (s : State) ch d n hop cost hops, s.plcNode ch d = some n → Completes (.routeFound ch d (some (hop, cost, hops))) s (fun t =>
    (t.plcNode ch d).map (fun x => (x.route, x.finding, x.link.nexthop, x.link.rcost, x.link.hops)) =
      some (true, false, hop, min 65535 cost, hops) ∧
    t.plc.waitR = s.plc.waitR.filter (fun w => !(w.ch == ch && w.dest == d)))) ∧
  (∀ (s : State) ch d n, s.plcNode ch d = some n → Completes (.routeFound ch d none) s (fun t =>
    (t.plcNode ch d).map (fun x => (x.route, x.finding)) = some (n.route, false))) ∧
  (∀ (s : State) ch d, ch ≤ 5 → s.plc.waitR.any (fun w => w.ch == ch && w.dest == d) = true →
    Completes (.norouteTimeout ch d) s (fun t =>
      t.geti F.PLC_NOROUTE ch = s.oneMore F.PLC_NOROUTE ch ∧ t.plc.waitR.length + 1 = s.plc.waitR.length)) ∧
  (∀ (s : State) ph c pk, ph ≤ 2 → bit (s.get F.PLC_CTRL_TXEN) ph = true → s.live (10 + ph) = true →
    bit (s.get F.PLC_STATUS_DRVFAULT) ph = false → s.headCls (10 + ph) = some c →
    let a := s.advTo (match lookupK ph s.plc.tx with | some x => x.stop + 20000 | none => 0)
    let r := match a.nextSegment ph with | some x => a.advAngle x | none => a
    (r.egTake (10 + ph) c).2 = some pk →
    Completes (.plcTransmit ph) s (fun t =>
      if (pk.body.slot?.map (fun slot => (s.plcRoute c pk slot).2.2)).getD true = true then
        t.geti F.PLC_TXOK ph = s.oneMore F.PLC_TXOK ph ∧ r.time.clk ≤ t.time.clk ∧
        (lookupK (10 + ph) t.port.out).map (fun x => (x.cls, x.chan, x.len, x.plc.isSome)) = some (pk.cls, pk.chan, pk.len, true)
      else t.geti F.PLC_TXOK ph = s.geti F.PLC_TXOK ph ∧ ∃ w ∈ t.plc.waitR, w.pkt = pk ∧ w.ch = pk.chan))

/-- R237, R271, R467: corrections between frames take their value, and requested calibrations and self-tests end. -/
def Obligations.CalibrationEventsComplete : Prop :=
  (∀ (s : State) ch v, ch ≤ 5 → s.plcRuns ch = true → Completes (.liveCalibration (.plcOfs ch v)) s (fun t =>
    t.geti F.PLC_CALST_OFS ch = tc 2 v)) ∧
  (∀ (s : State) ch v, ch ≤ 5 → s.plcRuns ch = true → Completes (.liveCalibration (.plcGain ch v)) s (fun t =>
    t.geti F.PLC_CALST_GAIN ch = tc 2 v)) ∧
  (∀ (s : State) p v, p ≤ 1 → s.on F.RADIO_CTRL_RXEN = true → Completes (.liveCalibration (.iqGain p v)) s (fun t =>
    t.geti F.RADIO_CALST_IQGAIN p = tc 2 v)) ∧
  (∀ (s : State) p v, p ≤ 1 → s.on F.RADIO_CTRL_RXEN = true → Completes (.liveCalibration (.iqPhase p v)) s (fun t =>
    t.geti F.RADIO_CALST_IQPHASE p = tc 2 v)) ∧
  (∀ (s : State) idle v, s.refTarget = some v → Completes (.reffreqApply idle) s (fun t =>
    t.get F.RADIO_REFOFS_PPB = tc 3 (if idle = true then v else (s.advTo (max s.time.clk s.radio.txEnd)).refStep v) ∧
    t.get F.RADIO_REFOFS_FROMPTP = b2n (s.get F.TIME_STATUS_STATE == 2) ∧ s.radio.txEnd ≤ t.time.clk)) ∧
  (∀ (s : State) run x pass, s.runAt run = some x → run ≠ .burin →
    (x + 600 * nsS < s.time.clk ∨ (s.on F.PWR_STATUS_WARN = false ∧ s.idleGap run = true)) →
    Completes (.calSlice run (.done pass true)) s (fun t => t.runAt run = none)) ∧
  (∀ (s : State) x pass last, s.runAt .burin = some x → s.time.clk ≤ x + 600 * nsS → s.on F.PWR_STATUS_WARN = false →
    s.idleGap .burin = true →
    Completes (.calSlice .burin (.done pass last)) s (fun t => t.fault.engine = s.fault.engine + 1 ∧
      (23 ≤ s.fault.engine → t.runAt .burin = none))) ∧
  (∀ (s : State) run x, s.runAt run = some x → Completes (.calAbandon run) s (fun t => t.runAt run = none ∧ x + 600 * nsS ≤ t.time.clk))

/-- R260, R263, R264, R266, R267, R269: a frame at the head of the transmitter listens, waits for the demodulators, is deferred by dwell, or is
not sendable; a busy window brings a backoff and a clear one sends; a backoff and the wait for the demodulators end; the accumulators age; a sleeper's frame is
entered for its window, lapses, or meets no reply. -/
def Obligations.RadioEventsComplete : Prop :=
  (∀ (s : State) pk, s.radioTx = true → (s.radio.head = none ∨ (s.radio.phase ≠ 1 ∧ s.radio.phase ≠ 2)) → s.headPkt 13 = some pk →
    Completes .radioTransmit s (fun t => s.radio.txEnd ≤ t.time.clk ∧
      if s.stale pk = true then t.radio.head = none
      else match s.radioRoute pk with
      | .error _ => t.get F.RADIO_TXNONE = s.oneMore F.RADIO_TXNONE 0 ∧ t.radio.head = none
      | .ok (row, _, air) =>
        if (s.rowField row 16 4 - (if pk.cls = 0 then 0 else s.rowField row 20 4)) * 1000 < s.hourUse row + air then
          t.radio.phase = 3 ∧ t.radio.head = some (pk, row, air)
        else s.rowField row 8 2 ≠ 0 → t.radio.head = some (pk, row, air) ∧ (t.radio.phase = 1 ∨ (t.radio.phase = 0 ∧ pk.cls ≠ 0)))) ∧
  (∀ (s : State) pk row air level, s.radio.head = some (pk, row, air) → s.radio.phase = 1 → ofTc 1 (s.rowField row 6 1) < level →
    Completes (.lbtWindowEnd level) s (fun t => t.radio.phase = 2 ∧ t.get F.RADIO_LBTBUSY = s.oneMore F.RADIO_LBTBUSY 0 ∧
      t.time.clk + s.rowField row 10 2 * 1000 ≤ t.radio.phaseEnd)) ∧
  (∀ (s : State) pk row air level, s.radio.head = some (pk, row, air) → s.radio.phase = 1 → level ≤ ofTc 1 (s.rowField row 6 1) →
    Completes (.lbtWindowEnd level) s (fun t => t.radio.phase = 0 ∧ t.radio.head = none ∧ s.radio.phaseEnd ≤ t.time.clk)) ∧
  (∀ (s : State) h row air level c pk, s.radio.head = some (h, row, air) → s.radio.phase = 1 → level ≤ ofTc 1 (s.rowField row 6 1) →
    s.headCls 13 = some c → ((s.advTo s.radio.phaseEnd).egTake 13 c).2 = some pk → s.attemptOf pk = none →
    Completes (.lbtWindowEnd level) s (fun t => match s.radioRoute pk with
      | .ok x => t.get F.RADIO_TXOK = s.oneMore F.RADIO_TXOK 0 ∧ t.radio.txEnd = t.time.clk + x.2.2 * 1000 ∧
          (lookupK 13 t.port.out).map (fun y => (y.cls, y.body, y.len)) = some (pk.cls, pk.body, pk.len)
      | .error _ => t.get F.RADIO_TXOK = s.get F.RADIO_TXOK)) ∧
  (∀ s : State, s.radio.head.isSome = true → s.radio.phase = 2 → Completes .lbtBackoffEnd s (fun t =>
    t.radio.phase ≠ 2 ∧ s.radio.phaseEnd ≤ t.time.clk)) ∧
  (∀ (s : State) pk row air, s.radio.head = some (pk, row, air) → s.radio.phase = 0 → s.rowField row 8 2 ≠ 0 →
    Completes .demodulatorWaitExpire s (fun t => t.radio.phase = 1 ∧ s.radio.phaseEnd ≤ t.time.clk)) ∧
  (∀ s : State, Completes .dwellMinute s (fun t => t.radio.minute = s.radio.minute + 60 * nsS ∧
    (s.radio.head = none → t.radio.dwell = s.radio.dwell.map (fun e => (e.1, (0 :: e.2).take 61))))) ∧
  (∀ (s : State) slot, s.sleepers slot ≠ [] → (s.mrec slot).sleeper = true → bit (s.mrec slot).radio.slflags 0 = true →
    bit (s.mrec slot).radio.slflags 1 = false → s.radio.tries.any (fun a => a.slot == slot) = false →
    Completes (.sleeperWindow slot) s (fun t =>
      t.radio.tries.any (fun a => a.slot == slot && !a.sent) = true ∨ bit (t.mrec slot).radio.slflags 1 = true)) ∧
  (∀ (s : State) slot, s.radio.tries.any (fun a => a.slot == slot && !a.sent) = true → Completes (.sleeperAttemptLapse slot) s (fun t =>
    t.radio.tries = s.radio.tries.filter (fun a => a.slot != slot))) ∧
  (∀ (s : State) slot, s.radio.tries.any (fun a => a.slot == slot && a.sent) = true → Completes (.sleeperReplyTimeout slot) s (fun t =>
    t.radio.tries = s.radio.tries.filter (fun a => a.slot != slot) ∧ t.get F.RADIO_SLMISS = s.oneMore F.RADIO_SLMISS 0))

/-! ## Events: balance, distribution -/

/-- A committed reading leaves the inbox, and, while the engine runs, gives its slot the mean power since the reading before it; a boundary
of the interval grid is processed once device time has reached it: the first opens the interval that ends at it, and with the engine stopped
it only counts as the last one; a node of an open interval gets its provisional result, and then its final one; a localisation leaves its
queue and gives its node the suspects; results leave after their days. -/
def Obligations.BalanceEventsComplete : Prop :=
  (∀ (s : State) x l, s.bal.inbox = x :: l → s.port.poison = [] → Completes .balanceReading s (fun t => t.bal.inbox = l ∧
    ∀ p, s.balRuns = true → x.prev = some p → (x.rd.imp.isSome || x.rd.exp.isSome) = true → p < x.rd.rt →
      (t.mrec x.slot).bal.rate = rateOf p x.rd.rt x.nets.1 x.nets.2)) ∧
  (∀ (s : State) b, s.balRuns = true → s.bal.lastInst < b → s.onGrid s.balLen b = true → Completes (.balanceInstant b) s (fun t =>
    b * nsS ≤ t.time.dev ∧ (s.bal.lastInst = 0 → t.bal.lastInst = b ∧ ∃ o ∈ t.bal.opens, o.t = b))) ∧
  (∀ (s : State) b, s.on F.BAL_CTRL_EN = false → s.bal.lastInst < b → s.onGrid s.balLen b = true → Completes (.balanceInstant b) s (fun t =>
    b * nsS ≤ t.time.dev ∧ t.bal = { s.bal with lastInst := b })) ∧
  (∀ (s : State) node b o n, s.openAt b = some o → s.anyNode node = some n → s.balRuns = true → (o.refOf node).isSome = true →
    o.prov.any (fun p => p.1 == node) = false →
    Completes (.provisionalResult node b) s (fun t => (t.openAt b).map (fun y => y.prov) = some (o.prov ++ [(node, 0)]))) ∧
  (∀ (s : State) node b o n, s.openAt b = some o → s.anyNode node = some n → s.balRuns = true → (o.refOf node).isSome = true →
    o.fin.contains node = false → s.bal.opens.any (fun x => decide (x.t < b) && (x.refOf node).isSome && !x.fin.contains node) = false →
    Completes (.intervalFinal node b) s (fun t => t.bal.results.length = s.bal.results.length + 1 ∧
      ∃ y ∈ t.bal.results, y.node = node ∧ y.t = b ∧ bit y.rflags 0 = true)) ∧
  (∀ (s : State) node, s.bal.locq.head? = some node → Completes (.localisation node) s (fun t => t.bal.locq = s.bal.locq.drop 1 ∧
    ∀ n, s.node node = some n → (t.node node).map (fun x => x.susp) = some (s.suspects 8 node))) ∧
  (∀ (s : State) b l, s.bal.results = b :: l → Completes .resultExpire s (fun t =>
    b.t + s.get F.BAL_RETAIN_DAYS * 86400 ≤ t.secs ∧
    t.bal.results = s.bal.results.filter (fun x => decide (t.secs < x.t + s.get F.BAL_RETAIN_DAYS * 86400))))

/-- The post awaited gets its RESUME and leaves the resume queue with CURT 1. The oldest item that stage 1 handed over leaves its queue, and
one that opens under its post's key with the acknowledgement of the latest command sets CURT 2, or 0 without limit for a RESUME. A post that
waits for an acknowledgement in vain is sent its command again, or after the last retry shows CURT 3; a limit is refreshed; a changed post
table entry is written to the mirror. A calendar push is repeated, and given up after its last retry. A target's report leaves its queue, and
one that answers a push sets PSTATE. A round of a campaign goes out, and after the rounds what is missing is repaired; the arming instant arms
a running campaign while device time is trusted and holds it while not; a target that does not confirm has failed. -/
def Obligations.DistributionEventsComplete : Prop :=
  (∀ (s : State) p, s.dist.cur.bind s.post = some p → s.on F.DIST_CTRL_CURT_EN = true → Completes .resumeRelease s (fun t =>
    t.dist.rq = s.dist.rq.filter (fun x => x != p.slot) ∧ (t.post p.slot).map (fun x => (x.curt, x.resume, x.waits)) = some (1, true, true))) ∧
  (∀ (s : State) i l, s.pipe.distQ = i :: l → i.len ≤ 256 → s.port.poison = [] → Completes .curtailAck s (fun t => t.pipe.distQ = l ∧
    ∀ e n p recs v, i.recognise (s.get F.PIPE_GUCOR_UDPPORT) = .gucor e n → s.dist.posts.find? (fun p => p.ident == beAt e 4 8) = some p →
      s.ackOpen p e = some recs → recs.find? (fun x => x.1 == 0x92 && x.2.length == 8) = some (0x92, v) → p.cmd = some (beAt v 0 4) →
      (t.post p.slot).map (fun x => (x.curt, x.waits)) = some (if p.resume then 0 else 2, false))) ∧
  (∀ (s : State) slot p, s.post slot = some p → p.waits = true → p.left = 0 → Completes (.curtAckTimeout slot) s (fun t =>
    (t.post slot).map (fun x => (x.waits, x.curt)) = some (false, 3) ∧ p.sentAt + s.get F.DIST_CURT_ACKMS * 1000000 ≤ t.time.clk)) ∧
  (∀ (s : State) slot p, s.post slot = some p → p.waits = true → 0 < p.left → Completes (.curtAckTimeout slot) s (fun t =>
    (t.post slot).map (fun x => (x.waits, x.left)) = some (true, p.left - 1))) ∧
  (∀ (s : State) slot p, s.post slot = some p → p.climit ≠ max32 → s.get F.DIST_CURT_REFRESH ≠ 0 → Completes (.curtRefresh slot) s (fun t =>
    p.refAt ≤ t.time.clk ∧ (t.post slot).map (fun x => (x.refAt, x.waits)) = some (t.time.clk + s.get F.DIST_CURT_REFRESH * nsS, true))) ∧
  (∀ (s : State) slot, s.dist.mdue.contains slot = true → Completes (.postMirrorWrite slot) s (fun t =>
    t.dist.mdue.contains slot = false ∧ t.dist.mirror.filter (fun x => x.slot == slot) = (s.post slot).toList)) ∧
  (∀ (s : State) slot p, s.dist.pushes.find? (fun x => x.slot == slot) = some p → s.on F.DIST_CTRL_PUSH_EN = true → p.left = 0 →
    Completes (.pushRetry slot) s (fun t => t.dist.pushes.any (fun x => x.slot == slot) = false ∧ (t.mrec slot).dist.pstate = 4)) ∧
  (∀ (s : State) slot p, s.dist.pushes.find? (fun x => x.slot == slot) = some p → s.on F.DIST_CTRL_PUSH_EN = true → 0 < p.left →
    Completes (.pushRetry slot) s (fun t => (t.dist.pushes.find? (fun x => x.slot == slot)).map (fun x => x.left) = some (p.left - 1))) ∧
  (∀ (s : State) slot c payload l, s.dist.inbox = (slot, c, payload) :: l → s.port.poison = [] →
    Completes .targetReport s (fun t => t.dist.inbox = l ∧
      ∀ v, records (payload.length + 1) payload = some [(0x90, v)] → v.length = 6 → beAt v 0 4 = (s.mrec slot).dist.pcalid →
        (s.mrec slot).dist.pstate ≠ 0 → beAt v 4 1 ≤ 1 → (t.mrec slot).dist.pstate = 2 + beAt v 4 1)) ∧
  (∀ (s : State) n c, s.camp n = some c → (c.state = 3 ∨ c.state = 4) → c.armed = false → s.on F.DIST_CTRL_CAMP_EN = true →
    c.rounds < s.get F.DIST_CAMP_ROUNDS → Completes (.campRound n) s (fun t => (t.camp n).map (fun x => x.rounds) = some (c.rounds + 1))) ∧
  (∀ (s : State) n c, s.camp n = some c → (c.state = 3 ∨ c.state = 4) → c.armed = false → s.on F.DIST_CTRL_CAMP_EN = true →
    s.get F.DIST_CAMP_ROUNDS ≤ c.rounds → Completes (.campRound n) s (fun t => (t.camp n).map (fun x => (x.rounds, x.miss)) = some (c.rounds, []))) ∧
  (∀ (s s1 : State) n c, s.takeDue (.campArm n) = some s1 → s.camp n = some c → c.state = 3 → c.armed = false →
    s1.on F.DIST_CTRL_CAMP_EN = true → s1.on F.TIME_STATUS_TRUSTED = false →
    Completes (.campArm n) s (fun t => (t.camp n).map (fun x => x.state) = some 4)) ∧
  (∀ (s s1 : State) n c, s.takeDue (.campArm n) = some s1 → s.camp n = some c → c.state = 3 → c.armed = false →
    s1.on F.DIST_CTRL_CAMP_EN = true → s1.on F.TIME_STATUS_TRUSTED = true →
    Completes (.campArm n) s (fun t => (t.camp n).map (fun x => x.armed) = some true)) ∧
  (∀ (s : State) slot c x, s.dist.camps.find? (fun c => c.armed && c.targets.contains slot && decide (c.state < 5)) = some c →
    lookupK slot c.arms = some x → s.cstate slot = 5 → Completes (.campConfirmTimeout slot) s (fun t => t.cstate slot = 7 ∧
      (x + s.get F.DIST_CAMP2_CONFIRM * 60) * nsS ≤ t.time.dev))

/-! ## Events: ports, keys, tamper, storage -/

/-- R294, R300, R301, R303: a transfer untouched for a day is aborted, kept responses expire, a notification is acknowledged, sent again or
dropped. -/
def Obligations.ProtocolEventsComplete : Prop :=
  (∀ (s : State) h, s.port.xfers.any (fun x => x.handle == h && !x.closed) = true → Completes (.transferTimeout h) s (fun t =>
    t.port.xfers.any (fun x => x.handle == h) = false)) ∧
  (∀ s : State, s.port.kept ≠ [] → Completes .responseCacheExpire s (fun t =>
    t.port.kept = s.port.kept.filter (fun k => decide (t.time.clk < k.at_ + s.get F.PORT_HCP_CACHES * nsS)) ∧
    t.port.kept.length < s.port.kept.length)) ∧
  (∀ (s : State) u c q, Completes (.notificationAck u c q) s (fun t =>
    t.port.notifs = s.port.notifs.filter (fun n => !(n.up == u && n.code == c && n.seq == q)))) ∧
  (∀ (s : State) u c q n, s.port.notifs.find? (fun n => n.up == u && n.code == c && n.seq == q) = some n → s.port.sub.isSome = true →
    n.left = 0 → Completes (.notificationTimeout u c q) s (fun t => t.get F.PORT_NDROP = s.oneMore F.PORT_NDROP 0 ∧
      n.sent + s.get F.PORT_HCP_NACKMS * 1000000 ≤ t.time.clk)) ∧
  (∀ (s : State) u c q n, s.port.notifs.find? (fun n => n.up == u && n.code == c && n.seq == q) = some n → s.port.sub.isSome = true →
    0 < n.left → Completes (.notificationTimeout u c q) s (fun t => { n with left := n.left - 1 } ∈ t.port.notifs))

/-- R287 to R289, R426: the five transactions of an SPI port are answered on MISO, an access whose domain failed to run with 0xE1 (R445); a first write to an RWP register is held; the oldest
response that waits at the seal port goes out. -/
def Obligations.SpiTransactionsComplete : Prop :=
  (∀ (s : State) p a, spiPort p = true → s.role p ≠ 0 → s.pwr.noPll = [] → s.pwr.wakeBad = [] → Completes (.spiRead p a) s (fun t =>
    ∃ st w, t.port.miso.head? = some (p, be 1 st ++ be 1 spiDone ++ be 4 w))) ∧
  (∀ (s : State) p a v, spiPort p = true → s.role p ≠ 0 → s.reg.spiHeld = [] → s.pwr.wakeBad.contains (domOfReg a) = true →
    Completes (.spiRead p a) s (fun t => ∃ st, t.port.miso.head? = some (p, be 1 st ++ be 1 spiRefused)) ∧
    ((∀ r i, findReg a = some (r, i) → r.prot ≠ .pair) → Completes (.spiWrite p a v) s (fun t =>
      (∃ st, t.port.miso.head? = some (p, be 1 st ++ be 1 spiRefused)) ∧ t.get F.PORT_SPIREF = s.oneMore F.PORT_SPIREF 0))) ∧
  (∀ (s : State) p a v, spiPort p = true → s.role p ≠ 0 → Completes (.spiWrite p a v) s (fun t =>
    ∃ st d, (d = spiDone ∨ d = spiRefused) ∧ t.port.miso.head? = some (p, be 1 st ++ be 1 d))) ∧
  (∀ (s : State) p a v r i, spiPort p = true → s.role p ≠ 0 → findReg a = some (r, i) → r.prot = .pair →
    s.reg.spiHeld.any (fun h => h.port == p) = false →
    Completes (.spiWrite p a v) s (fun t => t.reg.spiHeld.find? (fun h => h.port == p) = some ⟨p, a, v.toNat, s.time.clk⟩)) ∧
  (∀ (s : State) p, spiPort p = true → s.role p ≠ 0 → Completes (.spiStatus p) s (fun t =>
    ∃ st, t.port.miso.head? = some (p, be 1 st))) ∧
  (∀ (s : State) b, s.role .seal ≠ 0 → Completes (.hcpin .seal b) s (fun t =>
    ∃ st, t.port.miso.head? = some (.seal, be 1 st ++ be 1
      (if Config.sealDepth ≤ (s.port.hcpIn.filter (fun h => h.req.port == .seal)).length then spiRefused else spiDone)))) ∧
  (∀ (s : State) b l, s.role .seal ≠ 0 → s.port.sealOut = b :: l → Completes (.hcpout .seal) s (fun t =>
    t.port.sealOut = l ∧ ∃ st, t.port.miso.head? = some (.seal, be 1 st ++ be 2 b.length ++ b)))

/-- R279, R290, R320, R321: a card is read and taken out, a link changes, a PHY fault comes and goes, a key roll puts the new SAK in force and its
overlap ends. -/
def Obligations.PortEventsComplete : Prop :=
  (∀ (s : State) c, Completes (.sdInsert c) s (fun t => t.port.card = some c)) ∧
  (∀ s : State, s.port.card.isSome = true → Completes (.sdRemove false) s (fun t => t.port.card = none ∧ t.get F.PORT_STATUS_SDBUSY = 0)) ∧
  (∀ s : State, s.port.card.isSome = true → Completes (.sdRemove true) s (fun t => t.get F.PORT_SDERR = s.oneMore F.PORT_SDERR 0)) ∧
  (∀ (s : State) u b, u ≤ 1 → s.geti F.UPLINK_STATUS_LINK u ≠ b2n b → Completes (.linkChange u b) s (fun t =>
    t.geti F.UPLINK_STATUS_LINK u = b2n b)) ∧
  (∀ (s : State) g b, g ≤ 7 → bit (s.get F.T1S_STATUS_PHYFAULT) g ≠ b → Completes (.t1sPhyFault g b) s (fun t =>
    bit (t.get F.T1S_STATUS_PHYFAULT) g = b)) ∧
  (∀ (s s1 : State) u k x, u ≤ 1 → s.takeDue (.keyroll u) = some s1 → (s.sec u).armed = some (k, x) → Completes (.keyrollFire u) s (fun t =>
    match s1.sak u k with
    | some y => t.geti F.UPLINK_KNUM u = k % 2 ^ 32 ∧ (t.sec u).key = y ∧ (t.sec u).armed = none ∧ (t.sec u).tx = 0 ∧
        (t.sec u).old = some (s1.geti F.UPLINK_KNUM u) ∧ (t.sec u).oldEnd = t.time.clk + 60 * nsS
    | none => (t.sec u).armed = none ∧ t.geti F.UPLINK_KNUM u = s1.geti F.UPLINK_KNUM u)) ∧
  (∀ (s : State) u k, u ≤ 1 → (s.sec u).old = some k → Completes (.keyrollOverlapEnd u) s (fun t => (t.sec u).old = none ∧
    (s.sec u).oldEnd ≤ t.time.clk))

/-- R309, R327, R328, R330, R337 to R342: a detector decides on the samples before it, and one that is armed latches and gates the fuses;
one that does not decide, or is not armed, latches nothing; a failed self-test enters flat mode; DRAM is scrubbed piece by piece; refresh is
derated. -/
def Obligations.TamperAndMemoryEventsComplete : Prop :=
  (∀ (s : State) x, s.detectorRuns (detOf x) = true → (∀ f, (s.decides f x).1 = true) → s.pwr.on = true → Completes (.detectorDecide x) s (fun t =>
    if (bit (s.get F.TAMPER_ARM_ARM) (detOf x) || detOf x == 13) = true then t.on F.TAMPER_STATUS_LATCH = true ∧ t.get F.KEY_STATUS_FUSEGATED = 1 ∧
      t.key.gmks = [] ∧ t.port.sec0.installed = false ∧ t.port.sec1.installed = false
    else t.get F.TAMPER_STATUS_LATCH = s.get F.TAMPER_STATUS_LATCH)) ∧
  (∀ (s : State) x, s.detectorRuns (detOf x) = true → (∀ f, (s.decides f x).1 = false) → Completes (.detectorDecide x) s (fun t =>
    t.get F.TAMPER_STATUS_LATCH = s.get F.TAMPER_STATUS_LATCH ∧ t.key = s.key)) ∧
  (∀ (s : State) pass, s.on F.KEY_STATUS_FLAT = false → s.on F.KEY_STATUS_FUSEGATED = false → Completes (.katPeriodic pass) s (fun t =>
    s.key.katAt + 86400 * nsS ≤ t.time.clk ∧
    if pass = true then t.get F.KEY_STATUS_KATOK = 1 else t.get F.KEY_STATUS_FLAT = 1 ∧ t.get F.KEY_STATUS_KATOK = 0)) ∧
  (∀ (s : State) len ce ue, s.on F.DRAM_CTRL_SCRUB_EN = true → s.on F.DRAM_STATUS_TRAINED = true → s.dramBytes ≠ 0 →
    Completes (.dramScrub len ⟨ce, ue⟩) s (fun t =>
      (if s.dramBytes ≤ s.ftl.patrolN + len then
        t.get F.DRAM_STATUS_SCRUBBING = 0 ∧ t.get F.DRAM_SCRUBPASS = s.oneMore F.DRAM_SCRUBPASS 0 ∧ t.ftl.patrolN = 0
      else t.get F.DRAM_STATUS_SCRUBBING = 1 ∧ t.ftl.patrolN = s.ftl.patrolN + len) ∧
      (∀ x, ce = some x → s.ftl.patrolN ≤ x → x < min s.dramBytes (s.ftl.patrolN + len) →
        t.geti F.DRAM_CE_COUNT (Config.dramChannel x % 2) = s.oneMore F.DRAM_CE_COUNT (Config.dramChannel x % 2)) ∧
      (∀ x, ue = some x → s.ftl.patrolN ≤ x → x < min s.dramBytes (s.ftl.patrolN + len) →
        t.geti F.DRAM_UE (Config.dramChannel x % 2) = s.oneMore F.DRAM_UE (Config.dramChannel x % 2)))) ∧
  (∀ (s : State) m d, Completes (.refreshDerating ⟨m, d⟩) s (fun t => t.get F.DRAM_STATUS_DERATE = b2n d))

/-- R344 to R352, R355 to R357, R359: what the flash translation layer does on its own: writes are programmed, the buffer is folded, a superblock
is read back and rebuilt or a sector of it lost, blocks are refreshed, scrubbed and retired; a Graver request is formed from a volume's
discards, moves on one state at a time or fails, and one not done in a day is late. -/
def Obligations.StorageEventsComplete : Prop :=
  (∀ s : State, s.ftlWrites = true → Completes .durabilityDeadline s (fun t => t.ftl.wrAt = s.time.clk)) ∧
  (∀ s : State, s.ftlWrites = true → s.ftl.buffer ≠ 0 → Completes .fold s (fun t => t.ftl.buffer = 0)) ∧
  (∀ (s : State) id pages, s.ftlWrites = true → Completes (.superblockClose id pages) s (fun t =>
    let bad := fun (p : Nat × ReadRes) => match p.2 with | .lost => true | .read e c => s.worn e c | .retry => false
    if s.on F.FTL_STATUS_NOPARITY = true then
      t.get F.FTL_REBUILT = s.get F.FTL_REBUILT ∧
      t.get F.FTL_LOST = (pages.filter (fun p => p.2 == .lost)).foldl (fun n _ => min max32 (n + 1)) (s.get F.FTL_LOST)
    else t.get F.FTL_REBUILT = (pages.filter bad).foldl (fun n _ => min max32 (n + 1)) (s.get F.FTL_REBUILT))) ∧
  (∀ (s : State) id slc n, s.on F.FTL_STATUS_MOUNTED = true → Completes (.readRefresh ⟨id, slc, n⟩) s (fun t =>
    if s.refreshAt slc ≤ (lookupK id s.ftl.reads).getD 0 + n ∧ s.ftlWrites = true then
      lookupK id t.ftl.pe = some ((lookupK id s.ftl.pe).getD 0 + 1) ∧ lookupK id t.ftl.reads = none
    else lookupK id t.ftl.reads = some ((lookupK id s.ftl.reads).getD 0 + n) ∧ t.ftl.pe = s.ftl.pe)) ∧
  (∀ (s : State) id found, s.on F.FTL_STATUS_MOUNTED = true → Completes (.nandScrub id found) s (fun t =>
    match found with
    | .lost => t.get F.FTL_LOST = s.oneMore F.FTL_LOST 0
    | .retry => s.ftlWrites = true → lookupK id t.ftl.pe = some ((lookupK id s.ftl.pe).getD 0 + 1)
    | .read e c => if s.worn e c = true ∧ s.ftlWrites = true then lookupK id t.ftl.pe = some ((lookupK id s.ftl.pe).getD 0 + 1)
        else t.ftl.pe = s.ftl.pe)) ∧
  (∀ (s : State) id e, s.ftlWrites = true → s.ftl.bad.contains id = false → Completes (.blockFail id e) s (fun t =>
    t.ftl.bad = id :: s.ftl.bad ∧ t.ftl.spare = s.ftl.spare - 1)) ∧
  (∀ s : State, s.on F.FTL_STATUS_MOUNTED = true → Completes .wearReport s (fun t =>
    t.get F.FTL_HOSTGB = min max32 (s.ftl.host / 1000000000) ∧ s.ftl.wearAt + 3600 * nsS ≤ t.time.clk)) ∧
  (∀ (s : State) v n, s.ftl.discards.any (fun d => d.1 == v) = true → s.gslot = some n → Completes (.graverRequest v) s (fun t =>
    (t.greq n).map (fun g => (g.vol, g.st, g.num)) = some (v, 0, s.ftl.gnum))) ∧
  (∀ (s : State) n g res, s.greq n = some g → s.ftl.held = false → s.on F.FTL_STATUS_MOUNTED = true → g.st < 6 →
    (g.st = 0 → (s.ftl.greqs.filter (fun x => decide (0 < x.st) && decide (x.st < 6))).length < 8) →
    Completes (.graverStateAdvance n res) s (fun t =>
      match res with
      | .good => (t.greq n).map (fun x => x.st) = some (g.st + 1)
      | .zeroed b => (g.st = 3 ∨ g.st = 5) → (t.greq n).map (fun x => x.st) = some (g.st + 1) ∧ b ∈ t.ftl.bad
      | .failed b => (g.st = 3 ∨ g.st = 5) → (t.greq n).map (fun x => x.st) = some 7 ∧ b ∈ t.ftl.bad)) ∧
  (∀ (s : State) n g, s.greq n = some g → g.st ≠ 6 → g.late = false → Completes (.graverOverdue n) s (fun t =>
    (t.greq n).map (fun x => x.late) = some true ∧ g.at_ + 86400 * nsS ≤ t.time.clk))

/-! ## Events: firmware, start, power, faults -/

/-- R393, R397 to R400: a staged set is prepared or refused by what its parts read back as; at its instant it activates when nothing defers it,
is put off while something does, or is discarded while still loading; the part restarts; a trial reverts. -/
def Obligations.FirmwareEventsComplete : Prop :=
  (∀ (s : State) m, s.fwu.man = some m → (s.fwu.st = 2 ∨ s.fwu.st = 3) → s.fwu.prepared = false →
    (s.fwu.st = 3 → s.inWindow s.fwu.cand = false) → Completes .activationPrepare s (fun t =>
      if ((s.advDev ((s.fwu.cand - 1) * nsS)).bankGood m).1 = true then t.fwu.prepared = true ∧ t.fwu.man = some m
      else t.fwu.man = none ∧ t.fwu.result = 3)) ∧
  (∀ (s s1 : State) m, s.fwu.man = some m → s.takeDue (.activation m.mseq) = some s1 → Completes .activation s (fun t =>
    if s.fwu.st = 1 then t.fwu.man = none ∧ t.fwu.result = 5
    else s.fwu.st = 2 → match s1.deferCause with
      | some _ => t.fwu.st = 3 ∧ t.fwu.prepared = false ∧ t.fwu.cand = s1.nextCand m (max s1.secs s1.fwu.cand)
      | none => s.fwu.prepared = true →
          if m.ents.any (fun e => e.kind == 0x4C && !s.fwu.approved.contains e.ihash) = true then t.fwu.man = none ∧ t.fwu.result = 3
          else t.fwu.halted = true ∧ t.fwu.actcnt = s.fwu.actcnt + 1 ∧ t.fwu.st = 4)) ∧
  (∀ (s s1 : State) m, s.fwu.man = some m → s.takeDue .candidate = some s1 → s.fwu.st = 3 → Completes .activationCandidate s (fun t =>
    if s1.deferCause.isSome = true ∨ s1.inWindow s.fwu.cand = true then
      t.fwu.st = 3 ∧ t.fwu.prepared = false ∧ t.fwu.cand = s1.nextCand m (max s1.secs s1.fwu.cand)
    else s.fwu.prepared = true → m.ents.any (fun e => e.kind == 0x4C && !s.fwu.approved.contains e.ihash) = false →
      t.fwu.halted = true ∧ t.fwu.actcnt = s.fwu.actcnt + 1 ∧ t.fwu.st = 4)) ∧
  (∀ s : State, s.fwu.halted = true → Completes .activationRestart s (fun t => t.get F.PWR_RSTCAUSE_FWU = 1 ∧ t.fwu.halted = false ∧
    t.fwu.actcnt = s.fwu.actcnt ∧ s.radio.txEnd ≤ t.time.clk)) ∧
  (∀ (s : State) k c, s.fwu.confcnt < s.fwu.actcnt → Completes (.revert k c) s (fun t => t.get F.PWR_RSTCAUSE_FWU = 1 ∧
    t.fwu.actcnt = s.fwu.actcnt + 1 ∧ t.fwu.confcnt = s.fwu.actcnt + 1 ∧ t.fwu.reverted = some (k, c)))

/-- R432 to R439: power-good begins step 1, the sequencer releases load, the loader takes one record after the other, END leads to class 0
ready, and step 9 to full pipeline ready. -/
def Obligations.StartEventsComplete : Prop :=
  (∀ (s : State) env, s.pwr.on = false → Completes (.powerGood env) s (fun t => t.pwr.on = true ∧ t.pwr.env = some env ∧
    t.pwr.pgAt = s.time.clk ∧ t.get F.SYS_STATUS_STAGE = 1)) ∧
  (∀ s : State, 2 ≤ s.pwr.seqLeft → s.on F.PWR_STATUS_PIN = false → s.monLow = false → Completes .sequencerRelease s (fun t =>
    t.pwr.seqLeft = s.pwr.seqLeft - 1)) ∧
  (∀ s : State, s.pwr.seqLeft = 1 → s.on F.PWR_STATUS_PIN = false → s.monLow = false → s.get F.PWR_STATUS_PHASE = 1 →
    Completes .sequencerRelease s (fun t => t.pwr.seqLeft = 0 ∧ t.get F.PWR_STATUS_PHASE = 2)) ∧
  (∀ (s : State) a v l o, s.pwr.loader = some ⟨.write a v.toNat :: l, o, none⟩ → s.untrusted = false → pairAddr a = false →
    lookupK a actTable = none → (a < F.TIME_TPCFG_KIND.addr ∨ F.TIME_TPCFG_KIND.addr + 8192 ≤ a) →
    Completes (.cfgWrite a v) s (fun t => t.pwr.loader = some ⟨l, o + 12, none⟩)) ∧
  (∀ (s : State) a v l o, s.pwr.loader = some ⟨.write a v.toNat :: l, o, none⟩ → s.cfgActs a = false ∨ pairAddr a = true →
    Completes (.cfgWrite a v) s (fun t => t.pwr.loader = some ⟨l, o + 12, none⟩ ∧ t.pwr.imgWrites = s.pwr.imgWrites ∧
      (s.cfgActs a = true → t.get F.CFG_WRFAIL = s.oneMore F.CFG_WRFAIL 0))) ∧
  (∀ (s : State) a v l o r i, s.pwr.loader = some ⟨.pair a v.toNat :: l, o, none⟩ → s.untrusted = false → findReg a = some (r, i) →
    r.prot = .pair → lookupK a actTable = none → Completes (.cfgWritePair a v) s (fun t => t.pwr.loader = some ⟨l, o + 12, none⟩)) ∧
  (∀ (s : State) m l o, s.pwr.loader = some ⟨.strobe m :: l, o, none⟩ → Completes (.cfgStrobe m) s (fun t =>
    t.pwr.loader = some ⟨l, o + 4, none⟩)) ∧
  (∀ (s : State) k a m v lim l o, s.pwr.loader = some ⟨.wait k a m.toNat v.toNat lim :: l, o, none⟩ → Completes (.cfgWait k a m v lim) s
    (fun t => t.pwr.loader = some ⟨.wait k a m.toNat v.toNat lim :: l, o, some (k, a, m.toNat, v.toNat, s.time.clk + lim * 1000)⟩)) ∧
  (∀ (s : State) w l o k a m v e, s.pwr.loader = some ⟨w :: l, o, some (k, a, m, v, e)⟩ → Completes .waitEnd s (fun t =>
    t.pwr.loader = some ⟨l, o + cfgSize w, none⟩ ∧ (k = 0 → e ≤ t.time.clk))) ∧
  (∀ (s : State) b l o, s.pwr.loader = some ⟨.table 0x0601 b :: l, o, none⟩ → s.untrusted = false → Completes (.cfgTable 0x0601 b) s
    (fun t => t.pipe.parseMap = fit 4096 b ∧ t.pwr.loader = some ⟨l, o + cfgSize (.table 0x0601 b), none⟩)) ∧
  (∀ (s : State) l o, s.pwr.loader = some ⟨.fin :: l, o, none⟩ → s.fwu.reverted = none → Completes .cfgEnd s (fun t =>
    t.get F.SYS_STATUS_C0READY = 1 ∧ t.get F.SYS_STATUS_STAGE = 8 ∧ t.pwr.loader = none)) ∧
  (∀ (s : State) env, s.on F.SYS_STATUS_C0READY = true → s.on F.SYS_STATUS_FULLREADY = false → 2 ≤ s.get F.PWR_STATUS_PHASE →
    s.trial = false → (s.on F.DRAM_STATUS_TRAINED = true ∨ (dramSize env.dram0 env.dram1).isSome = true) → nandTaken env = true →
    Completes (.fullPipelineReady env) s (fun t => t.get F.SYS_STATUS_FULLREADY = 1 ∧ t.get F.SYS_STATUS_STAGE = 9)) ∧
  (∀ (s : State) env, s.on F.SYS_STATUS_C0READY = true → s.on F.SYS_STATUS_FULLREADY = false → 2 ≤ s.get F.PWR_STATUS_PHASE →
    s.trial = false → s.on F.DRAM_STATUS_TRAINED = true → nandTaken env = false →
    Completes (.fullPipelineReady env) s (fun t => t.get F.SYS_STATUS_MISSING = 30 ∧ t.on F.SYS_STATUS_FULLREADY = false)) ∧
  (∀ s : State, s.pwr.on = true → s.on F.SYS_STATUS_FULLREADY = false → s.pwr.lateLogged = false →
    Completes .fullreadyTimeout s (fun t => s.pwr.pgAt + s.fullLimit ≤ t.time.clk ∧
      if s.trial = true then t.fwu.reverted = some (0x41, 1) ∧ t.get F.PWR_RSTCAUSE_FWU = 1 else t.pwr.lateLogged = true))

/-- R447 to R455: a supply warning begins, is released and ends, is held past 100 ms; each reset leaves its cause. -/
def Obligations.PowerEventsComplete : Prop :=
  (∀ (s : State) rails, s.pwr.on = true → s.pwr.warnAt = none → Completes (.supplyWarning true rails) s (fun t =>
    t.get F.PWR_STATUS_WARN = 1 ∧ t.get F.PWR_STATUS_PIN = 1 ∧ t.pwr.warnAt = some s.time.clk ∧ t.ftl.held = true)) ∧
  (∀ s : State, s.pwr.on = true → s.pwr.warnAt.isSome = true → s.pwr.relAt = none → s.forcedRail = 0 → Completes .supplyWarningReleased s (fun t =>
    t.pwr.relAt = some s.time.clk ∧ t.get F.PWR_STATUS_PIN = 0 ∧ t.get F.PWR_STATUS_LOW = 0)) ∧
  (∀ (s : State) b r, s.pwr.warnAt = some b → s.pwr.relAt = some r → s.fault.waits = false → Completes .supplyRecover s (fun t =>
    t.get F.PWR_STATUS_WARN = 0 ∧ t.pwr.warnAt = none ∧ t.ftl.held = false ∧ t.get F.PWR_DIPCNT = s.oneMore F.PWR_DIPCNT 0 ∧
    r + s.get F.PWR_DIP_RECUS * 1000 ≤ t.time.clk)) ∧
  (∀ (s : State) b, s.pwr.warnAt = some b → s.pwr.relAt = none → s.pwr.held = false → Completes .warningHoldTimeout s (fun t =>
    t.pwr.held = true ∧ b + 100000000 ≤ t.time.clk)) ∧
  (∀ s : State, Completes .por s (fun t => t.get F.PWR_RSTCAUSE_POR = 1 ∧ t.get F.SYS_STATUS_C0READY = 0 ∧ t.pwr.on = false)) ∧
  (∀ (s : State) rail, rail ≤ 6 → rail ≠ 1 → Completes (.bor rail) s (fun t => t.get F.PWR_RSTCAUSE_BOR = 1 ∧
    t.get F.SYS_STATUS_C0READY = 0 ∧ t.pwr.on = false)) ∧
  (∀ s : State, Completes .pinReset s (fun t => t.get F.PWR_RSTCAUSE_PIN = 1 ∧ t.get F.SYS_STATUS_C0READY = 0 ∧ t.pwr.on = false)) ∧
  (∀ s : State, Completes .wdogExpire s (fun t => t.get F.PWR_RSTCAUSE_WDOG = 1 ∧ t.get F.SYS_STATUS_C0READY = 0 ∧ t.pwr.on = false ∧
    (s.pwr.on = true → s.pwr.pgAt + s.get F.PWR_WDOG_MS * 1000000 ≤ t.time.clk)))

/-! ## Frames -/

/-- What the commands at the registers, the recorder and the clocks leave unchanged: everything but the registers, the recorder and the
ports; the commands that let time pass also change the time, and those of the clock domains the power state. -/
def Obligations.RegisterAndRecorderFrames : Prop :=
  ∀ (i : Instr) (s t : State), exec i s = .next t →
    match i with
    | .unmappedAccess _ _ _ | .tripleVote | .timeSnap _ _ | .pipeCntclr _ _ | .qosCntclr _ _
    | .plcCntclr _ _ | .radioCntclr _ _ | .qosQsel _ _ | .balNsel _ _ | .distCsel _ _ | .ftlGsel _ _ | .fwuPsel _ _ | .meterFind _ _
    | .evrecSel _ _ | .evrecWinAdvance _ | .eventLog _ _ _ | .evSecs _ _ | .evThaw _ _ | .notificationAck _ _ _
    | .linkChange _ _ | .preemptVerify _ _ =>
      ∃ g e p, t = { s with reg := g, ev := e, port := p }
    | .pairTimeout _ | .spiPairHoldExpire _ | .tokenGain _ | .eventWindowEnd _ _ | .freezeEnd | .notificationTimeout _ _ _ | .responseCacheExpire | .c0faultEnd | .aonSecondsCopy | .slewComplete | .leapApply =>
      ∃ g e p c, t = { s with reg := g, ev := e, port := p, time := c }
    | .domainWake _ | .domainStop _ | .wakeFail _ | .pllUnlock _ | .pllRelock _ | .ppsInEdge | .ppsInMissing =>
      ∃ g e p c n w, t = { s with reg := g, ev := e, port := p, time := c, free := n, pwr := w }
    | _ => True

/-- What the events of the flash, the radio, the power-line modem and the display leave unchanged: everything but the registers, the
recorder, the ports, the time, the count of free values and their own part. -/
def Obligations.StorageAndMediaFrames : Prop :=
  ∀ (i : Instr) (s t : State), exec i s = .next t →
    match i with
    | .superblockClose _ _ | .nandScrub _ _ =>
      ∃ g e p c n x y l m, t = { s with reg := g, ev := e, port := p, time := c, free := n, ftl := x, pipe := y, leg := l, meter := m }
    | .fold | .readRefresh _ | .blockFail _ _ | .graverRequest _ | .graverStateAdvance _ _
    | .graverOverdue _ | .wearReport =>
      ∃ g e p c n x, t = { s with reg := g, ev := e, port := p, time := c, free := n, ftl := x }
    | .radioTransmit | .lbtWindowEnd _ | .lbtBackoffEnd | .demodulatorWaitExpire | .dwellMinute =>
      ∃ g e p c n x, t = { s with reg := g, ev := e, port := p, time := c, free := n, radio := x }
    | .reassemblyTimeout _ _ | .norouteTimeout _ _ | .driverFault _ | .driverFaultClear _ | .maskPublish _ _ | .plcTransmit _ =>
      ∃ g e p c n x, t = { s with reg := g, ev := e, port := p, time := c, free := n, plc := x }
    | .biasSettleEnd | .rowComplete | .coldRetry _ | .vhvLow | .vhvReturn | .plateCommit _ _ _ | .keyPress _ | .screenKey | .screenIdle =>
      ∃ g e p c n x, t = { s with reg := g, ev := e, port := p, time := c, free := n, disp := x }
    | _ => True

/-- What the stages of the pipeline, the topology commands and the legal partition's own work leave unchanged. -/
def Obligations.PartitionFrames : Prop :=
  ∀ (i : Instr) (s t : State), exec i s = .next t →
    match i with
    | .duplicateSuppression _ | .meterSlotLookup _ | .signatureVerification _ | .batchVerifyComplete _ | .parsing _ | .validation _ =>
      ∃ g e p n l m, t = { s with reg := g, ev := e, port := p, free := n, pipe := l, meter := m }
    | .define _ _ _ _ _ _ _ _ | .redefine _ _ _ _ _ _ _ _ =>
      ∃ g e p b, t = { s with reg := g, ev := e, port := p, bal := b }
    | .remove _ _ => ∃ g e p b m, t = { s with reg := g, ev := e, port := p, bal := b, meter := m }
    | .hwmWrite => ∃ g l, t = { s with reg := g, leg := l }
    | .legalCheckpoint => ∃ g e p n l d, t = { s with reg := g, ev := e, port := p, free := n, leg := l, disp := d }
    | .localisation _ => ∃ g e p m b, t = { s with reg := g, ev := e, port := p, meter := m, bal := b }
    | .settle => ∃ g e p c n l d, t = { s with reg := g, ev := e, port := p, time := c, free := n, leg := l, disp := d }
    | .provisionalResult _ _ => ∃ g e p b, t = { s with reg := g, ev := e, port := p, bal := b }
    | .curtAckTimeout _ | .curtRefresh _ | .postMirrorWrite _ => t.leg = s.leg ∧ t.bal = s.bal ∧ t.disp = s.disp ∧ t.fwu = s.fwu
    | _ => True

/-- An event changes no register field but those of the recorder's and the queues' own counts, and the status fields drawn after every
command: EVENT_LOG, TOKEN_GAIN, EVENT_WINDOW_END, FREEZE_END, and LINK_CHANGE but for the link's own bit and PREACT, which a link that goes down
loses. -/
def Obligations.EventsKeepTheRegisters : Prop :=
  ∀ (i : Instr) (s t : State) (f : Fld) (k : Nat), exec i s = .next t → f.key k ∉ mirrorKeys → f.key k ∉ logKeys →
    match i with
    | .eventLog _ _ _ | .tokenGain _ | .eventWindowEnd _ _ | .freezeEnd => t.geti f k = s.geti f k
    | .linkChange u _ => f.key k ≠ F.UPLINK_STATUS_LINK.key u → f.key k ≠ F.QOS_STATUS_PREACT.key 0 → t.geti f k = s.geti f k
    | _ => True
end

