-- ==== Sys2Proof/Laws/State.lean ====
section
/-! SUPPORT. What the named updates of the state leave alone: one lemma per field per update, each true by unfolding. -/

namespace Sys2Proof.Machine

@[simp] theorem State.seti_pending (s : State) (f : Fld) (i v : Nat) : (s.seti f i v).pending = s.pending := rfl
@[simp] theorem State.seti_free (s : State) (f : Fld) (i v : Nat) : (s.seti f i v).free = s.free := rfl
@[simp] theorem State.seti_ev (s : State) (f : Fld) (i v : Nat) : (s.seti f i v).ev = s.ev := rfl
@[simp] theorem State.seti_port (s : State) (f : Fld) (i v : Nat) : (s.seti f i v).port = s.port := rfl
@[simp] theorem State.seti_time (s : State) (f : Fld) (i v : Nat) : (s.seti f i v).time = s.time := rfl
@[simp] theorem State.seti_mains (s : State) (f : Fld) (i v : Nat) : (s.seti f i v).mains = s.mains := rfl
@[simp] theorem State.seti_pipe (s : State) (f : Fld) (i v : Nat) : (s.seti f i v).pipe = s.pipe := rfl
@[simp] theorem State.seti_meter (s : State) (f : Fld) (i v : Nat) : (s.seti f i v).meter = s.meter := rfl
@[simp] theorem State.seti_leg (s : State) (f : Fld) (i v : Nat) : (s.seti f i v).leg = s.leg := rfl
@[simp] theorem State.seti_bal (s : State) (f : Fld) (i v : Nat) : (s.seti f i v).bal = s.bal := rfl
@[simp] theorem State.seti_dist (s : State) (f : Fld) (i v : Nat) : (s.seti f i v).dist = s.dist := rfl
@[simp] theorem State.seti_plc (s : State) (f : Fld) (i v : Nat) : (s.seti f i v).plc = s.plc := rfl
@[simp] theorem State.seti_radio (s : State) (f : Fld) (i v : Nat) : (s.seti f i v).radio = s.radio := rfl
@[simp] theorem State.seti_key (s : State) (f : Fld) (i v : Nat) : (s.seti f i v).key = s.key := rfl
@[simp] theorem State.seti_pwr (s : State) (f : Fld) (i v : Nat) : (s.seti f i v).pwr = s.pwr := rfl
@[simp] theorem State.seti_ftl (s : State) (f : Fld) (i v : Nat) : (s.seti f i v).ftl = s.ftl := rfl
@[simp] theorem State.seti_fwu (s : State) (f : Fld) (i v : Nat) : (s.seti f i v).fwu = s.fwu := rfl
@[simp] theorem State.seti_disp (s : State) (f : Fld) (i v : Nat) : (s.seti f i v).disp = s.disp := rfl
@[simp] theorem State.seti_fault (s : State) (f : Fld) (i v : Nat) : (s.seti f i v).fault = s.fault := rfl

@[simp] theorem State.set_pending (s : State) (f : Fld) (v : Nat) : (s.set f v).pending = s.pending := rfl
@[simp] theorem State.set_free (s : State) (f : Fld) (v : Nat) : (s.set f v).free = s.free := rfl
@[simp] theorem State.set_ev (s : State) (f : Fld) (v : Nat) : (s.set f v).ev = s.ev := rfl
@[simp] theorem State.set_port (s : State) (f : Fld) (v : Nat) : (s.set f v).port = s.port := rfl
@[simp] theorem State.set_time (s : State) (f : Fld) (v : Nat) : (s.set f v).time = s.time := rfl
@[simp] theorem State.set_mains (s : State) (f : Fld) (v : Nat) : (s.set f v).mains = s.mains := rfl
@[simp] theorem State.set_pipe (s : State) (f : Fld) (v : Nat) : (s.set f v).pipe = s.pipe := rfl
@[simp] theorem State.set_meter (s : State) (f : Fld) (v : Nat) : (s.set f v).meter = s.meter := rfl
@[simp] theorem State.set_leg (s : State) (f : Fld) (v : Nat) : (s.set f v).leg = s.leg := rfl
@[simp] theorem State.set_bal (s : State) (f : Fld) (v : Nat) : (s.set f v).bal = s.bal := rfl
@[simp] theorem State.set_dist (s : State) (f : Fld) (v : Nat) : (s.set f v).dist = s.dist := rfl
@[simp] theorem State.set_plc (s : State) (f : Fld) (v : Nat) : (s.set f v).plc = s.plc := rfl
@[simp] theorem State.set_radio (s : State) (f : Fld) (v : Nat) : (s.set f v).radio = s.radio := rfl
@[simp] theorem State.set_key (s : State) (f : Fld) (v : Nat) : (s.set f v).key = s.key := rfl
@[simp] theorem State.set_pwr (s : State) (f : Fld) (v : Nat) : (s.set f v).pwr = s.pwr := rfl
@[simp] theorem State.set_ftl (s : State) (f : Fld) (v : Nat) : (s.set f v).ftl = s.ftl := rfl
@[simp] theorem State.set_fwu (s : State) (f : Fld) (v : Nat) : (s.set f v).fwu = s.fwu := rfl
@[simp] theorem State.set_disp (s : State) (f : Fld) (v : Nat) : (s.set f v).disp = s.disp := rfl
@[simp] theorem State.set_fault (s : State) (f : Fld) (v : Nat) : (s.set f v).fault = s.fault := rfl

@[simp] theorem State.inci_pending (s : State) (f : Fld) (i n : Nat) : (s.inci f i n).pending = s.pending := rfl
@[simp] theorem State.inci_free (s : State) (f : Fld) (i n : Nat) : (s.inci f i n).free = s.free := rfl
@[simp] theorem State.inci_ev (s : State) (f : Fld) (i n : Nat) : (s.inci f i n).ev = s.ev := rfl
@[simp] theorem State.inci_port (s : State) (f : Fld) (i n : Nat) : (s.inci f i n).port = s.port := rfl
@[simp] theorem State.inci_time (s : State) (f : Fld) (i n : Nat) : (s.inci f i n).time = s.time := rfl
@[simp] theorem State.inci_mains (s : State) (f : Fld) (i n : Nat) : (s.inci f i n).mains = s.mains := rfl
@[simp] theorem State.inci_pipe (s : State) (f : Fld) (i n : Nat) : (s.inci f i n).pipe = s.pipe := rfl
@[simp] theorem State.inci_meter (s : State) (f : Fld) (i n : Nat) : (s.inci f i n).meter = s.meter := rfl
@[simp] theorem State.inci_leg (s : State) (f : Fld) (i n : Nat) : (s.inci f i n).leg = s.leg := rfl
@[simp] theorem State.inci_bal (s : State) (f : Fld) (i n : Nat) : (s.inci f i n).bal = s.bal := rfl
@[simp] theorem State.inci_dist (s : State) (f : Fld) (i n : Nat) : (s.inci f i n).dist = s.dist := rfl
@[simp] theorem State.inci_plc (s : State) (f : Fld) (i n : Nat) : (s.inci f i n).plc = s.plc := rfl
@[simp] theorem State.inci_radio (s : State) (f : Fld) (i n : Nat) : (s.inci f i n).radio = s.radio := rfl
@[simp] theorem State.inci_key (s : State) (f : Fld) (i n : Nat) : (s.inci f i n).key = s.key := rfl
@[simp] theorem State.inci_pwr (s : State) (f : Fld) (i n : Nat) : (s.inci f i n).pwr = s.pwr := rfl
@[simp] theorem State.inci_ftl (s : State) (f : Fld) (i n : Nat) : (s.inci f i n).ftl = s.ftl := rfl
@[simp] theorem State.inci_fwu (s : State) (f : Fld) (i n : Nat) : (s.inci f i n).fwu = s.fwu := rfl
@[simp] theorem State.inci_disp (s : State) (f : Fld) (i n : Nat) : (s.inci f i n).disp = s.disp := rfl
@[simp] theorem State.inci_fault (s : State) (f : Fld) (i n : Nat) : (s.inci f i n).fault = s.fault := rfl

@[simp] theorem State.inc_pending (s : State) (f : Fld) : (s.inc f).pending = s.pending := rfl
@[simp] theorem State.inc_free (s : State) (f : Fld) : (s.inc f).free = s.free := rfl
@[simp] theorem State.inc_ev (s : State) (f : Fld) : (s.inc f).ev = s.ev := rfl
@[simp] theorem State.inc_port (s : State) (f : Fld) : (s.inc f).port = s.port := rfl
@[simp] theorem State.inc_time (s : State) (f : Fld) : (s.inc f).time = s.time := rfl
@[simp] theorem State.inc_mains (s : State) (f : Fld) : (s.inc f).mains = s.mains := rfl
@[simp] theorem State.inc_pipe (s : State) (f : Fld) : (s.inc f).pipe = s.pipe := rfl
@[simp] theorem State.inc_meter (s : State) (f : Fld) : (s.inc f).meter = s.meter := rfl
@[simp] theorem State.inc_leg (s : State) (f : Fld) : (s.inc f).leg = s.leg := rfl
@[simp] theorem State.inc_bal (s : State) (f : Fld) : (s.inc f).bal = s.bal := rfl
@[simp] theorem State.inc_dist (s : State) (f : Fld) : (s.inc f).dist = s.dist := rfl
@[simp] theorem State.inc_plc (s : State) (f : Fld) : (s.inc f).plc = s.plc := rfl
@[simp] theorem State.inc_radio (s : State) (f : Fld) : (s.inc f).radio = s.radio := rfl
@[simp] theorem State.inc_key (s : State) (f : Fld) : (s.inc f).key = s.key := rfl
@[simp] theorem State.inc_pwr (s : State) (f : Fld) : (s.inc f).pwr = s.pwr := rfl
@[simp] theorem State.inc_ftl (s : State) (f : Fld) : (s.inc f).ftl = s.ftl := rfl
@[simp] theorem State.inc_fwu (s : State) (f : Fld) : (s.inc f).fwu = s.fwu := rfl
@[simp] theorem State.inc_disp (s : State) (f : Fld) : (s.inc f).disp = s.disp := rfl
@[simp] theorem State.inc_fault (s : State) (f : Fld) : (s.inc f).fault = s.fault := rfl

@[simp] theorem State.adv_pending (s : State) (d : Nat) : (s.adv d).pending = s.pending := rfl
@[simp] theorem State.adv_free (s : State) (d : Nat) : (s.adv d).free = s.free := rfl
@[simp] theorem State.adv_reg (s : State) (d : Nat) : (s.adv d).reg = s.reg := rfl
@[simp] theorem State.adv_ev (s : State) (d : Nat) : (s.adv d).ev = s.ev := rfl
@[simp] theorem State.adv_port (s : State) (d : Nat) : (s.adv d).port = s.port := rfl
@[simp] theorem State.adv_mains (s : State) (d : Nat) : (s.adv d).mains = s.mains := rfl
@[simp] theorem State.adv_pipe (s : State) (d : Nat) : (s.adv d).pipe = s.pipe := rfl
@[simp] theorem State.adv_meter (s : State) (d : Nat) : (s.adv d).meter = s.meter := rfl
@[simp] theorem State.adv_leg (s : State) (d : Nat) : (s.adv d).leg = s.leg := rfl
@[simp] theorem State.adv_bal (s : State) (d : Nat) : (s.adv d).bal = s.bal := rfl
@[simp] theorem State.adv_dist (s : State) (d : Nat) : (s.adv d).dist = s.dist := rfl
@[simp] theorem State.adv_plc (s : State) (d : Nat) : (s.adv d).plc = s.plc := rfl
@[simp] theorem State.adv_radio (s : State) (d : Nat) : (s.adv d).radio = s.radio := rfl
@[simp] theorem State.adv_key (s : State) (d : Nat) : (s.adv d).key = s.key := rfl
@[simp] theorem State.adv_pwr (s : State) (d : Nat) : (s.adv d).pwr = s.pwr := rfl
@[simp] theorem State.adv_ftl (s : State) (d : Nat) : (s.adv d).ftl = s.ftl := rfl
@[simp] theorem State.adv_fwu (s : State) (d : Nat) : (s.adv d).fwu = s.fwu := rfl
@[simp] theorem State.adv_disp (s : State) (d : Nat) : (s.adv d).disp = s.disp := rfl
@[simp] theorem State.adv_fault (s : State) (d : Nat) : (s.adv d).fault = s.fault := rfl

@[simp] theorem State.advTo_pending (s : State) (t : Nat) : (s.advTo t).pending = s.pending := rfl
@[simp] theorem State.advTo_free (s : State) (t : Nat) : (s.advTo t).free = s.free := rfl
@[simp] theorem State.advTo_reg (s : State) (t : Nat) : (s.advTo t).reg = s.reg := rfl
@[simp] theorem State.advTo_ev (s : State) (t : Nat) : (s.advTo t).ev = s.ev := rfl
@[simp] theorem State.advTo_port (s : State) (t : Nat) : (s.advTo t).port = s.port := rfl
@[simp] theorem State.advTo_mains (s : State) (t : Nat) : (s.advTo t).mains = s.mains := rfl
@[simp] theorem State.advTo_pipe (s : State) (t : Nat) : (s.advTo t).pipe = s.pipe := rfl
@[simp] theorem State.advTo_meter (s : State) (t : Nat) : (s.advTo t).meter = s.meter := rfl
@[simp] theorem State.advTo_leg (s : State) (t : Nat) : (s.advTo t).leg = s.leg := rfl
@[simp] theorem State.advTo_bal (s : State) (t : Nat) : (s.advTo t).bal = s.bal := rfl
@[simp] theorem State.advTo_dist (s : State) (t : Nat) : (s.advTo t).dist = s.dist := rfl
@[simp] theorem State.advTo_plc (s : State) (t : Nat) : (s.advTo t).plc = s.plc := rfl
@[simp] theorem State.advTo_radio (s : State) (t : Nat) : (s.advTo t).radio = s.radio := rfl
@[simp] theorem State.advTo_key (s : State) (t : Nat) : (s.advTo t).key = s.key := rfl
@[simp] theorem State.advTo_pwr (s : State) (t : Nat) : (s.advTo t).pwr = s.pwr := rfl
@[simp] theorem State.advTo_ftl (s : State) (t : Nat) : (s.advTo t).ftl = s.ftl := rfl
@[simp] theorem State.advTo_fwu (s : State) (t : Nat) : (s.advTo t).fwu = s.fwu := rfl
@[simp] theorem State.advTo_disp (s : State) (t : Nat) : (s.advTo t).disp = s.disp := rfl
@[simp] theorem State.advTo_fault (s : State) (t : Nat) : (s.advTo t).fault = s.fault := rfl

@[simp] theorem State.advDev_pending (s : State) (t : Nat) : (s.advDev t).pending = s.pending := by unfold State.advDev; split <;> rfl
@[simp] theorem State.advDev_free (s : State) (t : Nat) : (s.advDev t).free = s.free := by unfold State.advDev; split <;> rfl
@[simp] theorem State.advDev_reg (s : State) (t : Nat) : (s.advDev t).reg = s.reg := by unfold State.advDev; split <;> rfl
@[simp] theorem State.advDev_ev (s : State) (t : Nat) : (s.advDev t).ev = s.ev := by unfold State.advDev; split <;> rfl
@[simp] theorem State.advDev_port (s : State) (t : Nat) : (s.advDev t).port = s.port := by unfold State.advDev; split <;> rfl
@[simp] theorem State.advDev_mains (s : State) (t : Nat) : (s.advDev t).mains = s.mains := by unfold State.advDev; split <;> rfl
@[simp] theorem State.advDev_pipe (s : State) (t : Nat) : (s.advDev t).pipe = s.pipe := by unfold State.advDev; split <;> rfl
@[simp] theorem State.advDev_meter (s : State) (t : Nat) : (s.advDev t).meter = s.meter := by unfold State.advDev; split <;> rfl
@[simp] theorem State.advDev_leg (s : State) (t : Nat) : (s.advDev t).leg = s.leg := by unfold State.advDev; split <;> rfl
@[simp] theorem State.advDev_bal (s : State) (t : Nat) : (s.advDev t).bal = s.bal := by unfold State.advDev; split <;> rfl
@[simp] theorem State.advDev_dist (s : State) (t : Nat) : (s.advDev t).dist = s.dist := by unfold State.advDev; split <;> rfl
@[simp] theorem State.advDev_plc (s : State) (t : Nat) : (s.advDev t).plc = s.plc := by unfold State.advDev; split <;> rfl
@[simp] theorem State.advDev_radio (s : State) (t : Nat) : (s.advDev t).radio = s.radio := by unfold State.advDev; split <;> rfl
@[simp] theorem State.advDev_key (s : State) (t : Nat) : (s.advDev t).key = s.key := by unfold State.advDev; split <;> rfl
@[simp] theorem State.advDev_pwr (s : State) (t : Nat) : (s.advDev t).pwr = s.pwr := by unfold State.advDev; split <;> rfl
@[simp] theorem State.advDev_ftl (s : State) (t : Nat) : (s.advDev t).ftl = s.ftl := by unfold State.advDev; split <;> rfl
@[simp] theorem State.advDev_fwu (s : State) (t : Nat) : (s.advDev t).fwu = s.fwu := by unfold State.advDev; split <;> rfl
@[simp] theorem State.advDev_disp (s : State) (t : Nat) : (s.advDev t).disp = s.disp := by unfold State.advDev; split <;> rfl
@[simp] theorem State.advDev_fault (s : State) (t : Nat) : (s.advDev t).fault = s.fault := by unfold State.advDev; split <;> rfl

@[simp] theorem State.setEgq_pending (s : State) (q : EgQ) : (s.setEgq q).pending = s.pending := rfl
@[simp] theorem State.setEgq_free (s : State) (q : EgQ) : (s.setEgq q).free = s.free := rfl
@[simp] theorem State.setEgq_reg (s : State) (q : EgQ) : (s.setEgq q).reg = s.reg := rfl
@[simp] theorem State.setEgq_ev (s : State) (q : EgQ) : (s.setEgq q).ev = s.ev := rfl
@[simp] theorem State.setEgq_time (s : State) (q : EgQ) : (s.setEgq q).time = s.time := rfl
@[simp] theorem State.setEgq_mains (s : State) (q : EgQ) : (s.setEgq q).mains = s.mains := rfl
@[simp] theorem State.setEgq_pipe (s : State) (q : EgQ) : (s.setEgq q).pipe = s.pipe := rfl
@[simp] theorem State.setEgq_meter (s : State) (q : EgQ) : (s.setEgq q).meter = s.meter := rfl
@[simp] theorem State.setEgq_leg (s : State) (q : EgQ) : (s.setEgq q).leg = s.leg := rfl
@[simp] theorem State.setEgq_bal (s : State) (q : EgQ) : (s.setEgq q).bal = s.bal := rfl
@[simp] theorem State.setEgq_dist (s : State) (q : EgQ) : (s.setEgq q).dist = s.dist := rfl
@[simp] theorem State.setEgq_plc (s : State) (q : EgQ) : (s.setEgq q).plc = s.plc := rfl
@[simp] theorem State.setEgq_radio (s : State) (q : EgQ) : (s.setEgq q).radio = s.radio := rfl
@[simp] theorem State.setEgq_key (s : State) (q : EgQ) : (s.setEgq q).key = s.key := rfl
@[simp] theorem State.setEgq_pwr (s : State) (q : EgQ) : (s.setEgq q).pwr = s.pwr := rfl
@[simp] theorem State.setEgq_ftl (s : State) (q : EgQ) : (s.setEgq q).ftl = s.ftl := rfl
@[simp] theorem State.setEgq_fwu (s : State) (q : EgQ) : (s.setEgq q).fwu = s.fwu := rfl
@[simp] theorem State.setEgq_disp (s : State) (q : EgQ) : (s.setEgq q).disp = s.disp := rfl
@[simp] theorem State.setEgq_fault (s : State) (q : EgQ) : (s.setEgq q).fault = s.fault := rfl

@[simp] theorem State.setBucket_pending (s : State) (b : Bucket) : (s.setBucket b).pending = s.pending := rfl
@[simp] theorem State.setBucket_free (s : State) (b : Bucket) : (s.setBucket b).free = s.free := rfl
@[simp] theorem State.setBucket_reg (s : State) (b : Bucket) : (s.setBucket b).reg = s.reg := rfl
@[simp] theorem State.setBucket_port (s : State) (b : Bucket) : (s.setBucket b).port = s.port := rfl
@[simp] theorem State.setBucket_time (s : State) (b : Bucket) : (s.setBucket b).time = s.time := rfl
@[simp] theorem State.setBucket_mains (s : State) (b : Bucket) : (s.setBucket b).mains = s.mains := rfl
@[simp] theorem State.setBucket_pipe (s : State) (b : Bucket) : (s.setBucket b).pipe = s.pipe := rfl
@[simp] theorem State.setBucket_meter (s : State) (b : Bucket) : (s.setBucket b).meter = s.meter := rfl
@[simp] theorem State.setBucket_leg (s : State) (b : Bucket) : (s.setBucket b).leg = s.leg := rfl
@[simp] theorem State.setBucket_bal (s : State) (b : Bucket) : (s.setBucket b).bal = s.bal := rfl
@[simp] theorem State.setBucket_dist (s : State) (b : Bucket) : (s.setBucket b).dist = s.dist := rfl
@[simp] theorem State.setBucket_plc (s : State) (b : Bucket) : (s.setBucket b).plc = s.plc := rfl
@[simp] theorem State.setBucket_radio (s : State) (b : Bucket) : (s.setBucket b).radio = s.radio := rfl
@[simp] theorem State.setBucket_key (s : State) (b : Bucket) : (s.setBucket b).key = s.key := rfl
@[simp] theorem State.setBucket_pwr (s : State) (b : Bucket) : (s.setBucket b).pwr = s.pwr := rfl
@[simp] theorem State.setBucket_ftl (s : State) (b : Bucket) : (s.setBucket b).ftl = s.ftl := rfl
@[simp] theorem State.setBucket_fwu (s : State) (b : Bucket) : (s.setBucket b).fwu = s.fwu := rfl
@[simp] theorem State.setBucket_disp (s : State) (b : Bucket) : (s.setBucket b).disp = s.disp := rfl
@[simp] theorem State.setBucket_fault (s : State) (b : Bucket) : (s.setBucket b).fault = s.fault := rfl

@[simp] theorem State.store_pending (s : State) (r : Rec) : (s.store r).pending = s.pending := rfl
@[simp] theorem State.store_free (s : State) (r : Rec) : (s.store r).free = s.free := rfl
@[simp] theorem State.store_reg (s : State) (r : Rec) : (s.store r).reg = s.reg := rfl
@[simp] theorem State.store_port (s : State) (r : Rec) : (s.store r).port = s.port := rfl
@[simp] theorem State.store_time (s : State) (r : Rec) : (s.store r).time = s.time := rfl
@[simp] theorem State.store_mains (s : State) (r : Rec) : (s.store r).mains = s.mains := rfl
@[simp] theorem State.store_pipe (s : State) (r : Rec) : (s.store r).pipe = s.pipe := rfl
@[simp] theorem State.store_meter (s : State) (r : Rec) : (s.store r).meter = s.meter := rfl
@[simp] theorem State.store_leg (s : State) (r : Rec) : (s.store r).leg = s.leg := rfl
@[simp] theorem State.store_bal (s : State) (r : Rec) : (s.store r).bal = s.bal := rfl
@[simp] theorem State.store_dist (s : State) (r : Rec) : (s.store r).dist = s.dist := rfl
@[simp] theorem State.store_plc (s : State) (r : Rec) : (s.store r).plc = s.plc := rfl
@[simp] theorem State.store_radio (s : State) (r : Rec) : (s.store r).radio = s.radio := rfl
@[simp] theorem State.store_key (s : State) (r : Rec) : (s.store r).key = s.key := rfl
@[simp] theorem State.store_pwr (s : State) (r : Rec) : (s.store r).pwr = s.pwr := rfl
@[simp] theorem State.store_ftl (s : State) (r : Rec) : (s.store r).ftl = s.ftl := rfl
@[simp] theorem State.store_fwu (s : State) (r : Rec) : (s.store r).fwu = s.fwu := rfl
@[simp] theorem State.store_disp (s : State) (r : Rec) : (s.store r).disp = s.disp := rfl
@[simp] theorem State.store_fault (s : State) (r : Rec) : (s.store r).fault = s.fault := rfl

@[simp] theorem State.raiseSrc_pending (s : State) (n : Nat) : (s.raiseSrc n).pending = s.pending := rfl
@[simp] theorem State.raiseSrc_free (s : State) (n : Nat) : (s.raiseSrc n).free = s.free := rfl
@[simp] theorem State.raiseSrc_reg (s : State) (n : Nat) : (s.raiseSrc n).reg = s.reg := rfl
@[simp] theorem State.raiseSrc_port (s : State) (n : Nat) : (s.raiseSrc n).port = s.port := rfl
@[simp] theorem State.raiseSrc_time (s : State) (n : Nat) : (s.raiseSrc n).time = s.time := rfl
@[simp] theorem State.raiseSrc_mains (s : State) (n : Nat) : (s.raiseSrc n).mains = s.mains := rfl
@[simp] theorem State.raiseSrc_pipe (s : State) (n : Nat) : (s.raiseSrc n).pipe = s.pipe := rfl
@[simp] theorem State.raiseSrc_meter (s : State) (n : Nat) : (s.raiseSrc n).meter = s.meter := rfl
@[simp] theorem State.raiseSrc_leg (s : State) (n : Nat) : (s.raiseSrc n).leg = s.leg := rfl
@[simp] theorem State.raiseSrc_bal (s : State) (n : Nat) : (s.raiseSrc n).bal = s.bal := rfl
@[simp] theorem State.raiseSrc_dist (s : State) (n : Nat) : (s.raiseSrc n).dist = s.dist := rfl
@[simp] theorem State.raiseSrc_plc (s : State) (n : Nat) : (s.raiseSrc n).plc = s.plc := rfl
@[simp] theorem State.raiseSrc_radio (s : State) (n : Nat) : (s.raiseSrc n).radio = s.radio := rfl
@[simp] theorem State.raiseSrc_key (s : State) (n : Nat) : (s.raiseSrc n).key = s.key := rfl
@[simp] theorem State.raiseSrc_pwr (s : State) (n : Nat) : (s.raiseSrc n).pwr = s.pwr := rfl
@[simp] theorem State.raiseSrc_ftl (s : State) (n : Nat) : (s.raiseSrc n).ftl = s.ftl := rfl
@[simp] theorem State.raiseSrc_fwu (s : State) (n : Nat) : (s.raiseSrc n).fwu = s.fwu := rfl
@[simp] theorem State.raiseSrc_disp (s : State) (n : Nat) : (s.raiseSrc n).disp = s.disp := rfl
@[simp] theorem State.raiseSrc_fault (s : State) (n : Nat) : (s.raiseSrc n).fault = s.fault := rfl

@[simp] theorem State.openWin_pending (s : State) (w : LogWin) : (s.openWin w).pending = s.pending := rfl
@[simp] theorem State.openWin_free (s : State) (w : LogWin) : (s.openWin w).free = s.free := rfl
@[simp] theorem State.openWin_reg (s : State) (w : LogWin) : (s.openWin w).reg = s.reg := rfl
@[simp] theorem State.openWin_port (s : State) (w : LogWin) : (s.openWin w).port = s.port := rfl
@[simp] theorem State.openWin_time (s : State) (w : LogWin) : (s.openWin w).time = s.time := rfl
@[simp] theorem State.openWin_mains (s : State) (w : LogWin) : (s.openWin w).mains = s.mains := rfl
@[simp] theorem State.openWin_pipe (s : State) (w : LogWin) : (s.openWin w).pipe = s.pipe := rfl
@[simp] theorem State.openWin_meter (s : State) (w : LogWin) : (s.openWin w).meter = s.meter := rfl
@[simp] theorem State.openWin_leg (s : State) (w : LogWin) : (s.openWin w).leg = s.leg := rfl
@[simp] theorem State.openWin_bal (s : State) (w : LogWin) : (s.openWin w).bal = s.bal := rfl
@[simp] theorem State.openWin_dist (s : State) (w : LogWin) : (s.openWin w).dist = s.dist := rfl
@[simp] theorem State.openWin_plc (s : State) (w : LogWin) : (s.openWin w).plc = s.plc := rfl
@[simp] theorem State.openWin_radio (s : State) (w : LogWin) : (s.openWin w).radio = s.radio := rfl
@[simp] theorem State.openWin_key (s : State) (w : LogWin) : (s.openWin w).key = s.key := rfl
@[simp] theorem State.openWin_pwr (s : State) (w : LogWin) : (s.openWin w).pwr = s.pwr := rfl
@[simp] theorem State.openWin_ftl (s : State) (w : LogWin) : (s.openWin w).ftl = s.ftl := rfl
@[simp] theorem State.openWin_fwu (s : State) (w : LogWin) : (s.openWin w).fwu = s.fwu := rfl
@[simp] theorem State.openWin_disp (s : State) (w : LogWin) : (s.openWin w).disp = s.disp := rfl
@[simp] theorem State.openWin_fault (s : State) (w : LogWin) : (s.openWin w).fault = s.fault := rfl

@[simp] theorem State.took_pending (s : State) (q w n : Nat) : (s.took q w n).pending = s.pending := rfl
@[simp] theorem State.took_free (s : State) (q w n : Nat) : (s.took q w n).free = s.free := rfl
@[simp] theorem State.took_reg (s : State) (q w n : Nat) : (s.took q w n).reg = s.reg := rfl
@[simp] theorem State.took_ev (s : State) (q w n : Nat) : (s.took q w n).ev = s.ev := rfl
@[simp] theorem State.took_time (s : State) (q w n : Nat) : (s.took q w n).time = s.time := rfl
@[simp] theorem State.took_mains (s : State) (q w n : Nat) : (s.took q w n).mains = s.mains := rfl
@[simp] theorem State.took_pipe (s : State) (q w n : Nat) : (s.took q w n).pipe = s.pipe := rfl
@[simp] theorem State.took_meter (s : State) (q w n : Nat) : (s.took q w n).meter = s.meter := rfl
@[simp] theorem State.took_leg (s : State) (q w n : Nat) : (s.took q w n).leg = s.leg := rfl
@[simp] theorem State.took_bal (s : State) (q w n : Nat) : (s.took q w n).bal = s.bal := rfl
@[simp] theorem State.took_dist (s : State) (q w n : Nat) : (s.took q w n).dist = s.dist := rfl
@[simp] theorem State.took_plc (s : State) (q w n : Nat) : (s.took q w n).plc = s.plc := rfl
@[simp] theorem State.took_radio (s : State) (q w n : Nat) : (s.took q w n).radio = s.radio := rfl
@[simp] theorem State.took_key (s : State) (q w n : Nat) : (s.took q w n).key = s.key := rfl
@[simp] theorem State.took_pwr (s : State) (q w n : Nat) : (s.took q w n).pwr = s.pwr := rfl
@[simp] theorem State.took_ftl (s : State) (q w n : Nat) : (s.took q w n).ftl = s.ftl := rfl
@[simp] theorem State.took_fwu (s : State) (q w n : Nat) : (s.took q w n).fwu = s.fwu := rfl
@[simp] theorem State.took_disp (s : State) (q w n : Nat) : (s.took q w n).disp = s.disp := rfl
@[simp] theorem State.took_fault (s : State) (q w n : Nat) : (s.took q w n).fault = s.fault := rfl

@[simp] theorem State.keep_pending (s : State) (k : Kept) : (s.keep k).pending = s.pending := rfl
@[simp] theorem State.keep_free (s : State) (k : Kept) : (s.keep k).free = s.free := rfl
@[simp] theorem State.keep_reg (s : State) (k : Kept) : (s.keep k).reg = s.reg := rfl
@[simp] theorem State.keep_ev (s : State) (k : Kept) : (s.keep k).ev = s.ev := rfl
@[simp] theorem State.keep_time (s : State) (k : Kept) : (s.keep k).time = s.time := rfl
@[simp] theorem State.keep_mains (s : State) (k : Kept) : (s.keep k).mains = s.mains := rfl
@[simp] theorem State.keep_pipe (s : State) (k : Kept) : (s.keep k).pipe = s.pipe := rfl
@[simp] theorem State.keep_meter (s : State) (k : Kept) : (s.keep k).meter = s.meter := rfl
@[simp] theorem State.keep_leg (s : State) (k : Kept) : (s.keep k).leg = s.leg := rfl
@[simp] theorem State.keep_bal (s : State) (k : Kept) : (s.keep k).bal = s.bal := rfl
@[simp] theorem State.keep_dist (s : State) (k : Kept) : (s.keep k).dist = s.dist := rfl
@[simp] theorem State.keep_plc (s : State) (k : Kept) : (s.keep k).plc = s.plc := rfl
@[simp] theorem State.keep_radio (s : State) (k : Kept) : (s.keep k).radio = s.radio := rfl
@[simp] theorem State.keep_key (s : State) (k : Kept) : (s.keep k).key = s.key := rfl
@[simp] theorem State.keep_pwr (s : State) (k : Kept) : (s.keep k).pwr = s.pwr := rfl
@[simp] theorem State.keep_ftl (s : State) (k : Kept) : (s.keep k).ftl = s.ftl := rfl
@[simp] theorem State.keep_fwu (s : State) (k : Kept) : (s.keep k).fwu = s.fwu := rfl
@[simp] theorem State.keep_disp (s : State) (k : Kept) : (s.keep k).disp = s.disp := rfl
@[simp] theorem State.keep_fault (s : State) (k : Kept) : (s.keep k).fault = s.fault := rfl

@[simp] theorem State.dropHeld_pending (s : State) (p : Port) : (s.dropHeld p).pending = s.pending := rfl
@[simp] theorem State.dropHeld_free (s : State) (p : Port) : (s.dropHeld p).free = s.free := rfl
@[simp] theorem State.dropHeld_ev (s : State) (p : Port) : (s.dropHeld p).ev = s.ev := rfl
@[simp] theorem State.dropHeld_port (s : State) (p : Port) : (s.dropHeld p).port = s.port := rfl
@[simp] theorem State.dropHeld_time (s : State) (p : Port) : (s.dropHeld p).time = s.time := rfl
@[simp] theorem State.dropHeld_mains (s : State) (p : Port) : (s.dropHeld p).mains = s.mains := rfl
@[simp] theorem State.dropHeld_pipe (s : State) (p : Port) : (s.dropHeld p).pipe = s.pipe := rfl
@[simp] theorem State.dropHeld_meter (s : State) (p : Port) : (s.dropHeld p).meter = s.meter := rfl
@[simp] theorem State.dropHeld_leg (s : State) (p : Port) : (s.dropHeld p).leg = s.leg := rfl
@[simp] theorem State.dropHeld_bal (s : State) (p : Port) : (s.dropHeld p).bal = s.bal := rfl
@[simp] theorem State.dropHeld_dist (s : State) (p : Port) : (s.dropHeld p).dist = s.dist := rfl
@[simp] theorem State.dropHeld_plc (s : State) (p : Port) : (s.dropHeld p).plc = s.plc := rfl
@[simp] theorem State.dropHeld_radio (s : State) (p : Port) : (s.dropHeld p).radio = s.radio := rfl
@[simp] theorem State.dropHeld_key (s : State) (p : Port) : (s.dropHeld p).key = s.key := rfl
@[simp] theorem State.dropHeld_pwr (s : State) (p : Port) : (s.dropHeld p).pwr = s.pwr := rfl
@[simp] theorem State.dropHeld_ftl (s : State) (p : Port) : (s.dropHeld p).ftl = s.ftl := rfl
@[simp] theorem State.dropHeld_fwu (s : State) (p : Port) : (s.dropHeld p).fwu = s.fwu := rfl
@[simp] theorem State.dropHeld_disp (s : State) (p : Port) : (s.dropHeld p).disp = s.disp := rfl
@[simp] theorem State.dropHeld_fault (s : State) (p : Port) : (s.dropHeld p).fault = s.fault := rfl

@[simp] theorem State.mirror_pending (s : State) : s.mirror.pending = s.pending := by simp only [State.mirror, State.set_pending]
@[simp] theorem State.mirror_free (s : State) : s.mirror.free = s.free := by simp only [State.mirror, State.set_free]
@[simp] theorem State.mirror_ev (s : State) : s.mirror.ev = s.ev := by simp only [State.mirror, State.set_ev]
@[simp] theorem State.mirror_port (s : State) : s.mirror.port = s.port := by simp only [State.mirror, State.set_port]
@[simp] theorem State.mirror_time (s : State) : s.mirror.time = s.time := by simp only [State.mirror, State.set_time]
@[simp] theorem State.mirror_mains (s : State) : s.mirror.mains = s.mains := by simp only [State.mirror, State.set_mains]
@[simp] theorem State.mirror_pipe (s : State) : s.mirror.pipe = s.pipe := by simp only [State.mirror, State.set_pipe]
@[simp] theorem State.mirror_meter (s : State) : s.mirror.meter = s.meter := by simp only [State.mirror, State.set_meter]
@[simp] theorem State.mirror_leg (s : State) : s.mirror.leg = s.leg := by simp only [State.mirror, State.set_leg]
@[simp] theorem State.mirror_bal (s : State) : s.mirror.bal = s.bal := by simp only [State.mirror, State.set_bal]
@[simp] theorem State.mirror_dist (s : State) : s.mirror.dist = s.dist := by simp only [State.mirror, State.set_dist]
@[simp] theorem State.mirror_plc (s : State) : s.mirror.plc = s.plc := by simp only [State.mirror, State.set_plc]
@[simp] theorem State.mirror_radio (s : State) : s.mirror.radio = s.radio := by simp only [State.mirror, State.set_radio]
@[simp] theorem State.mirror_key (s : State) : s.mirror.key = s.key := by simp only [State.mirror, State.set_key]
@[simp] theorem State.mirror_pwr (s : State) : s.mirror.pwr = s.pwr := by simp only [State.mirror, State.set_pwr]
@[simp] theorem State.mirror_ftl (s : State) : s.mirror.ftl = s.ftl := by simp only [State.mirror, State.set_ftl]
@[simp] theorem State.mirror_fwu (s : State) : s.mirror.fwu = s.fwu := by simp only [State.mirror, State.set_fwu]
@[simp] theorem State.mirror_disp (s : State) : s.mirror.disp = s.disp := by simp only [State.mirror, State.set_disp]
@[simp] theorem State.mirror_fault (s : State) : s.mirror.fault = s.fault := by simp only [State.mirror, State.set_fault]

end Sys2Proof.Machine
end

