-- ==== Sys2Proof/Laws/Fields.lean ====
section
/-! SUPPORT. The sparse tables and the register fields: what a read after a write gives, and that the store keeps its one
canonical form. -/

namespace Sys2Proof.Machine

theorem lookupK_insertK_same {α : Type} (k : Nat) (v : α) (l : List (Nat × α)) : lookupK k (insertK k v l) = some v := by
  induction l with
  | nil => simp [insertK, lookupK]
  | cons e t ih =>
    obtain ⟨j, w⟩ := e
    simp only [insertK]
    split
    · simp [lookupK]
    · split
      · simp [lookupK]
      · simp_all [lookupK]

theorem lookupK_insertK_ne {α : Type} {k j : Nat} (v : α) (h : j ≠ k) (l : List (Nat × α)) :
    lookupK j (insertK k v l) = lookupK j l := by
  induction l with
  | nil => simp [insertK, lookupK, h]
  | cons e t ih =>
    obtain ⟨i, w⟩ := e
    simp only [insertK]
    split
    · simp [lookupK, h]
    · split
      · subst_vars; simp [lookupK, h]
      · simp [lookupK, ih]

theorem lookupK_eraseK_same {α : Type} (k : Nat) (l : List (Nat × α)) : lookupK k (eraseK k l) = none := by
  induction l with
  | nil => rfl
  | cons e t ih =>
    obtain ⟨j, w⟩ := e
    by_cases h : j = k
    · simpa [eraseK, h] using ih
    · have h' : k ≠ j := fun x => h x.symm
      simpa [eraseK, h, lookupK, h'] using ih

theorem lookupK_eraseK_ne {α : Type} {k j : Nat} (h : j ≠ k) (l : List (Nat × α)) : lookupK j (eraseK k l) = lookupK j l := by
  induction l with
  | nil => rfl
  | cons e t ih =>
    obtain ⟨i, w⟩ := e
    by_cases hk : i = k
    · have : j ≠ i := fun x => h (x.trans hk)
      simpa [eraseK, hk, lookupK, h] using ih
    · simpa [eraseK, hk, lookupK] using congrArg (fun z => if j = i then some w else z) ih

/-- A field read after it was set gives the value's bits of its width (R8). -/
@[simp] theorem State.geti_seti_same (s : State) (f : Fld) (i v : Nat) (hc : i < f.cnt) :
    (s.seti f i v).geti f i = v % 2 ^ f.w := by
  simp only [State.geti, State.seti, putField, if_pos hc]
  split
  · rename_i h; simp [lookupK_eraseK_same, h]
  · simp [lookupK_insertK_same]

/-- Setting a field leaves every field of another key alone. -/
theorem State.geti_seti_ne (s : State) {f g : Fld} {i j : Nat} (v : Nat) (h : g.key j ≠ f.key i) :
    (s.seti f i v).geti g j = s.geti g j := by
  simp only [State.geti, State.seti, putField]
  split
  · split
    · rw [lookupK_eraseK_ne h]
    · rw [lookupK_insertK_ne _ h]
  · rfl

/-- An instance that the register does not have is not written. -/
theorem State.seti_absent (s : State) (f : Fld) (i v : Nat) (h : f.cnt ≤ i) : s.seti f i v = s := by
  simp [State.seti, Nat.not_lt.2 h]

@[simp] theorem State.get_set_same (s : State) (f : Fld) (v : Nat) (hc : 0 < f.cnt) : (s.set f v).get f = v % 2 ^ f.w :=
  s.geti_seti_same f 0 v hc

theorem State.get_set_ne (s : State) {f g : Fld} (v : Nat) (h : g.key 0 ≠ f.key 0) : (s.set f v).get g = s.get g :=
  s.geti_seti_ne v h

/-- What every command draws at its end leaves every other field alone. -/
theorem State.geti_mirror (s : State) (g : Fld) (j : Nat) (h : g.key j ∉ mirrorKeys) : s.mirror.geti g j = s.geti g j := by
  simp only [mirrorKeys, List.mem_cons, List.not_mem_nil, or_false, not_or] at h
  obtain ⟨h1, h2, h3, h4, h5, h6⟩ := h
  simp only [State.mirror, State.set]
  rw [State.geti_seti_ne _ _ h6, State.geti_seti_ne _ _ h5, State.geti_seti_ne _ _ h4, State.geti_seti_ne _ _ h3,
    State.geti_seti_ne _ _ h2, State.geti_seti_ne _ _ h1]

/-! ## The canonical form -/

/-- The keys of a table are all above a bound. -/
def above {α : Type} (b : Nat) (l : List (Nat × α)) : Prop := ∀ e ∈ l, b < e.1

theorem risingKeys_cons {α : Type} (j : Nat) (v : α) (t : List (Nat × α)) :
    risingKeys ((j, v) :: t) = true ↔ above j t ∧ risingKeys t = true := by
  induction t generalizing j v with
  | nil => simp [risingKeys, above]
  | cons e t ih =>
    obtain ⟨k, w⟩ := e
    simp only [risingKeys, Bool.and_eq_true, decide_eq_true_eq]
    constructor
    · rintro ⟨h1, h2⟩
      refine ⟨?_, h2⟩
      intro x hx
      rcases List.mem_cons.1 hx with rfl | hx
      · exact h1
      · exact Nat.lt_trans h1 (((ih k w).1 h2).1 x hx)
    · rintro ⟨h1, h2⟩
      exact ⟨h1 (k, w) (by simp), h2⟩

theorem mem_insertK {α : Type} {k : Nat} {v : α} {l : List (Nat × α)} {e : Nat × α} (h : e ∈ insertK k v l) :
    e = (k, v) ∨ e ∈ l := by
  induction l with
  | nil => simpa [insertK] using h
  | cons a t ih =>
    obtain ⟨j, w⟩ := a
    simp only [insertK] at h
    split at h
    · simpa using h
    · split at h
      · rcases List.mem_cons.1 h with h | h
        · exact .inl h
        · exact .inr (List.mem_cons_of_mem _ h)
      · rcases List.mem_cons.1 h with h | h
        · exact .inr (by simp [h])
        · rcases ih h with h | h
          · exact .inl h
          · exact .inr (List.mem_cons_of_mem _ h)

theorem risingKeys_insertK {α : Type} (k : Nat) (v : α) (l : List (Nat × α)) (h : risingKeys l = true) :
    risingKeys (insertK k v l) = true := by
  induction l with
  | nil => rfl
  | cons a t ih =>
    obtain ⟨j, w⟩ := a
    obtain ⟨ha, ht⟩ := (risingKeys_cons j w t).1 h
    simp only [insertK]
    split
    · rename_i hk
      refine (risingKeys_cons _ _ _).2 ⟨?_, h⟩
      intro x hx
      rcases List.mem_cons.1 hx with rfl | hx
      · exact hk
      · exact Nat.lt_trans hk (ha x hx)
    · split
      · subst_vars
        exact (risingKeys_cons _ _ _).2 ⟨ha, ht⟩
      · rename_i h1 h2
        refine (risingKeys_cons _ _ _).2 ⟨?_, ih ht⟩
        intro x hx
        rcases mem_insertK hx with rfl | hx
        · simp only; omega
        · exact ha x hx

theorem risingKeys_eraseK {α : Type} (k : Nat) (l : List (Nat × α)) (h : risingKeys l = true) :
    risingKeys (eraseK k l) = true := by
  induction l with
  | nil => rfl
  | cons a t ih =>
    obtain ⟨j, w⟩ := a
    obtain ⟨ha, ht⟩ := (risingKeys_cons j w t).1 h
    by_cases hk : j = k
    · simpa [eraseK, hk] using ih ht
    · have hr : eraseK k ((j, w) :: t) = (j, w) :: eraseK k t := by simp [eraseK, hk]
      rw [hr]
      refine (risingKeys_cons _ _ _).2 ⟨fun x hx => ha x (List.mem_filter.1 hx).1, ih ht⟩

/-- Setting a field keeps the store's canonical form. -/
theorem State.storeCanonical_seti (s : State) (f : Fld) (i v : Nat) (h : risingKeys s.reg.fields = true) :
    risingKeys (s.seti f i v).reg.fields = true := by
  simp only [State.seti, putField]
  split
  · split
    · exact risingKeys_eraseK _ _ h
    · exact risingKeys_insertK _ _ _ h
  · exact h

/-! ## The register map -/

theorem findIn_mem (a : Nat) (l : List RegDef) {r : RegDef} {i : Nat} (h : findIn a l = some (r, i)) : r ∈ l ∧ r.instAt a = some i := by
  induction l with
  | nil => simp [findIn] at h
  | cons x l ih =>
    simp only [findIn] at h
    split at h
    · next j hj => cases h; exact ⟨by simp, hj⟩
    · exact ⟨List.mem_cons_of_mem _ (ih h).1, (ih h).2⟩

set_option maxRecDepth 8000 in
/-- Every field of a register has as many instances as the register, which has at least one. -/
theorem blockRegs_cnt : (blockRegs.all (fun b => b.all (fun r => decide (0 < r.cnt) && r.flds.all (fun f => f.cnt == r.cnt)))) = true := by
  decide

/-- The register found at an address has the instance found, and so has each of its fields. -/
theorem findReg_cnt {a : Nat} {r : RegDef} {i : Nat} (h : findReg a = some (r, i)) : i < r.cnt ∧ ∀ f ∈ r.flds, f.cnt = r.cnt := by
  simp only [findReg] at h
  split at h
  · cases h
  · next b _ =>
    obtain ⟨hm, hi⟩ := findIn_mem a _ h
    have hb : blockRegs.getD b [] ∈ blockRegs ∨ blockRegs.getD b [] = [] := by
      by_cases hl : b < blockRegs.length
      · left; simp [List.getD, hl]
      · right; simp [List.getD, hl]
    rcases hb with hb | hb
    · have hr := List.all_eq_true.1 (List.all_eq_true.1 blockRegs_cnt _ hb) _ hm
      simp only [Bool.and_eq_true, decide_eq_true_eq, List.all_eq_true, beq_iff_eq] at hr
      refine ⟨?_, hr.2⟩
      simp only [RegDef.instAt] at hi
      split at hi
      · cases hi
      · split at hi
        · split at hi
          · cases hi; exact hr.1
          · cases hi
        · split at hi
          · next h2 => cases hi; exact h2.2
          · cases hi
    · rw [hb] at hm; exact absurd hm (List.not_mem_nil)

end Sys2Proof.Machine
end

