-- ==== Sys2Proof/Laws/Events.lean ====
section
/-! SUPPORT. What logging an event, queueing a packet, notifying and answering a request can do: each changes the register
store, the recorder and the ports, and nothing else. -/

namespace Sys2Proof.Machine

/-- One state differs from another in the registers, the recorder and the ports only. -/
def State.Near (s t : State) : Prop := ∃ g e p, t = { s with reg := g, ev := e, port := p }

theorem State.Near.rfl' (s : State) : s.Near s := ⟨s.reg, s.ev, s.port, rfl⟩

theorem State.Near.trans {s t u : State} (h : s.Near t) (k : t.Near u) : s.Near u := by
  obtain ⟨g, e, p, rfl⟩ := h
  obtain ⟨g', e', p', rfl⟩ := k
  exact ⟨g', e', p', rfl⟩

theorem State.near_seti (s : State) (f : Fld) (i v : Nat) : s.Near (s.seti f i v) := ⟨_, s.ev, s.port, rfl⟩
theorem State.near_set (s : State) (f : Fld) (v : Nat) : s.Near (s.set f v) := ⟨_, s.ev, s.port, rfl⟩
theorem State.near_inci (s : State) (f : Fld) (i n : Nat) : s.Near (s.inci f i n) := ⟨_, s.ev, s.port, rfl⟩
theorem State.near_inc (s : State) (f : Fld) : s.Near (s.inc f) := ⟨_, s.ev, s.port, rfl⟩
theorem State.near_setEgq (s : State) (q : EgQ) : s.Near (s.setEgq q) := ⟨s.reg, s.ev, _, rfl⟩
theorem State.near_setBucket (s : State) (b : Bucket) : s.Near (s.setBucket b) := ⟨s.reg, _, s.port, rfl⟩
theorem State.near_raiseSrc (s : State) (n : Nat) : s.Near (s.raiseSrc n) := ⟨s.reg, _, s.port, rfl⟩
theorem State.near_openWin (s : State) (w : LogWin) : s.Near (s.openWin w) := ⟨s.reg, _, s.port, rfl⟩
theorem State.near_store (s : State) (r : Rec) : s.Near (s.store r) := ⟨s.reg, _, s.port, rfl⟩
theorem State.near_keep (s : State) (k : Kept) : s.Near (s.keep k) := ⟨s.reg, s.ev, _, rfl⟩
theorem State.near_took (s : State) (q w n : Nat) : s.Near (s.took q w n) := ⟨s.reg, s.ev, _, rfl⟩

theorem State.near_mirror (s : State) : s.Near s.mirror := by
  unfold State.mirror
  exact ((((((s.near_set _ _).trans (State.near_set _ _ _)).trans (State.near_set _ _ _)).trans
    (State.near_set _ _ _)).trans (State.near_set _ _ _)).trans (State.near_set _ _ _))

theorem State.near_uartCopy (s : State) (r : Rec) : s.Near (s.uartCopy r) := by
  unfold State.uartCopy
  dsimp only
  split
  · split
    · exact ⟨s.reg, _, s.port, rfl⟩
    · exact ⟨s.reg, _, s.port, rfl⟩
  · exact .rfl' s

theorem State.near_fileRec (s : State) (r : Rec) : s.Near (s.fileRec r) := by
  unfold State.fileRec
  split
  · exact ⟨s.reg, _, s.port, rfl⟩
  · exact State.near_store _ _

theorem State.near_intakeIn (s : State) : s.Near s.intakeIn := ⟨s.reg, _, s.port, rfl⟩

theorem State.near_lose (s : State) (c : Nat) : s.Near (s.lose c) := by
  unfold State.lose
  dsimp only
  split
  · exact (s.near_inc _).trans ⟨(s.inc F.EVREC_LOST).reg, _, s.port, rfl⟩
  · exact (s.near_inc _).trans ⟨(s.inc F.EVREC_LOST).reg, _, s.port, rfl⟩

theorem State.near_closeLost (s : State) : s.Near s.closeLost.1 := by
  unfold State.closeLost
  split
  · exact (State.Near.trans ⟨s.reg, _, s.port, rfl⟩ (State.near_fileRec _ _)).trans (State.near_uartCopy _ _)
  · exact .rfl' s

theorem State.near_accept (s : State) (c : Nat) (fl : List (Nat × Nat)) (o : Nat) : s.Near (s.accept c fl o).1 := by
  unfold State.accept
  split
  · exact State.near_lose _ _
  · dsimp only
    refine (s.near_closeLost.trans (State.near_intakeIn _)).trans ?_
    refine State.Near.trans ?_ ((State.near_fileRec _ _).trans (State.near_uartCopy _ _))
    exact ⟨_, _, _, rfl⟩

theorem near_foldl {α : Type} (f : State → α → State) (hf : ∀ (s : State) (a : α), s.Near (f s a)) (l : List α) :
    ∀ s : State, s.Near (l.foldl f s) := by
  induction l with
  | nil => exact fun s => .rfl' s
  | cons a t ih => exact fun s => (hf s a).trans (ih _)

theorem State.Near.ite {α : Type} {p : Prop} [Decidable p] {s : State} {x y : State × α} (hx : s.Near x.1) (hy : s.Near y.1) :
    s.Near (if p then x else y).1 := by
  by_cases h : p
  · rw [if_pos h]; exact hx
  · rw [if_neg h]; exact hy

theorem State.near_settle (s : State) (c : Nat) : s.Near (s.settle c).1 :=
  .ite (.rfl' s) (.ite (State.near_setBucket _ _) ((State.near_setBucket _ _).trans (State.near_accept _ _ _ _)))

theorem State.near_draws (s : State) (c : Nat) : s.Near (s.draws c).1 :=
  .ite (State.near_setBucket _ _) ((State.near_setBucket _ _).trans (State.near_inc _ _))

theorem State.Near.pick {s : State} {y : State × Bool} (l : List Rec) (h : s.Near y.1) (b : Bool) :
    s.Near (if b = true then (y.1, y.2, l) else (s, true, [])).1 := by
  by_cases k : b = true
  · rw [if_pos k]; exact h
  · rw [if_neg k]; exact .rfl' s

theorem State.near_token (s : State) (c : Nat) : s.Near (s.token c).1 :=
  State.Near.pick (y := (s.settle c).1.draws c) _ ((s.near_settle c).trans (State.near_draws (s.settle c).1 c)) _

theorem State.near_raiseFor (s : State) (r : Rec) : s.Near (s.raiseFor r) := by
  unfold State.raiseFor
  split
  · exact State.near_raiseSrc _ _
  · exact .rfl' s

theorem State.near_logRec (s : State) (c : Nat) (fl : List (Nat × Nat)) (o : Nat) : s.Near (s.logRec c fl o).1 := by
  unfold State.logRec
  refine State.Near.trans ?_ (near_foldl _ State.near_raiseFor _ _)
  split
  · exact (s.near_token c).trans (State.near_accept _ _ _ _)
  · exact s.near_token c

theorem near_proofWith (lg : State → Nat → List (Nat × Nat) → State) (hl : ∀ (s : State) (c : Nat) (fl : List (Nat × Nat)), s.Near (lg s c fl))
    (s : State) : s.Near (proofWith lg s) := by
  unfold proofWith
  split
  · exact (State.near_set _ _ _).trans (hl _ _ _)
  · exact .rfl' s

theorem near_enqWith (lg : State → Nat → List (Nat × Nat) → State) (hl : ∀ (s : State) (c : Nat) (fl : List (Nat × Nat)), s.Near (lg s c fl))
    (p : Nat) (pk : EgPkt) (full : FullAct) (s : State) : s.Near (enqWith lg p pk full s) := by
  unfold enqWith
  dsimp only
  repeat' split
  all_goals first
    | exact State.near_setEgq _ _
    | exact (State.near_setEgq _ _).trans (hl _ _ _)
    | exact (State.near_inc _ _).trans (hl _ _ _)
    | exact State.near_inc _ _

theorem near_notifyWith (lg : State → Nat → List (Nat × Nat) → State) (hl : ∀ (s : State) (c : Nat) (fl : List (Nat × Nat)), s.Near (lg s c fl))
    (code cls : Nat) (body : Bytes) (s : State) : s.Near (notifyWith lg code cls body s) := by
  unfold notifyWith
  split
  · exact .rfl' s
  · dsimp only
    exact State.Near.trans ⟨s.reg, s.ev, _, rfl⟩ (near_enqWith lg hl _ _ _ _)

theorem near_tellWith (lg : State → Nat → List (Nat × Nat) → State) (hl : ∀ (s : State) (c : Nat) (fl : List (Nat × Nat)), s.Near (lg s c fl))
    (s : State) (r : Rec) : s.Near (tellWith lg s r) := by
  unfold tellWith
  split
  · split
    · exact near_notifyWith lg hl _ _ _ _
    · exact .rfl' s
  · exact .rfl' s

theorem near_logD (d : Nat) : ∀ (o : Org) (s : State) (c : Nat) (fl : List (Nat × Nat)), s.Near (logD d o s c fl) := by
  induction d with
  | zero => intro o s c fl; exact State.near_logRec _ _ _ _
  | succ d ih =>
    intro o s c fl
    unfold logD
    dsimp only
    refine State.Near.trans ?_ (near_proofWith _ (fun s c fl => ih _ s c fl) _)
    exact (State.near_logRec s c fl (s.origin o)).trans (near_foldl _ (near_tellWith _ (fun s c fl => ih _ s c fl)) _ _)

theorem State.near_log (s : State) (c : Nat) (fl : List (Nat × Nat)) (o : Org) : s.Near (s.log c fl o) := near_logD 2 o s c fl

theorem State.near_enq (s : State) (p : Nat) (pk : EgPkt) (full : FullAct) : s.Near (s.enq p pk full) :=
  near_enqWith _ (fun s c fl => near_logD 2 _ s c fl) p pk full s

theorem State.near_notify (s : State) (k c cls : Nat) (b : Bytes) : s.Near (s.notify k c cls b) := by
  unfold State.notify
  split
  · split
    · exact near_notifyWith _ (fun s c fl => near_logD 2 _ s c fl) _ _ _ _
    · exact .rfl' s
  · exact .rfl' s

theorem State.near_logOnce (s : State) (c k p : Nat) (fl : List (Nat × Nat)) (o : Org) : s.Near (s.logOnce c k p fl o) := by
  unfold State.logOnce
  split
  · exact .rfl' s
  · exact (State.near_openWin _ _).trans (State.near_log _ _ _ _)

theorem State.near_windowOver (s : State) (c k : Nat) : s.Near (s.windowOver c k) := by
  unfold State.windowOver
  split
  · exact .rfl' s
  · dsimp only
    split
    · exact State.Near.trans ⟨s.reg, _, s.port, rfl⟩ (State.near_log _ _ _ _)
    · exact ⟨s.reg, _, s.port, rfl⟩

theorem State.near_logCount (s : State) (c k p n : Nat) (o : Org) : s.Near (s.logCount c k p n o) := by
  unfold State.logCount
  split
  · exact State.near_openWin _ _
  · exact (State.near_windowOver _ _ _).trans (State.near_openWin _ _)

theorem State.near_logMarked (s : State) (w : Port) (c : Nat) (fl : List (Nat × Nat)) (o : Org) :
    s.Near (s.logMarked w c fl o) := by
  unfold State.logMarked State.marked
  exact (State.Near.trans ⟨s.reg, _, s.port, rfl⟩ (State.near_log _ _ _ _)).trans
    ⟨_, _, _, rfl⟩

theorem State.near_sendResp (s : State) (r : Req) (fr : Bytes) (pair : Bool) : s.Near (s.sendResp r fr pair) := by
  unfold State.sendResp
  split
  · exact State.near_enq _ _ _ _
  · exact State.near_enq _ _ _ _
  · exact ⟨s.reg, s.ev, _, rfl⟩
  · exact .rfl' s

theorem State.near_respond (s : State) (r : Req) (c st : Nat) (b : Bytes) : s.Near (s.respond r c st b) := by
  unfold State.respond
  dsimp only
  split
  · exact State.near_sendResp _ _ _ _
  · exact (State.near_sendResp _ _ _ _).trans (State.near_keep _ _)

theorem State.near_journalCmd (s : State) (r : Req) (c : Nat) : s.Near (s.journalCmd r c) := State.near_log _ _ _ _

theorem State.near_refuseRole (s : State) (r : Req) (c : Nat) : s.Near (s.refuseRole r c) :=
  ((State.near_inc _ _).trans (State.near_log _ _ _ _)).trans (State.near_respond _ _ _ _ _)

theorem hcpGate_near (r : Req) (c : Nat) (s t : State) (h : hcpGate r c s = some t) : s.Near t := by
  unfold hcpGate at h
  generalize hcpRow c = row at h
  split at h
  · obtain rfl := Option.some.inj h
    exact .rfl' _
  · cases hk : s.keptFor r with
    | some k =>
      simp only [hk, Option.some.injEq] at h
      subst h
      refine State.Near.trans ?_ (State.near_sendResp _ _ _ _)
      split
      · exact .rfl' _
      · exact State.near_inci _ _ _ _
    | none =>
      simp only [hk] at h
      cases row with
      | none => obtain rfl := Option.some.inj h; exact State.near_respond _ _ _ _ _
      | some row =>
        simp only at h
        split at h
        · obtain rfl := Option.some.inj h; exact State.near_respond _ _ _ _ _
        · split at h
          · obtain rfl := Option.some.inj h; exact State.near_refuseRole _ _ _
          · split at h
            · obtain rfl := Option.some.inj h; exact (State.near_inc _ _).trans (State.near_respond _ _ _ _ _)
            · split at h
              · obtain rfl := Option.some.inj h; exact .rfl' _
              · split at h
                · obtain rfl := Option.some.inj h; exact State.near_respond _ _ _ _ _
                · cases h

end Sys2Proof.Machine
end

