-- ==== Sys2Proof/Tests/Slice0.lean ====
section
/-! SUPPORT. The author's own tests: an ill-formed term for each check of `wellFormed`, small tests of single steps against the
manual's words, and for each obligation a named state and operands that meet its hypotheses, with its conclusion there. -/

namespace Sys2Proof.Tests
open Sys2Proof Sys2Proof.Machine

set_option Elab.async false

/-! ## Helpers -/

/-- The next state of a command. -/
def nx (c : Instr) (s : State) : State := match exec c s with | .next t => t | .fault _ => State.reset | .refused _ => State.reset

/-- Register fields put to values. -/
def put (s : State) (l : List (Fld × Nat × Nat)) : State := l.foldl (fun t e => t.seti e.1 e.2.1 e.2.2) s

/-- A part past its start, an hour up, all enables at their reset values. -/
def up : State :=
  put { State.reset with pwr := { on := true }, time := { clk := 3600 * nsS, dev := 1000000 * nsS } }
    [(F.SYS_STATUS_C0READY, 0, 1), (F.SYS_STATUS_FULLREADY, 0, 1), (F.SYS_STATUS_STAGE, 0, 9), (F.PWR_STATUS_PHASE, 0, 2)]

/-- A request of a command at the seal port with the class of its row. -/
def rq (code : Nat) : Req := { port := .seal, reqid := 7, cls := ((hcpRow code).map (fun x => x.cls)).getD 0 }

/-- A request at the first uplink, protected. -/
def ru (code : Nat) : Req := { rq code with port := .uplink0, src := 5, sport := 9 }

/-- A response kept for a request, with status OK and a body. -/
def served (t : State) (r : Req) (code : Nat) (body : Bytes) : Bool :=
  t.port.kept.any (fun k => k.reqid == r.reqid && k.frame == hcpFrame 1 r.cls (b2n r.outprof) code r.reqid r.ref stOK body)

/-- A served command at one state: its hypotheses, its answer and what it leaves. -/
def sv (s : State) (r : Req) (code : Nat) (c : Instr) (pre : State → Bool) (body : State → Bytes) (post : State → State → Bool) : Bool :=
  s.passes r code && pre (s.atRun r code) && served (nx c s) r code (body (s.atRun r code)) && post (s.atRun r code) (nx c s)

/-- A write at one state: its hypotheses and what it leaves. -/
def wr (s : State) (p : Port) (f : Fld) (v : Nat) (c : Port → Word → Instr) (pre : Bool) (post : State → Bool) : Bool :=
  s.admits p f.addr v && pre && post (nx (c p (BitVec.ofNat 32 v)) s)

/-- Every one of these holds. -/
def holds (l : List Bool) : Bool := l.all id

/-- A balance result of node 3. -/
def res3 : BRes := ⟨3, 900, 0, 1, 5, 4, 1, 0, 0, 1000, 0, 0, 0, 0⟩

/-- `up` with meter records. -/
def withRecs (l : List (Nat × MRec)) : State := { up with meter := { up.meter with placeK := some (zeros 16), recs := l } }

/-- A record in a life state, with a profile and a reserve of every field at its least. -/
def mr (st : Nat) : MRec := { ident := 5, state := st, profile := 2, node := 65535, scheme := 65535, gen := 1, h := 4 }

/-- Slot fields that are in range. -/
def sf : SlotFields := { profile := 2, minkv := 0, seed := 3, flags := 1, node := 65535, scheme := 65535, pmax := 9, key := zeros 64 }

/-- An item of class 3 whose frame no form recognises. -/
def item (seq : Nat) : Item := { medium := 2, port := 0, seq := seq, stamp := 1000000 * nsS, frame := zeros 60 }

/-- A crossing and a power-line frame of zeros. -/
def xing0 : Crossing := ⟨0, 0, 0, 0, 0, 0, 0⟩
@[inherit_doc xing0] def plc0 : PlcRx := ⟨0, true, false, false, .mac, 0, 0, [], 0, 1, 0, [], 0, 0, [], none, 0, 0, 0⟩

/-! ## Ill-formed terms -/

theorem test_wf_addresses : holds [
    wellFormed (.registerWrite .config 0xFFFFFFFC 0), !wellFormed (.registerWrite .config 0x100000000 0), !wellFormed (.registerWrite .config 2 0),
    !wellFormed (.unmappedAccess .config 6 true), !wellFormed (.regread { port := .seal } 1 1), !wellFormed (.spiRead .seal 3), !wellFormed (.spiWrite .seal 3 0),
    !wellFormed (.cfgWrite 3 0), !wellFormed (.cfgWritePair 3 0), !wellFormed (.cfgWait 0 3 0 0 0)] = true := by decide +kernel

theorem test_wf_requests : holds [
    wellFormed (.info { port := .seal, cls := 3, reqid := 4294967295, ref := zeros 32, head := 4294967295 }),
    !wellFormed (.info { port := .seal, cls := 4 }), !wellFormed (.info { port := .seal, reqid := 4294967296 }),
    !wellFormed (.info { port := .seal, ref := zeros 33 }), !wellFormed (.info { port := .seal, head := 4294967296 })] = true := by decide +kernel

theorem test_wf_slots : holds [
    wellFormed (.commission { port := .seal } 1048575), !wellFormed (.commission { port := .seal } 1048576),
    !wellFormed (.replace { port := .seal } 3 1048576), !wellFormed (.replace { port := .seal } 1048576 3),
    !wellFormed (.curtail { port := .seal } 0 255 [1048576]), !wellFormed (.group { port := .seal } 0 0 [3, 1048576]),
    !wellFormed (.resumePosts { port := .seal } 0 [1048576]), !wellFormed (.recordRebuild 1048576), !wellFormed (.curtRefresh 1048576),
    !wellFormed (.update { port := .seal } 3 1 { sf with profile := 256 }), !wellFormed (.update { port := .seal } 3 1 { sf with minkv := 256 }),
    !wellFormed (.update { port := .seal } 3 1 { sf with seed := 256 }), !wellFormed (.update { port := .seal } 3 1 { sf with flags := 65536 }),
    !wellFormed (.provision { port := .seal } 3 { sf with node := 65536 }), !wellFormed (.provision { port := .seal } 3 { sf with scheme := 65536 }),
    !wellFormed (.provision { port := .seal } 3 { sf with pmax := 4294967296 })] = true := by decide +kernel

theorem test_wf_events : holds [
    !wellFormed (.mainsCrossing { xing0 with err := 65536 }), !wellFormed (.mainsCrossing { xing0 with dispB := 65536 }),
    !wellFormed (.mainsCrossing { xing0 with dispC := 65536 }), !wellFormed (.plcFrameReceive { plc0 with ch := 6 }),
    !wellFormed (.plcFrameReceive { plc0 with saddr := 65536 }), !wellFormed (.plcFrameReceive { plc0 with lqi := 256 }),
    !wellFormed (.plcFrameReceive { plc0 with part := 1 }), !wellFormed (.plcFrameReceive { plc0 with tmap := 2 ^ 24 }),
    !wellFormed (.plcFrameReceive { plc0 with mod := 8 }), !wellFormed (.plcFrameReceive { plc0 with lqif := 256 }), !wellFormed (.radioFrameReceive ⟨32, true, [], 0, 0, 0, false, false, false⟩),
    !wellFormed (.uplinkFrameReceive ⟨2, true, true, 0, 1, .verify⟩), !wellFormed (.timeplateArm .config 256 0), !wellFormed (.spillDrain 4),
    !wellFormed (.batchClose 4), !wellFormed (.intervalFinal 65536 0), !wellFormed (.define { port := .seal } 0 65536 0 0 0 0 0),
    !wellFormed (.uplinkTransmit 2), !wellFormed (.plcaOpportunity 8), !wellFormed (.plcTransmit 3), !wellFormed (.egressSpillDrain 0 4),
    !wellFormed (.maskPublish 3 0), !wellFormed (.hcpSet { port := .seal } 0 1000000000), !wellFormed (.keyroll { port := .seal } 2 0 0 0),
    !wellFormed (.keyroll { port := .seal } 0 0 0 1000000000), !wellFormed (.hashlist { port := .seal } [zeros 31]),
    !wellFormed (.xopen { port := .seal } 1 0 1 []), !wellFormed (.campdef { port := .seal } 0 0 0 0 0 0 (zeros 33) 0),
    !wellFormed (.notificationAck 0 65536 0), !wellFormed (.notificationTimeout 2 0 0), !wellFormed (.linkChange 2 true),
    !wellFormed (.eventLog 65536 [] 0), !wellFormed (.eventLog 0 [(3, 0)] 0), !wellFormed (.plateCommit (zeros 15553) 0 0),
    !wellFormed (.bor 7), !wellFormed (.t1sPhyFault 8 true)] = true := by decide +kernel

/-! ## Witnesses: registers -/

theorem witness_StepRunsTheFrontCommand :
    step { up with pending := [.timeSnap .config 1, .keyPress 2] } = exec (.timeSnap .config 1) { up with pending := [.keyPress 2] } := rfl

theorem witness_EmptyQueueLetsTimePass : up.pending = [] ∧ F.SYS_PAIRERR.key 0 ∉ mirrorKeys ∧
    (match step up with | .next t => t.time.clk | _ => 0) = up.time.clk + 1 := by decide +kernel

theorem witness_StatusFieldsAgreeAfterEveryStep : holds [
    decide ((match step { put up [(F.TIME_STATUS_STATE, 0, 2), (F.PORT_STATUS_CAUSES, 0, 4), (F.KEY_STATUS_GEN, 0, 3)] with
      pending := [.keyPress 1] } with
     | .next t => (t.get F.TIME_STATUS_TRUSTED, t.get F.PORT_STATUS_RESTRICTED, t.get F.KEY_STATUS_GENLEFT)
     | _ => (0, 0, 0)) = (1, 1, 12))] = true := by decide +kernel

theorem witness_RegisterWriteKeepsTheStoreCanonical :
    (∀ p a v s, s.StoreCanonical → ((fun _ _ _ t => t : Act) p a v s).StoreCanonical) ∧ risingKeys up.reg.fields = true ∧
    up.pairForced (F.EVREC_SEL_SEQ.addr - 0x8000) = false ∧
    risingKeys (up.regWrite (fun _ _ _ t => t) .config F.EVREC_SEL_SEQ.addr 1).st.reg.fields = true :=
  ⟨fun _ _ _ _ h => h, by decide +kernel, by decide +kernel, by decide +kernel⟩

theorem witness_ComplementAliasReadsZero : holds [
    (match findReg F.SYS_LOCK_LOCK.addr with
     | some (r, i) => (blockRegs.flatten.contains r && r.prot == .pair && decide (i < r.cnt) &&
        up.readWord false (r.at_ i + 0x8000) == 0)
     | none => false),
    (findReg 0x40008000).isNone,
    (findAlias 0x40008000).isNone,
    (up.heldBy .config).isNone,
    decide ((up.regWriteCore actOf .config 0x40008000 5).st = up)] = true := by decide +kernel

theorem witness_UnmappedAccessReadsZeroAndIsLoggedOnce :
    up.readWord false 0x401B0000 = 0 ∧ up.readWord false 0x4FFFFFFC = 0 ∧ (up.win Config.unmappedCode 0).isNone = true ∧
    ((up.openWin ⟨Config.unmappedCode, 0, up.time.clk + 5, false, 1, 0⟩).win Config.unmappedCode 0).isSome = true :=
  ⟨rfl, rfl, rfl, by simp [State.openWin, State.win]⟩

theorem witness_PlainWriteTakesEffectAtOnce : holds [
    ((findReg F.FAULT_DUR_US.addr).any (fun x => x.1.prot == .plain && !x.1.flds.isEmpty && x.1.flds.all (fun f => f.ty == .RW &&
      mayWrite .config x.1 x.2 f && up.inRange f x.2 (f.of 600) 600 && !mirrorKeys.contains (f.key x.2) && !logKeys.contains (f.key x.2)))),
    up.admits .config F.FAULT_DUR_US.addr 600,
    (lookupK F.FAULT_DUR_US.addr actTable).isNone,
    decide (F.TIME_TPCFG_KIND.addr + 8192 ≤ F.FAULT_DUR_US.addr),
    decide ((nx (.registerWrite .config F.FAULT_DUR_US.addr 600) up).get F.FAULT_DUR_US = 600)] = true := by decide +kernel

theorem witness_SecondWriteReplacesTheWholeShadow :
    let s := nx (.registerWrite .config F.PIPE_CTRL_EN.addr 5) up
    ((findReg F.PIPE_CTRL_EN.addr).any (fun x => x.1.prot == .plain && !x.1.flds.isEmpty && x.1.flds.all (fun f => f.ty == .RWS &&
      s.inRange f x.2 (f.of 3) 3 && f != F.T1S_CTRL_QUAL))) = true ∧
    s.admits .config F.PIPE_CTRL_EN.addr 3 = true ∧ (lookupK F.PIPE_CTRL_EN.addr actTable).isNone = true ∧
    (nx (.registerWrite .config F.PIPE_CTRL_EN.addr 3) s).reg.shadows.map (fun x => x.vals) =
      [[(F.PIPE_CTRL_EN.key 0, 1), (F.PIPE_CTRL_ACK_EN.key 0, 1), (F.PIPE_CTRL_SIGREQ_LEGAL.key 0, 0), (F.PIPE_CTRL_QUAR_DUP.key 0, 0)]] ∧
    (nx (.registerWrite .config F.PIPE_CTRL_EN.addr 3) s).get F.PIPE_CTRL_EN = 0 := by decide +kernel

/-- A port with a first write to SYS_LOCK held, begun just now. -/
def held : State := { up with reg := { up.reg with held := [⟨.config, F.SYS_LOCK_LOCK.addr, 6, up.time.clk⟩] } }

/-- The same with the corruption of the pair's second write armed. -/
def heldForced : State :=
  put { held with fault := { up.fault with armed := true } }
    [(F.FAULT_STATUS_ACTIVE, 0, 1), (F.FAULT_STATUS_DET, 0, 24), (F.FAULT_ADDRL, 0, F.SYS_LOCK_LOCK.addr), (F.FAULT_STATUS_LEFT, 0, 1)]

theorem witness_ComplementPairCompletesOrIsDiscarded : holds [
    !(held.pairForced F.SYS_LOCK_LOCK.addr),
    decide (held.heldBy .config = some ⟨.config, F.SYS_LOCK_LOCK.addr, 6, up.time.clk⟩),
    decide (up.heldBy .config = none),
    (findReg F.SYS_LOCK_LOCK.addr).any (fun x => x.1.prot == .pair && x.1.at_ x.2 == F.SYS_LOCK_LOCK.addr),
    decide ((nx (.registerWrite .config F.SYS_LOCK_LOCK.addr 6) up).heldBy .config = some ⟨.config, F.SYS_LOCK_LOCK.addr, 6, up.time.clk⟩),
    decide ((nx (.registerWrite .config (F.SYS_LOCK_LOCK.addr + 0x8000) (4294967295 - 6)) held).get F.SYS_LOCK_LOCK = 6),
    decide ((nx (.registerWrite .config (F.SYS_LOCK_LOCK.addr + 0x8000) (4294967295 - 5)) held).get F.SYS_LOCK_LOCK = 0),
    decide ((nx (.registerWrite .config (F.SYS_LOCK_LOCK.addr + 0x8000) (4294967295 - 5)) held).get F.SYS_PAIRERR = 1),
    heldForced.pairForced F.SYS_LOCK_LOCK.addr,
    decide ((nx (.registerWrite .config (F.SYS_LOCK_LOCK.addr + 0x8000) (4294967295 - 6)) heldForced).get F.SYS_LOCK_LOCK = 0),
    decide ((nx (.registerWrite .config (F.SYS_LOCK_LOCK.addr + 0x8000) (4294967295 - 6)) heldForced).get F.SYS_PAIRERR = 1),
    decide ((nx (.registerWrite .config (F.FAULT_DUR_US.addr) 600) held).get F.SYS_PAIRERR = 1),
    decide ((nx (.registerWrite .config (F.FAULT_DUR_US.addr) 600) held).get F.FAULT_DUR_US = 600),
    decide ((nx (.registerWrite .config (F.SYS_STROBE_FIRE.addr + 0x8000) 5) held).get F.SYS_PAIRERR = 1),
    decide ((nx (.registerWrite .config (F.SYS_LOCK_LOCK.addr + 0x8000) 5) up).get F.SYS_PAIRERR = 1)] = true := by decide +kernel

/-- The copies of METER_QCFG.STRIKES set apart. -/
def apart (a b c : Nat) : State := { up with reg := { up.reg with tri := [⟨F.METER_QCFG_STRIKES.key 0, a, b, c, .none⟩] } }

theorem witness_VoteTakesTheMajority : holds [
    decide (F.METER_QCFG_STRIKES.ty = .RWT),
    decide (((findReg (F.METER_QCFG_STRIKES.key 0 / 32)).bind (fun x => x.1.flds.find? (fun g => g.key x.2 == F.METER_QCFG_STRIKES.key 0))) =
      some F.METER_QCFG_STRIKES),
    decide ((nx .tripleVote (apart 5 5 5)).get F.METER_QCFG_STRIKES = 5),
    decide ((nx .tripleVote (apart 5 5 5)).get F.SYS_TRICORR = 0),
    decide ((nx .tripleVote (apart 5 9 5)).get F.METER_QCFG_STRIKES = 5),
    decide ((nx .tripleVote (apart 5 9 5)).get F.SYS_TRICORR = 1),
    decide ((nx .tripleVote (apart 5 9 9)).get F.METER_QCFG_STRIKES = 9),
    decide ((nx .tripleVote (apart 5 9 9)).reg.tri = []),
    decide ((nx .tripleVote (apart 5 9 3)).get F.METER_QCFG_STRIKES = 8),
    decide ((nx .tripleVote (apart 5 9 3)).get F.SYS_TRIFAULT = 1),
    decide ((nx .tripleVote (apart 5 9 3)).get F.SYS_STATUS_TRIFAULT = 1)] = true := by decide +kernel

theorem witness_RegisterEngineCompletes : holds [
    ((held.heldBy .config).isSome && (nx (.pairTimeout .config) held).heldBy .config == none &&
      decide (held.time.clk < (nx (.pairTimeout .config) held).time.clk) && (nx (.pairTimeout .config) held).get F.SYS_PAIRERR == 1),
    (let s : State := { up with reg := { up.reg with spiHeld := [⟨.service, F.SYS_LOCK_LOCK.addr, 3, 0⟩] } }
     s.reg.spiHeld.any (fun h => h.port == .service) && (nx (.spiPairHoldExpire .service) s).reg.spiHeld.isEmpty &&
     (nx (.spiPairHoldExpire .service) s).reg.lastRef.contains .service),
    (let s := nx (.registerWrite .config F.PIPE_CTRL_EN.addr 5) up
     s.reg.shadows.length == 1 && wr s .config F.SYS_STROBE_FIRE 8 .sysStrobe (s.reg.shadows.all (fun x => x.addr != F.RADIO_CTRL_BAND.addr))
       (fun t => t.reg.shadows.isEmpty && t.get F.PIPE_CTRL_EN == 1)),
    wr (put up [(F.SYS_LOCK_LOCK, 0, 2)]) .config F.SYS_LOCK_LOCK 9 .sysLock (up.pairForced F.SYS_LOCK_LOCK.addr == false)
      (fun t => t.get F.SYS_LOCK_LOCK == 11),
    wr (put { up with fault := { up.fault with armed := true } }
        [(F.FAULT_STATUS_ACTIVE, 0, 1), (F.FAULT_STATUS_DET, 0, 24), (F.FAULT_ADDRL, 0, F.SYS_LOCK_LOCK.addr), (F.FAULT_STATUS_LEFT, 0, 1)])
      .config F.SYS_LOCK_LOCK 9 .sysLock (heldForced.pairForced F.SYS_LOCK_LOCK.addr) (fun t => t.get F.SYS_LOCK_LOCK == 0),
    (let s : State := { nx (.sysStrobe .config 2) (nx (.registerWrite .config F.TIME_SLEWMAX_PPM.addr 50) up) with pwr := { up.pwr with noPll := [.PTP] } }
     s.pwr.noPll.contains .PTP && s.reg.xing.length == 1 && nx (.crossingComplete .PTP) s == s.mirror),
    decide ((nx (.crossingComplete .PTP) (nx (.sysStrobe .config 2) (nx (.registerWrite .config F.TIME_SLEWMAX_PPM.addr 50) up))).get
      F.TIME_SLEWMAX_PPM = 50)] = true := by decide +kernel

/-! ## Witnesses: the Head-End Command Protocol -/

theorem witness_StoppedRequestChangesNothingElse :
    let r : Req := { rq 0x0102 with cls := 0 }
    requestOf (.commission r 3) = some (r, 0x0102) ∧ up.passes r 0x0102 = false ∧
    (nx (.commission r 3) up).port.kept.length = 1 := by decide +kernel

theorem witness_DownstreamPortNeverCommands : holds [
    !(hcpPort .t1s),
    decide ((up.takeReq { rq 0x0102 with port := .t1s } 0x0102).2 = true),
    decide (nx (.commission { rq 0x0102 with port := .t1s } 3) up = (up.atRun { rq 0x0102 with port := .t1s } 0x0102).mirror)] = true := by decide +kernel

/-- The response to INFO is kept. -/
def kept : State := nx (.info (ru 1)) up

theorem witness_KeptResponseIsSentAgain : holds [
    hcpPort .uplink0,
    decide ((kept.takeReq (ru 1) 1).2 = true),
    decide ((kept.atRun (ru 1) 1).role .uplink0 ≠ 0),
    decide (((kept.atRun (ru 1) 1).keptFor (ru 1)).map (fun k => k.store) = some 0),
    decide ((nx (.info (ru 1)) kept).geti F.UPLINK_CACHEHIT 0 = 1),
    decide ((nx (.info (ru 1)) kept).port.kept.length = 1)] = true := by decide +kernel

theorem witness_ForbiddenRoleIsRefused :
    let s := put up [(F.PORT_ROLE_UPL0, 0, 2)]
    let r := ru 0x0102
    (hcpRow 0x0102).any (fun row => r.cls == row.cls && roleAllows (s.atRun r 0x0102) row ((s.atRun r 0x0102).role r.port) == false) = true ∧
    (s.takeReq r 0x0102).2 = true ∧ (s.atRun r 0x0102).role r.port ≠ 0 ∧ (s.atRun r 0x0102).keptFor r = none ∧
    (nx (.commission r 3) s).get F.PORT_REFUSED = 1 := by decide +kernel

theorem witness_ReadingCommandsChangeNothingElse : holds [
    decide ((nx (.info (rq 1)) up).port.kept.length = 1),
    decide ((nx (.find (rq 0x010C) 5) up).port.kept.length = 1)] = true := by decide +kernel

/-- A transfer that holds an image whole and is closed. -/
def image (kind : Nat) (b : Bytes) : Xfer :=
  { handle := 2, kind := kind, target := 0, size := b.length, sha := sha256 b, atSeal := true, closed := true,
    units := unitsOf 0 (b.length + 1) b }

theorem witness_ReadsAreServed : holds [
    up.passes (ru 1) 1,
    up.passes (ru 2) 2,
    decide ((nx (.regread (ru 2) 0x40000000 256) up).port.kept.length = 1),
    up.passes (ru 0x401) 0x401,
    up.passes (ru 0x502) 0x502,
    !((up.atRun (ru 0x502) 0x502).on F.KEY_STATUS_FUSEGATED),
    sv up (ru 0x600) 0x600 (.evread (ru 0x600) 2 44 0) (fun _ => true)
      (fun s => ((((s.area 2).dropWhile (fun x => decide (2147483648 ≤ fwd 4294967296 0 x.seq))).take 44).map Rec.wire).flatten)
      (fun _ _ => true),
    (let s : State := { up with pipe := { up.pipe with quar := [⟨7, 0x41, 4, none, 5, 0, item 4⟩] } }
     s.passes (ru 0x610) 0x610 && (s.atRun (ru 0x610) 0x610).pipe.quar.any (fun q => q.vseq == 7 && decide (91 < q.bytes.length)) &&
       (nx (.qread (ru 0x610) 0 91) s).port.kept.length == 1 && (nx (.qread (ru 0x610) 7 0) s).port.kept.length == 1),
    sv { up with bal := { up.bal with nodes := [nodeOf 3 65535 max32 1000 100 2000 0 0], results := [res3] } } (ru 0x620) 0x620
      (.results (ru 0x620) 3 0 22) (fun s => (s.node 3).isSome) (fun s => (s.bal.results.map BRes.wire).flatten) (fun _ _ => true),
    sv { up with leg := { up.leg with sess := [⟨3, 1, 5, zeros 240⟩] } } (ru 0x630) 0x630 (.sessread (ru 0x630) 3 0 5)
      (fun _ => true) (fun s => (s.leg.sess.map SessRec.wire).flatten) (fun _ _ => true)] = true := by decide +kernel

theorem witness_PopulationPlacesAndFrees : holds [
    (let s := withRecs []
     let r := ru 0x0100
     s.passes r 0x0100 && fieldsOk sf 255 && keyEmpty sf.key && (s.atRun r 0x0100).findSlot 5 == none &&
     (match (s.atRun r 0x0100).place 5 with
      | .ok (n, _) => served (nx (.provision r 5 sf) s) r 0x0100 (be 4 n) && ((nx (.provision r 5 sf) s).mrec n).state == 1 &&
          ((nx (.provision r 5 sf) s).mrec n).ident == 5
      | .error _ => false)),
    sv (withRecs [(3, mr 1)]) (ru 0x0101) 0x0101 (.deprovision (ru 0x0101) 3) (fun s => !s.meter.lostRec.contains 3 && (s.mrec 3).state == 1)
      (fun _ => []) (fun _ t => (t.mrec 3).state == 0),
    sv { withRecs [(3, mr 5)] with leg := { up.leg with closed := [(65535, 1)] }, time := { up.time with dev := 40000000 * nsS } }
      (ru 0x0109) 0x0109 (.release (ru 0x0109) 3)
      (fun s => (s.mrec 3).state == 5 && !s.isRef 3 && (s.mrec 3).stateT + s.get F.METER_RETAIN_DAYS * 86400 ≤ s.secs && s.periodClosed 3 0)
      (fun _ => []) (fun _ t => (t.mrec 3).state == 0),
    sv (withRecs [(1048575, mr 1)]) (ru 0x010B) 0x010B (.readslot (ru 0x010B) 1048575) (fun s => !s.meter.lostRec.contains 1048575)
      (fun s => (s.mrec 1048575).wire ++ s.keyEntry 1048575) (fun _ _ => true),
    (let n := ((withRecs []).candidates 5).1
     let s := withRecs [(n, mr 1)]
     s.passes (ru 0x010C) 0x010C && (s.atRun (ru 0x010C) 0x010C).findSlot 5 == some (n, false) &&
       served (nx (.find (ru 0x010C) 5) s) (ru 0x010C) 0x010C (be 4 n)),
    sv (withRecs [(3, mr 2)]) (ru 0x010D) 0x010D (.listen (ru 0x010D) 3 60000 100 500 20) (fun s => (s.mrec 3).state != 0)
      (fun _ => []) (fun _ t => (t.mrec 3).radio.lwper == 60000 && (t.mrec 3).radio.tol == 20)] = true := by decide +kernel

theorem witness_LifeStateCommandsMoveTheSlot : holds [
    sv (withRecs [(3, mr 1)]) (ru 0x0102) 0x0102 (.commission (ru 0x0102) 3) (fun s => (s.mrec 3).state == 1 && s.mayCommission 3)
      (fun _ => []) (fun _ t => (t.mrec 3).state == 2),
    sv (withRecs [(3, mr 3)]) (ru 0x0103) 0x0103 (.suspend (ru 0x0103) 3) (fun s => (s.mrec 3).state == 3)
      (fun _ => []) (fun _ t => (t.mrec 3).state == 4),
    sv (withRecs [(3, mr 4)]) (ru 0x0104) 0x0104 (.popResume (ru 0x0104) 3) (fun s => (s.mrec 3).state == 4)
      (fun _ => []) (fun s t => (t.mrec 3).state == if (s.mrec 3).first then 2 else 3),
    sv (withRecs [(3, mr 2)]) (ru 0x0105) 0x0105 (.quarantine (ru 0x0105) 3) (fun s => (s.mrec 3).state == 2)
      (fun _ => []) (fun _ t => (t.mrec 3).state == 6),
    sv (withRecs [(3, mr 6)]) (ru 0x0106) 0x0106 (.recommission (ru 0x0106) 3) (fun s => (s.mrec 3).state == 6 && s.mayCommission 3)
      (fun _ => []) (fun _ t => (t.mrec 3).state == 2),
    sv (withRecs [(3, mr 6)]) (ru 0x0107) 0x0107 (.retire (ru 0x0107) 3) (fun s => (s.mrec 3).state == 6)
      (fun _ => []) (fun _ t => (t.mrec 3).state == 5),
    sv (withRecs [(3, mr 2), (9, { mr 1 with ident := 6 })]) (ru 0x0108) 0x0108 (.replace (ru 0x0108) 3 9)
      (fun s => (s.mrec 3).state == 2 && (s.mrec 9).state == 1 && s.mayCommission 9)
      (fun _ => []) (fun _ t => (t.mrec 3).state == 5 && (t.mrec 9).state == 2)] = true := by decide +kernel

/-- A part in flat key mode with an operator's key. -/
def opk : State := put { up with key := { up.key with opkey := zeros 96 } } [(F.KEY_STATUS_FLAT, 0, 1)]

theorem witness_UpdatesAndImportsAreTaken : holds [
      sv (withRecs [(3, mr 4)]) (ru 0x010A) 0x010A (.update (ru 0x010A) 3 255 sf) (fun s => fieldsOk sf 255 && keyEmpty sf.key &&
          (s.mrec 3).state == 4 && !bit sf.flags 1 && sf.node == 65535 && sf.node == (s.mrec 3).node)
        (fun _ => []) (fun s t => (t.mrec 3).gen == (s.mrec 3).gen + 1 && (t.mrec 3).profile == 2),
      opk.passes (ru 0x500) 0x500, (zeros 40).length == 40, !(opk.atRun (ru 0x500) 0x500).key.opkey.isEmpty,
      (opk.atRun (ru 0x500) 0x500).rootOpen, opk.passes (ru 0x501) 0x501, (opk.atRun (ru 0x501) 0x501).rootOpen,
      (opk.atRun (ru 0x501) 0x501).on F.KEY_STATUS_FLAT, !(opk.atRun (ru 0x501) 0x501).key.opkey.isEmpty,
      sv up (rq 0x0800) 0x0800 (.hashlist (rq 0x0800) (List.replicate 8 (zeros 32))) (fun _ => true) (fun _ => [])
        (fun _ t => t.fwu.approved == List.replicate 8 (zeros 32)),
      (let s := put { up with pwr := {}, key := { up.key with clrGen := some 1, gen := 1, flat := some ⟨0, zeros 32⟩ } }
         [(F.TAMPER_STATUS_LATCH, 0, 1), (F.KEY_STATUS_FUSEGATED, 0, 1)]
       s.passes (rq 0x801) 0x801 && (s.atRun (rq 0x801) 0x801).clrRefused == false && (s.atRun (rq 0x801) 0x801).clrWord == none &&
       s.needsClr),
      (let s := put { up with pwr := {}, key := { up.key with gen := 1, flat := some ⟨0, zeros 32⟩ } }
         [(F.TAMPER_STATUS_LATCH, 0, 1), (F.KEY_STATUS_FUSEGATED, 0, 1)]
       s.passes (rq 0x801) 0x801 && (s.atRun (rq 0x801) 0x801).clrRefused == false && (s.atRun (rq 0x801) 0x801).clrWord == some 2)] = true := by decide +kernel

theorem witness_OperatorSettingsComplete : holds [
    sv up (ru 0x0010) 0x0010 (.hcpSet (ru 0x0010) 1000001 999999999) (fun s => s.get F.TIME_STATUS_STATE != 2) (fun _ => [])
      (fun _ t => t.time.slew == 1999999999),
    sv (put up [(F.TIME_DOMSTAT_ANNOUNCE_OK, 1, 1)]) (ru 0x0011) 0x0011 (.adopt (ru 0x0011) 1)
      (fun s => s.geti F.TIME_DOMSTAT_ANNOUNCE_OK 1 == 1) (fun _ => []) (fun _ t => t.time.acqDone && t.time.acqEnd == none),
    sv up (ru 0x0601) 0x0601 (.evfreeze (ru 0x0601) 10) (fun _ => true) (fun _ => []) (fun _ t => t.ev.freeze.isSome),
    sv up (ru 0x0003) 0x0003 (.subscribe (ru 0x0003) 3 31) (fun _ => true) (fun _ => []) (fun _ t => t.port.sub == some ⟨0, 5, 9, 3, 31⟩),
    sv { up with port := { up.port with sec0 := { installed := true } } } (ru 0x0503) 0x0503 (.keyroll (ru 0x0503) 0 4294967295 2000000 5)
      (fun s => !(s.install 0).on F.KEY_STATUS_FLAT && (s.install 0).secured 0 && decide ((s.install 0).geti F.UPLINK_KNUM 0 < 4294967295) &&
        decide ((s.install 0).time.dev < 2000000 * nsS + 5) && !(((s.install 0).agDrop (.keyroll 0)).undue (.keyroll 0)).agFull)
      (fun _ => []) (fun _ t => (t.sec 0).armed == some (4294967295, 2000000 * nsS + 5))] = true := by decide +kernel

/-- A part that holds a transfer of a kind, open with a piece of its data or closed and whole, for the first uplink. -/
def withXfer (x : Xfer) : State := { up with port := { up.port with xfers := [{ x with atSeal := false }] } }

/-- A signed manifest without parts, and the manifest key that it is signed under. -/
def manB : Bytes :=
  be 64 0x504c4d4601000000000000000000000500000000001e848000000000673142000000000000000000000000000000000000000000000000000000000000000000 ++
  be 48 0x18f4fa39cfe63c467ae571d53df5ed22c20d5298f95cd5fbb0fda365995ec6302e09271dde121eb5837bc58e5fc178bb ++
  be 48 0x18f4fa39cfe63c467ae571d53df5ed22c20d5298f95cd5fbb0fda365995ec6302e09271dde121eb5837bc58e5fc178bb
@[inherit_doc manB] def manK : Bytes :=
  be 48 0x1c66e904536ded24ce9f36942d59d7b5619bef28a1b065968f922b692a34c212f27522072c7baf0cc28887e1f5d786ad ++
  be 48 0x16f883c4752b23bac9bb8bd8f3475b1f803b2db9321c132b20cad96ef2a6973e3c7843b170bfaebfc7c7005de86ee79d

/-- A calendar of one season, one week and one day profile at tariff 1, that starts at a time. -/
def calB (act : Nat) : Bytes :=
  be 2 0x5443 ++ [1, 1, 1, 1] ++ be 2 0 ++ be 2 0 ++ [1, 0] ++ be 4 9 ++ be 8 act ++ zeros 16 ++ [1, 1, 0, 0] ++ zeros 8 ++
  ([1, 0, 0, 0] ++ [0, 0, 1, 0] ++ zeros 60)

theorem witness_TransfersAndImagesComplete : holds [
    (let s := up
     s.passes (ru 0x900) 0x900 && (s.atRun (ru 0x900) 0x900).xopenCheck 5 0 4194304 (zeros 32) == none &&
       !(s.atRun (ru 0x900) 0x900).on F.FTL_STATUS_RO && (nx (.xopen (ru 0x900) 5 0 4194304 (zeros 32)) s).port.xfers.length == 1),
    (let s := withXfer { image 1 (zeros 100) with closed := false, units := [] }
     s.passes (ru 0x901) 0x901 && ((s.atRun (ru 0x901) 0x901).xfer (ru 0x901) 2).isSome &&
       (nx (.xblock (ru 0x901) 2 64 (zeros 36)) s).port.xfers.map (fun y => y.units) == [[(1, zeros 36)]]),
    (let s := withXfer { image 1 (zeros 100) with closed := false }
     s.passes (ru 0x902) 0x902 && (((s.atRun (ru 0x902) 0x902).xfer (ru 0x902) 2).map (fun x => x.total)) == some 2 &&
       (nx (.xquery (ru 0x902) 2 1) s).port.kept.length == 1),
    (let s := withXfer { image 1 (zeros 100) with closed := false }
     s.passes (ru 0x903) 0x903 && (((s.atRun (ru 0x903) 0x903).xfer (ru 0x903) 2).any (fun x => x.total ≤ x.units.length && sha256 x.image == x.sha)) &&
       served (nx (.xclose (ru 0x903) 2) s) (ru 0x903) 0x903 (be 4 0)),
    (let s := withXfer (image 1 (zeros 100))
     s.passes (ru 0x904) 0x904 && ((s.atRun (ru 0x904) 0x904).xfer (ru 0x904) 2).isSome && (nx (.xabort (ru 0x904) 2) s).port.xfers.isEmpty),
    (let s : State := put { withXfer (image 3 manB) with fwu := { up.fwu with mkey := manK } } [(F.FWU_CTRL_EN, 0, 1)]
     s.passes (ru 0x400) 0x400 && ((s.atRun (ru 0x400) 0x400).closedXfer (ru 0x400) 2 3).isSome &&
       ((s.atRun (ru 0x400) 0x400).manSubmit manB (reqOrg (ru 0x400) 18)).2 == 0 && (nx (.manifest (ru 0x400) 2) s).fwu.mseq == 5),
    (let s := withXfer (image 1 (calB 2000000))
     s.passes (ru 0x200) 0x200 && !(s.atRun (ru 0x200) 0x200).on F.TARIFF_LCTRL_CALLOCK &&
       ((s.atRun (ru 0x200) 0x200).closedXfer (ru 0x200) 2 1).isSome && ((parseCal (calB 2000000)).map (fun c => c.scheme)) == some 0 &&
       decide (up.time.dev + up.get F.TARIFF_LCTRL_MINLEAD * 3600 * nsS ≤ 2000000 * nsS) && !up.agFull &&
       ((nx (.calload (ru 0x200) 2) s).calSet 0).passive.isSome),
    (let s := withRecs [(3, { mr 3 with ct := 5, medium := 2 })]
     s.passes (ru 0x330) 0x330 && ((s.atRun (ru 0x330) 0x330).toSlot 3 2 (.relay 3 (zeros 20)) 20 false .drop).2 &&
       served (nx (.relaydn (ru 0x330) 3 (zeros 20)) s) (ru 0x330) 0x330 []),
    (let b : Bytes := 0x60 :: zeros 39
     up.passes (ru 0x331) 0x331 && served (nx (.relayup (ru 0x331) b) up) (ru 0x331) 0x331 [])] = true := by decide +kernel

/-- A node under the root, with a reference slot or none. -/
def nd (h : Nat) : BNode := nodeOf h 65535 max32 1000 100 2000 0 0

theorem witness_TopologyCommandsComplete : holds [
    sv up (ru 0x180) 0x180 (.define (ru 0x180) 65534 65535 max32 1000 100 1000 3) (fun s => (s.node 65534).isNone &&
      !s.topoBad 65534 65535 max32 1000 && nodeRange 65534 65535 max32 3) (fun _ => []) (fun _ t => (t.node 65534).isSome),
    sv { up with bal := { up.bal with nodes := [{ nd 3 with buf := [⟨9, 1, 2, 3, 0⟩], since := 7 }] } } (ru 0x181) 0x181 (.redefine (ru 0x181) 3 65535 max32 5 6 1000 0)
      (fun s => !s.topoBad 3 65535 max32 1000 && (s.node 3).any (fun n => n.level == s.levelUnder 65535)) (fun _ => [])
      (fun s t => t.node 3 == some { nodeOf 3 65535 max32 5 6 1000 0 (s.levelUnder 65535) with since := s.time.dev, buf := [⟨9, 1, 2, 3, 0⟩] }),
    sv { up with bal := { up.bal with nodes := [nd 3] } } (ru 0x182) 0x182 (.remove (ru 0x182) 3)
      (fun s => (s.node 3).isSome && s.meter.recs.isEmpty && !s.bnodes.any (fun n => n.parent == 3)) (fun _ => [])
      (fun _ t => (t.node 3).isNone),
    (let s : State := { up with bal := { up.bal with nodes := [nd 3] } }
     s.passes (ru 0x183) 0x183 && ((s.atRun (ru 0x183) 0x183).node 3).isSome && (nx (.readnode (ru 0x183) 3) s).port.kept.length == 1)] = true := by decide +kernel

/-- A post in slot 3, member of group 63, not curtailed. -/
def post3 : Post := { slot := 3, ident := 5, dkv := 0, seed := 0, medium := 2, port := 0, addr := [], groups := 2 ^ 63 }

/-- A part with that post, curtailment, pushes and campaigns enabled. -/
def posts : State :=
  put { withRecs [(3, { mr 3 with flags := 2, dist := { camp := 255 } })] with dist := { up.dist with posts := [post3] } }
    [(F.DIST_CTRL_CURT_EN, 0, 1), (F.DIST_CTRL_PUSH_EN, 0, 1), (F.DIST_CTRL_CAMP_EN, 0, 1)]

/-- That part with the post's seed and the post in a state of its own. -/
def seeded (p : Post) : State :=
  { posts with key := { up.key with seeds := [(0, ⟨0, zeros 32⟩)] }, dist := { posts.dist with posts := [p] } }

theorem witness_PostCommandsComplete : holds [
    sv posts (ru 0x300) 0x300 (.curtail (ru 0x300) 1000 255 [1048575, 8]) (fun s => s.on F.DIST_CTRL_CURT_EN && groupRange 255 [1048575, 8] 64)
      (fun _ => be 2 2 ++ zeros 2 ++ be 4 8 ++ be 2 stNOTACTIVE ++ zeros 2 ++ be 4 1048575 ++ be 2 stNOTACTIVE ++ zeros 2) (fun _ _ => true),
    (let s := (seeded post3).atRun (ru 0x300) 0x300
     (seeded post3).passes (ru 0x300) 0x300 && s.on F.DIST_CTRL_CURT_EN && groupRange 63 [] 64 && s.named 63 [] == [3] && s.postRefusal 3 false == none),
    (let s := (seeded { post3 with climit := 5, curt := 1 }).atRun (ru 0x301) 0x301
     (seeded post3).passes (ru 0x301) 0x301 && s.on F.DIST_CTRL_CURT_EN && groupRange 255 [3] 64 && s.named 255 [3] == [3] && s.postRefusal 3 true == none),
    sv posts (ru 0x301) 0x301 (.resumePosts (ru 0x301) 63 []) (fun s => s.on F.DIST_CTRL_CURT_EN && groupRange 63 [] 64)
      (fun s => refusedBody (ru 0x301) (s.refusals (s.named 63 []) true)) (fun _ _ => true),
    sv posts (ru 0x302) 0x302 (.group (ru 0x302) 63 1 [3]) (fun s => [3].all (fun x => (s.post x).isSome && s.canSend x)) (fun _ => [])
      (fun _ t => (t.post 3).map (fun p => bit p.groups 63) == some false),
    sv posts (ru 0x302) 0x302 (.group (ru 0x302) 0 0 [3]) (fun s => [3].all (fun x => (s.post x).isSome && s.canSend x)) (fun _ => [])
      (fun _ t => (t.post 3).map (fun p => bit p.groups 0) == some true),
    sv posts (ru 0x302) 0x302 (.group (ru 0x302) 63 2 []) (fun _ => true) (fun _ => [])
      (fun _ t => t.dist.posts.all (fun p => !bit p.groups 63)),
    (let s : State := { posts with leg := { up.leg with cals := [(1023, { active := parseCal (calB 5) })] } }
     s.passes (ru 0x201) 0x201 && (s.atRun (ru 0x201) 0x201).on F.DIST_CTRL_PUSH_EN &&
       (match (s.atRun (ru 0x201) 0x201).targetsOf (ru 0x201) 0 255 with | .ok (l, _) => l.isEmpty | .error _ => false) &&
       ((s.atRun (ru 0x201) 0x201).calSet 1023).active.isSome &&
       (match (s.atRun (ru 0x201) 0x201).targetsOf (ru 0x201) 63 255 with
        | .ok (l, _) => l == [3] && !l.any (fun y => (s.mrec y).state == 0 || !s.canSend y) | .error _ => false) &&
       served (nx (.pushcal (ru 0x201) 1023 0 0 255) s) (ru 0x201) 0x201 [])] = true := by decide +kernel

/-- A campaign of one target, in a state. -/
def camp15 (st : Nat) : Camp :=
  { n := 15, tag := 7, size := 100, block := 128, version := 2, sha := zeros 32, ta := 2000000, targets := [3], state := st, got := true }

/-- A part with that campaign. -/
def camps (c : Camp) : State := { posts with dist := { posts.dist with camps := [c] } }

theorem witness_CampaignCommandsComplete : holds [
    (let s := posts
     s.passes (ru 0x310) 0x310 && (s.atRun (ru 0x310) 0x310).on F.DIST_CTRL_CAMP_EN &&
       (match (s.atRun (ru 0x310) 0x310).targetsOf (ru 0x310) 63 255 with
        | .ok (l, _) => l == [3] && l.all (fun y => ((s.mrec y).state == 2 || (s.mrec y).state == 3) && (s.mrec y).dist.camp == 255 && s.canSend y)
        | .error _ => false) &&
       !(s.atRun (ru 0x310) 0x310).taSoon 2000000 && !(s.atRun (ru 0x310) 0x310).agFull &&
       ((nx (.campdef (ru 0x310) 7 16777216 1024 63 255 2 (zeros 32) 2000000) s).camp 0).map (fun c => c.state) == some 1),
    (let s := camps (camp15 1)
     s.passes (ru 0x311) 0x311 && (s.atRun (ru 0x311) 0x311).on F.DIST_CTRL_CAMP_EN &&
       ((nx (.campstart (ru 0x311) 15) s).camp 15).map (fun c => c.state) == some 3),
    (let s := camps (camp15 3)
     s.passes (ru 0x312) 0x312 && !(s.atRun (ru 0x312) 0x312).taSoon 3000000 &&
       !(((s.atRun (ru 0x312) 0x312).agDrop (.campArm 15)).undue (.campArm 15)).agFull &&
       ((nx (.camptime (ru 0x312) 15 3000000) s).camp 15).map (fun c => c.ta) == some 3000000),
    (let s := camps (camp15 4)
     s.passes (ru 0x313) 0x313 && ((nx (.campabort (ru 0x313) 15) s).camp 15).map (fun c => c.state) == some 6),
    (let s := camps (camp15 6)
     s.passes (ru 0x314) 0x314 && served (nx (.campread (ru 0x314) 15) s) (ru 0x314) 0x314
       (be 4 (camp15 6).info ++ be 4 7 ++ be 4 1 ++ be 4 0 ++ be 4 0))] = true := by decide +kernel

/-! ## Witnesses: registers that act -/

/-- The selector holds what was written. -/
def sel (s : State) (p : Port) (f : Fld) (v : Nat) (c : Port → Word → Instr) (post : State → Bool) : Bool :=
  wr s p f v c (s.inRange f 0 (f.of v) v) (fun t => t.get f == v && post t)

theorem witness_SelectorsAndClearsComplete : holds [
    sel (withRecs [(1048575, mr 3)]) .service F.METER_PEEK_SLOT 1048575 .meterPeek (fun t => t.meter.peek == (mr 3).bytes),
    sel { up with leg := { up.leg with recs := [(9, { bimp := 7 })] } } .service F.TARIFF_BPEEK_SLOT 9 .tariffBpeek
      (fun _ => true),
    sel up .service F.EVREC_SEL_SEQ 1073741823 .evrecSel (fun t => t.get F.EVREC_WSTAT_DONE == 1),
    sel up .seal F.BAL_NSEL_NODE 65535 .balNsel (fun _ => true),
    sel (camps (camp15 1)) .service F.DIST_CSEL_CAMP 15 .distCsel (fun t => t.get F.DIST_CTAG == 7),
    sel up .service F.QOS_QSEL_QUEUE 93 .qosQsel (fun _ => true),
    sel up .service F.FTL_GSEL_REQ 63 .ftlGsel (fun t => t.get F.FTL_GINFO_VALID == 0),
    up.admits .service F.FWU_PSEL_PART.addr 5 && up.inRange F.FWU_PSEL_PART 0 5 5,
    wr (put (withRecs [(((withRecs []).candidates 5).1, mr 1)]) [(F.METER_FINDL_ID, 0, 5)]) .config F.METER_FIND_GO 1 .meterFind true
      (fun t => t.get F.METER_FOUND_DONE == 1 && t.get F.METER_FOUND_VALID == 1),
    decide ((nx (.evrecWinAdvance .config) up).get F.EVREC_WSTAT_DONE = 1),
    wr (put up [(F.PIPE_OCNT_COUNT, 255, 8), (F.BURIN_BATCH, 0, 4)]) .service F.PIPE_CNTCLR_CLR 1 .pipeCntclr true
      (fun t => t.geti F.PIPE_OCNT_COUNT 255 == 0 && t.get F.BURIN_BATCH == 0),
    wr (put up [(F.QOS_C0DROP, 0, 8), (F.QOS_C0CNT, 13, 4)]) .service F.QOS_CNTCLR_CLR 1 .qosCntclr true
      (fun t => t.get F.QOS_C0DROP == 0 && t.geti F.QOS_C0CNT 13 == 0),
    wr (put up [(F.PLC_FOK, 5, 8), (F.PLC_FBAD, 0, 4)]) .service F.PLC_CNTCLR_CLR 1 .plcCntclr true
      (fun t => t.geti F.PLC_FOK 5 == 0 && t.geti F.PLC_FBAD 0 == 0),
    wr (put up [(F.RADIO_FOK, 0, 8), (F.RADIO_TXOK, 0, 4)]) .service F.RADIO_CNTCLR_CLR 1 .radioCntclr true
      (fun t => t.get F.RADIO_FOK == 0 && t.get F.RADIO_TXOK == 0),
    wr { up with time := { up.time with dev := 5 * nsS + 6 } } .service F.TIME_SNAP_TAKE 1 .timeSnap true
      (fun t => t.get F.TIME_SNAPSL == 5 && t.get F.TIME_SNAPNS == 6),
    wr up .service F.MAINS_SNAP_TAKE 1 .mainsSnap true (fun t => t.mains.frozen),
    decide (up.role .uplink0 ≠ 0) && !(nx (.mainsXcycRead .uplink0) (nx (.mainsSnap .config 1) up)).mains.frozen] = true := by decide +kernel

/-- A redraw can be asked for: a pass runs. -/
def drawing : State :=
  put { up with disp := { up.disp with pass := some ⟨0, 95, 3, false, 1000, false, 0⟩, vhv := true } } [(F.DISP_CTRL_EN, 0, 1)]

theorem witness_ActingRegistersComplete : holds [
    wr up .service F.EVREC_FREEZE_SECS 10 .evSecs true (fun t => t.ev.freeze.isSome),
    wr (nx (.evSecs .config 1) up) .service F.EVREC_FREEZE_THAW 16 .evThaw true (fun t => t.ev.freeze == none),
    wr up .seal F.BILL_CHKCMD_RECOMPUTE 1 .recompute (up.ev.lost == none) (fun t => decide (up.ev.total < t.ev.total)),
    wr drawing .service F.DISP_CMD_REDRAW 1 .redraw (drawing.on F.DISP_CTRL_EN && !drawing.on F.PWR_STATUS_WARN && drawing.disp.pass.isSome)
      (fun t => t.disp.again.isSome || t.disp.pend.isSome),
    wr up .seal F.DISP_PLATE_COMMON 95 .dispPlate (up.inRange F.DISP_PLATE_COMMON 0 95 95)
      (fun t => t.disp.plated == le 4 0 ++ le 4 0 ++ sub up.plate 2375 25 ++ zeros 3),
    wr up .service F.PLC_CAL_RUN 4 .plcCal (up.pairForced F.PLC_CAL_RUN.addr == false) (fun t => (lookupK 2 t.plc.calReq).isSome),
    wr up .service F.RADIO_CAL_RUN 1 .radioCal (up.pairForced F.RADIO_CAL_RUN.addr == false)
      (fun t => t.radio.calAt.isSome && t.get F.RADIO_STATUS_CALRUN == 1),
    wr up .seal F.KEY_CERT_BLOW 1 .keyCert (up.pairForced F.KEY_CERT_BLOW.addr == false && !up.on F.TAMPER_STATUS_LATCH) (fun t => t.key.blown),
    wr (put up [(F.FAULT_STATUS_ACTIVE, 0, 1), (F.FAULT_STATUS_LEFT, 0, 3)]) .service F.FAULT_CMD_STOP 1 .faultStop true
      (fun t => t.get F.FAULT_STATUS_ACTIVE == 0 && t.get F.FAULT_STATUS_LEFT == 0),
    wr up .service F.FAULT_ST_BURIN 1 .faultStBurin (up.pairForced F.FAULT_ST_BURIN.addr == false) (fun t => t.fault.burinAt.isSome),
    wr up .service F.FAULT_ST_KEY 2 .faultStKey (up.pairForced F.FAULT_ST_KEY.addr == false) (fun t => t.fault.keyAt.isSome),
    wr up .service F.FAULT_CTRL_LIVE 1 .faultCtrl (up.pairForced F.FAULT_CTRL_LIVE.addr == false) (fun t => t.get F.FAULT_CTRL_LIVE == 1),
    up.admits .service (F.TIME_TPCFG_KIND.addr + 32 * 255) 0 && (nx (.timeplateArm .service 255 0) up).geti F.TIME_TPCFG_KIND 255 == 0,
    (let s := put up [(F.TIME_TPW0, 64, 1000000)]
     s.admits .service (F.TIME_TPCFG_KIND.addr + 32 * 64) 1 && F.TIME_TPCFG_KIND.of 1 == 1 &&
       decide (s.time.dev ≤ (s.geti F.TIME_TPW0 64 + s.geti F.TIME_TPW1 64 * 4294967296) * nsS + s.geti F.TIME_TPW2 64) &&
       ((nx (.timeplateArm .service 64 1) s).tpEnt 64).map (fun e => e.next) == some (1000000 * nsS))] = true := by decide +kernel

theorem witness_InjectionIsTakenOrCounted : holds [
    (let v := 3
     wr up .service F.FAULT_INJ_DET v .injection (up.pairForced F.FAULT_INJ_DET.addr == false &&
       up.injRefusal (F.FAULT_INJ_DET.of v) (F.FAULT_INJ_ARG.of v) (F.FAULT_INJ_COUNT.of v) == some 4) (fun t => t.get F.FAULT_REFCNT == 1)),
    (let v := 0 + 2 ^ F.FAULT_INJ_COUNT.bit * 15
     wr up .service F.FAULT_INJ_DET v .injection (up.pairForced F.FAULT_INJ_DET.addr == false && !up.on F.PWR_STATUS_WARN &&
       isHeld (F.FAULT_INJ_DET.of v) && F.FAULT_INJ_COUNT.of v == 15 &&
       up.injRefusal (F.FAULT_INJ_DET.of v) (F.FAULT_INJ_ARG.of v) (F.FAULT_INJ_COUNT.of v) == none)
       (fun t => t.fault.holdEnd.isSome && t.fault.fired == 1)),
    (let s := put { up with fault := { up.fault with holdEnd := some 7 } } [(F.FAULT_STATUS_ACTIVE, 0, 1), (F.FAULT_STATUS_LEFT, 0, 1)]
     (nx .occurrenceEnd s).get F.FAULT_STATUS_ACTIVE == 0 && (nx .occurrenceEnd s).fault.holdEnd == none),
    (let s := put { up with fault := { up.fault with holdEnd := some 7 } } [(F.FAULT_STATUS_ACTIVE, 0, 1), (F.FAULT_STATUS_LEFT, 0, 15)]
     (nx .occurrenceEnd s).get F.FAULT_STATUS_LEFT == 14 && (nx .occurrenceEnd s).fault.gapEnd.isSome)] = true := by decide +kernel

/-! ## Witnesses: clocks, recorder, display -/

theorem witness_ClockEventsComplete : holds [
    (let s := put up [(F.CLK_STATUS_RUN, 0, 0)]
     s.pwr.noPll.isEmpty && !s.runs .SVC && (nx (.domainWake .SVC) s).runs .SVC),
    (let s := put up [(F.CLK_STATUS_RUN, 0, 4095)]
     s.stopCond .UPL == (s.geti F.UPLINK_CFG_EN 0 == 0 && s.geti F.UPLINK_CFG_EN 1 == 0) && s.stopCond .T1S && s.runs .T1S &&
       !(nx (.domainStop .T1S) s).runs .T1S),
    (let s := put up [(F.CLK_STATUS_RUN, 0, 0)]
     !s.runs .T1S && (nx (.wakeFail .T1S) s).get F.CLK_STATUS_WAKEERR == 1 && (nx (.wakeFail .T1S) s).pwr.wakeBad == [.T1S]),
    (let s := put up [(F.CLK_STATUS_RUN, 0, 4095)]
     hasPll .DISP && (nx (.pllUnlock .DISP) s).pwr.noPll == [.DISP] && (nx (.pllUnlock .DISP) s).get F.CLK_STATUS_PLLOK == 0),
    (let s : State := { put up [(F.CLK_STATUS_RUN, 0, 0)] with pwr := { up.pwr with noPll := [.SYS] } }
     !s.forces 30 (domIx .SYS) && (nx (.pllRelock .SYS) s).runs .SYS),
    (let s := put up [(F.CLK_IO_PPSIN, 0, 1)]
     (nx .ppsInEdge s).pwr.ppsAt == some s.time.clk && (nx .ppsInEdge s).get F.CLK_PPSSL == 1000000),
    (let s := put { up with pwr := { up.pwr with ppsAt := some up.time.clk } } [(F.CLK_IO_PPSIN, 0, 1)]
     (nx .ppsInMissing s).pwr.ppsAt == some (nx .ppsInMissing s).time.clk)] = true := by decide +kernel

/-- A part that holds a frozen recorder. -/
def frozen : State := nx (.evSecs .config 2) up

theorem witness_RecorderEventsComplete : holds [
    decide (up.ev.freeze = none) && decide (up.ev.lost = none) && up.noRoom == none && decide (up.port.sub = none) && !neverLimited 0x1008 &&
      decide ((up.bucket 0x1008).missing - up.gained 0x1008 < (up.bucketOf 0x1008).1) && decide (up.ev.proof.length < 8191) &&
      (nx (.eventLog 0x1008 [(1, 1)] 2) up).ev.total == up.ev.total + 1 && (nx (.eventLog 0x1008 [(1, 1)] 2) up).ev.roll.length == 2,
    (let s : State := { up with ev := { up.ev with buckets := [⟨0x1008, 1, 0, 0, up.time.clk⟩] } }
     s.on F.EVREC_CTRL_RATE_EN && decide (0 < s.perToken 0x1008) && ((nx (.tokenGain 0x1008) s).bucket 0x1008).missing == 0),
    (let s : State := { up with ev := { up.ev with buckets := [⟨0x1008, 8, 3, 5, up.time.clk⟩] } }
     ((nx (.tokenGain 0x1008) s).bucket 0x1008).supp == 0 && decide (s.ev.total < (nx (.tokenGain 0x1008) s).ev.total)),
    (let s : State := { up with ev := { up.ev with wins := [⟨0x1008, 0, up.time.clk + 9, true, 2, 2⟩] } }
     (nx (.eventWindowEnd 0x1008 0) s).ev.wins.isEmpty),
    frozen.ev.freeze.isSome && (nx .freezeEnd frozen).ev.freeze == none && (nx .freezeEnd frozen).ev.hold.isEmpty &&
      decide (frozen.backlog < 200),
    (let s : State := { up with ev := { up.ev with long := [Rec.first] }, time := { up.time with dev := 400000000 * nsS } }
     (nx .longRollExpire s).ev.long.isEmpty)] = true := by decide +kernel

/-- A pass at a common, with bias settling or not. -/
def pass (first last row : Nat) (settle : Bool) : State :=
  put { up with disp := { up.disp with pass := some ⟨first, last, row, settle, 1000, false, 0⟩, vhv := true } } [(F.DISP_CTRL_EN, 0, 1)]

theorem witness_DisplayEventsComplete : holds [
    (let s := pass 90 95 90 true
     !s.on F.PWR_STATUS_WARN && s.disp.vhv && (nx .biasSettleEnd s).disp.pass.any (fun q => !q.settle && q.row == 90) &&
       lookupK 90 (nx .biasSettleEnd s).disp.glass == some (s.pixels 90)),
    (let s := pass 0 95 94 false
     (nx .rowComplete s).disp.pass.any (fun q => q.row == 95) && lookupK 95 (nx .rowComplete s).disp.glass == some (s.pixels 95)),
    (let s := pass 0 95 95 false
     s.disp.pend == none && s.disp.restoring == 0 && (nx .rowComplete s).disp.pass == none && (nx .rowComplete s).get F.DISP_NPASS == 1),
    (let s := put { pass 0 95 95 false with disp := { up.disp with deferred := some (0, 95) } } [(F.DISP_STATUS_COLD, 0, 1)]
     s.disp.deferred.isSome && s.on F.DISP_STATUS_COLD && !s.on F.PWR_STATUS_WARN && s.on F.DISP_CTRL_EN &&
       (nx (.coldRetry 91) s).disp.deferred.isSome),
    (let s := put (pass 0 95 3 true) [(F.PWR_STATUS_WARN, 0, 1)]
     s.on F.PWR_STATUS_WARN && (nx .biasSettleEnd s).disp.pass == none && (nx .biasSettleEnd s).get F.DISP_NSTOP == 1),
    (let s := put (pass 0 95 3 false) [(F.PWR_STATUS_WARN, 0, 1)]
     (nx .rowComplete s).disp.pass == none && (nx .rowComplete s).disp.stopped.isSome),
    (let s : State := { pass 0 95 3 false with disp := { (pass 0 95 3 false).disp with again := some (0, 95) } }
     s.disp.again.isSome && s.disp.pass.any (fun p => !p.settle) && s.disp.vhv && s.on F.DISP_CTRL_EN && !s.on F.PWR_STATUS_WARN),
    (let s := put (pass 0 95 3 false) [(F.DISP_CTRL_EN, 0, 0)]
     !s.on F.DISP_CTRL_EN && (nx .rowComplete s).disp.pass == none && (nx .rowComplete s).get F.DISP_STATUS_OFF == 1),
    !(nx .vhvLow (pass 0 95 3 false)).disp.vhv,
    (nx .vhvReturn up).disp.vhv,
    (let s := put up [(F.BILL_STATUS_RUN, 0, 1)]
     (nx (.plateCommit [1, 2] 0 95) s).disp.seq == 1 && (nx (.plateCommit [1, 2] 0 95) s).disp.cur == 1 &&
       (nx (.plateCommit [1, 2] 0 95) s).plate.take 3 == [1, 2, 0]),
    (nx (.keyPress 3) { up with disp := { up.disp with keys := List.replicate 7 0 } }).disp.keys == List.replicate 7 0 ++ [3],
    (nx (.keyPress 3) { up with disp := { up.disp with keys := List.replicate 8 0 } }).disp.keys == List.replicate 8 0,
    (let s := put { up with disp := { up.disp with keys := [0, 1] } } [(F.BILL_STATUS_RUN, 0, 1), (F.DISP_STATUS_SCREEN, 0, 2)]
     s.disp.keys == 0 :: [1] && s.on F.BILL_STATUS_RUN),
    (let s := put up [(F.BILL_STATUS_RUN, 0, 1), (F.DISP_STATUS_SCREEN, 0, 2)]
     s.get F.DISP_STATUS_SCREEN != 0 && s.on F.BILL_STATUS_RUN)] = true := by decide +kernel

/-! ## Witnesses: the legal partition -/

/-- A running legal partition a second before an interval boundary, which falls at 1,000,837 s. -/
def legal : State := put { up with time := { up.time with dev := 1000836 * nsS } } [(F.BILL_STATUS_RUN, 0, 1)]

/-- That partition with the record of slot 9, whose CRC matches or not. -/
def legal9 (bad : Bool) : State := { legal with leg := { up.leg with recs := [(9, { bimp := 7, crcBad := bad })] } }

theorem witness_LegalAndRecordEventsComplete : holds [
    (nx (.legalFault 1) legal).get F.BILL_STATUS_RUN == 0 && (nx (.legalFault 1) legal).get F.BILL_FAULTS == 1 &&
      (nx (.legalFault 1) legal).get F.BILL_STATUS_REBUILDING == 1,
    (let s : State := { legal with leg := { up.leg with faults := [5, 6].map (fun x => up.time.clk - x) } }
     (nx (.legalFault 1) s).get F.BILL_STATUS_HALTED == 1 && (nx (.legalFault 1) s).get F.BILL_STATUS_REBUILDING == 0),
    (let s := put up [(F.BILL_STATUS_REBUILDING, 0, 1)]
     s.on F.BILL_STATUS_REBUILDING && (nx .legalRebuildComplete s).get F.BILL_STATUS_RUN == 1),
    (let s : State := { legal with leg := { up.leg with chk0 := [1], chkNow := [2] } }
     s.ev.lost == none && (nx .checkTimer s).get F.BILL_STATUS_RUN == 0 && decide (s.ev.total < (nx .checkTimer s).ev.total)),
    (legal9 false).on F.BILL_STATUS_RUN && (nx .legalCheckpoint (legal9 false)).leg.ckpt.recs == (legal9 false).leg.recs,
    (nx .legalCheckpoint (legal9 true)).leg.ckpt == (legal9 true).leg.ckpt && (nx .legalCheckpoint (legal9 true)).get F.BILL_FAULTS == 1 &&
      (nx .legalCheckpoint (legal9 true)).get F.BILL_STATUS_RUN == 0,
    !up.on F.BILL_STATUS_RUN && nx .legalCheckpoint up == up.mirror,
    (nx .hwmWrite up).leg.hwm == up.time.dev,
    (let s : State := { up with leg := { up.leg with rep := some (5, up.time.dev) } }
     (nx .repeatModeEnd s).leg.rep == none && (nx .repeatModeEnd s).get F.BILL_STATUS_REPEAT == 0),
    (let s : State := { up with leg := { up.leg with sess := [⟨3, 1, 5, []⟩] } }
     (nx .sessionExpire s).leg.sess.isEmpty && decide (5 + s.get F.BILL_SESSDAYS_DAYS * 86400 ≤ (nx .sessionExpire s).secs)),
    !(nx (.recordRebuild 3) { up with meter := { up.meter with lostRec := [3] } }).meter.lostRec.contains 3,
    up.on F.SYS_STATUS_FULLREADY && (nx .checkpointPage { up with meter := { up.meter with ckPos := 131583 } }).meter.ckPos == 131584,
    ckPages == 131585 && (nx .checkpointPage { up with meter := { up.meter with ckPos := 131584 } }).meter.ckPos == 0,
    !State.reset.on F.SYS_STATUS_FULLREADY] = true := by decide +kernel

/-- A legal queue entry of slot 9 or another one. -/
def cut (slot : Nat) : LqEnt := .cut 0 0 slot 5
@[inherit_doc cut] def legRd : LqEnt := .reading ⟨4, 9, 0, { rt := 5 }, 0, 5, false, [], [], 0⟩ ⟨0, 0, 0, 0, []⟩

theorem witness_LegalBoundaryEventsComplete : holds [
    (let s : State := { legal with leg := { up.leg with queue := [cut 3, cut 4] } }
     s.on F.BILL_STATUS_RUN && (match (s.qTake 4 (s.leg.queue.map LqEnt.bytes)).2 with | .fine => true | _ => false) &&
       !(s.lrec 3).crcBad && (nx .legalQueueEntry s).leg.queue == [cut 4]),
    (let s : State := { legal9 true with leg := { (legal9 true).leg with queue := [cut 9, cut 4] } }
     (s.lrec 9).crcBad && (nx .legalQueueEntry s).leg.queue == [cut 9, cut 4] && (nx .legalQueueEntry s).get F.BILL_STATUS_RUN == 0),
    (let s : State := { legal9 false with leg := { (legal9 false).leg with queue := [legRd] } }
     (nx .legalQueueEntry s).leg.queue.isEmpty && (nx .legalQueueEntry s).leg.upto == 5),
    (let s : State := { legal9 true with leg := { (legal9 true).leg with queue := [legRd] } }
     (nx .legalQueueEntry s).leg.queue.isEmpty && (nx .legalQueueEntry s).get F.BILL_STATUS_RUN == 0),
    (let s : State := { legal with leg := { up.leg with queue := [cut 3, cut 4] }, port := { up.port with poison := [⟨4, 1, 0, .service⟩] } }
     (match (s.qTake 4 (s.leg.queue.map LqEnt.bytes)).2 with | .discard => true | _ => false) && (nx .legalQueueEntry s).leg.queue == [cut 4]),
    (let s : State := { legal with leg := { up.leg with queue := [cut 3, cut 4] }, port := { up.port with poison := [⟨4, 2, 0, .service⟩] } }
     (match (s.qTake 4 (s.leg.queue.map LqEnt.bytes)).2 with | .flush => true | _ => false) && (nx .legalQueueEntry s).leg.queue.isEmpty),
    (let s : State := { legal with leg := { up.leg with common := { up.leg.common with settle := some (5, 905) } } }
     s.leg.grps.isEmpty && (s.settleAt none).isSome && (nx .settle s).leg.common.settle == none),
    (let b := 1000837 * nsS
     legal.kindsAt b != 0 && !legal.repeated b && decide (legal.leg.lastB < b) &&
       (nx (.boundaryPrecommit b) legal).leg.pre.map (fun x => (x.t, x.seq)) == some (b, 1) &&
       (nx (.boundaryCommit b) legal).leg.bseq == 1 && (nx (.boundaryCommit b) legal).leg.lastB == b)] = true := by decide +kernel

/-! ## Witnesses: time and mains -/

/-- Both domains tracked, with a prediction of the first. -/
def timed (l : List (Fld × Nat × Nat)) : State :=
  put { up with time := { up.time with acqDone := true, d0 := { pred := some 100 }, d1 := { cand := true } } }
    ([(F.TIME_CTRL_DOM0_EN, 0, 1), (F.TIME_CTRL_DOM1_EN, 0, 1)] ++ l)

/-- A crossing of phase A at 50 Hz. -/
def xing : Crossing := ⟨50 * 65536, 0, 60, 60, 60, 21845, 43690⟩

/-- Domain 0 active and locked, with announces, and refused fifteen times in a row; domain 1 heard, locked or not. -/
def bad15 (one : Nat) : State :=
  let s := timed [(F.TIME_DOMSTAT_REFUSALS, 0, 15), (F.TIME_DOMSTAT_LOCKED, 0, 1), (F.TIME_DOMSTAT_ANNOUNCE_OK, 0, 1), (F.TIME_STATUS_STATE, 0, 2),
    (F.TIME_DOMSTAT_LOCKED, 1, one), (F.TIME_DOMSTAT_ANNOUNCE_OK, 1, one)]
  { s with time := { s.time with d0 := { s.time.d0 with heard := true }, d1 := { s.time.d1 with ofs := 9 } } }

theorem witness_TimeServoComplete : holds [
    (timed []).tracked 1 && ((timed []).dom 1).pred == none && ((nx (.servoMeasurement 1 7) (timed [])).dom 1).pred == some 7,
    (let s := timed [(F.TIME_DOMSTAT_REFUSALS, 0, 14)]
     decide (s.guard < (1000000 - 100 : Int).natAbs) && (nx (.servoMeasurement 0 1000000) s).geti F.TIME_DOMSTAT_REFUSALS 0 == 15),
    (let s := timed [(F.TIME_DOMSTAT_REFUSALS, 0, 15), (F.TIME_STATUS_ACTIVE, 0, 1)]
     !s.suspect 0 && s.get F.TIME_STATUS_ACTIVE == 1 && (nx (.servoMeasurement 0 1000000) s).suspect 0),
    (let s := bad15 0
     !s.suspect 0 && s.get F.TIME_STATUS_ACTIVE == 0 && !s.locked 1 && (nx (.servoMeasurement 0 1000000) s).get F.TIME_STATUS_STATE == 3),
    (let s := bad15 1
     s.tracked 1 && s.locked 1 && !s.failed 1 && decide ((s.domOfs 1).natAbs ≤ s.legalLimit) &&
       (nx (.servoMeasurement 0 1000000) s).get F.TIME_STATUS_ACTIVE == 1 && (nx (.servoMeasurement 0 1000000) s).time.slew == 9),
    (let s := timed [(F.TIME_DOMSTAT_REFUSALS, 0, 15), (F.TIME_DOMSTAT_LOCKED, 0, 1)]
     s.time.acqDone && s.locked 0 && decide ((s.guard + 100 - 100 : Int).natAbs ≤ s.guard) &&
       (nx (.servoMeasurement 0 (s.guard + 100)) s).geti F.TIME_DOMSTAT_REFUSALS 0 == 0),
    (let s0 := timed [(F.TIME_DOMSTAT_ANNOUNCE_OK, 0, 1)]
     let s : State := { s0 with time := { s0.time with d0 := { s0.time.d0 with run16 := 15 } } }
     !s.suspect 0 && !s.locked 0 && s.get F.TIME_STATUS_STATE != 3 && decide ((1099 - 100 : Int).natAbs < 1000) &&
       (nx (.servoMeasurement 0 1099) s).locked 0 && (nx (.servoMeasurement 0 1099) s).get F.TIME_STATUS_STATE == 2),
    (let s := timed []
     s.get F.TIME_STATUS_STATE != 3 && (nx (.announceReceive 1 ⟨nsS, 37, true, false, false⟩) s).geti F.TIME_DOMSTAT_ANNOUNCE_OK 1 == 1),
    (let s0 := timed [(F.TIME_STATUS_STATE, 0, 3), (F.TIME_DOMSTAT_LOCKED, 1, 1)]
     let s : State := { s0 with time := { s0.time with d1 := { s0.time.d1 with ofs := 9 } } }
     s.locked 1 && !s.suspect 1 && decide ((s.domOfs 1).natAbs ≤ s.legalLimit) &&
       (nx (.announceReceive 1 ⟨nsS, 37, true, false, false⟩) s).get F.TIME_STATUS_ACTIVE == 1 &&
       (nx (.announceReceive 1 ⟨nsS, 37, true, false, false⟩) s).time.slew == 9),
    (let s := timed [(F.TIME_DOMSTAT_ANNOUNCE_OK, 1, 1), (F.TIME_DOMSTAT_LOCKED, 1, 1)]
     s.get F.TIME_STATUS_ACTIVE == 0 && (nx (.announceTimeout 1) s).geti F.TIME_DOMSTAT_ANNOUNCE_OK 1 == 0),
    (let s := put { timed [] with time := { (timed []).time with d1 := {} } }
       [(F.TIME_CTRL_DOM1_EN, 0, 0), (F.TIME_DOMSTAT_ANNOUNCE_OK, 0, 1), (F.TIME_STATUS_STATE, 0, 2)]
     !s.tracked 1 && s.get F.TIME_STATUS_ACTIVE == 0 && (nx (.announceTimeout 0) s).get F.TIME_STATUS_STATE == 3),
    (let s := bad15 1
     (s.dom 0).heard && (nx (.announceTimeout 0) s).get F.TIME_STATUS_ACTIVE == 1 && (nx (.announceTimeout 0) s).time.slew == 9)] = true := by decide +kernel

theorem witness_TimeEventsComplete : holds [
    (let s : State := { timed [] with time := { (timed []).time with acqDone := false, acqEnd := some (3700 * nsS) } }
     (s.time.d1.cand && s.tracked 1) && (nx .acquisitionWaitExpire s).time.acqDone),
    (let s : State := { up with time := { up.time with slew := -5000 } }
     (nx .slewComplete s).time.slew == 0 && decide (s.time.clk < (nx .slewComplete s).time.clk)),
    (let s : State := { up with time := { up.time with leap := some (1000001, 38) } }
     (nx .leapApply s).get F.TIME_UTCOFS_CUR == 38 && (nx .leapApply s).time.leap == none),
    (timed [(F.TIME_DOMSTAT_LOCKED, 1, 1)]).locked 1 && (nx .aonSecondsCopy (timed [(F.TIME_DOMSTAT_LOCKED, 1, 1)])).time.aon == 1000000,
    (let s := put up [(F.MAINS_CTRL_EN, 0, 1)]
     decide (s.get F.MAINS_CTRL_ABSTHR ≤ xing.ampA) && (nx (.mainsCrossing xing) s).mains.lastX.isSome),
    (let s := put { up with mains := { up.mains with lastX := some up.time.clk } } [(F.MAINS_CTRL_EN, 0, 1), (F.MAINS_STATUS_STATE, 0, 2)]
     decide (0 < s.get F.MAINS_CTRL_ABSTHR) && (nx (.mainsCrossing { xing with ampA := 0 }) s).get F.MAINS_STATUS_STATE == 3 &&
       (nx (.mainsCrossing { xing with ampA := 0 }) s).mains.lastX == none),
    (let s := put { up with mains := { up.mains with lastX := some up.time.clk } } [(F.MAINS_CTRL_EN, 0, 1), (F.MAINS_STATUS_STATE, 0, 2)]
     s.mains.lastX.isSome && s.get F.MAINS_STATUS_STATE == 2),
    (let s := put { up with time := { up.time with tp := [⟨255, 1000001 * nsS, 0⟩] } } [(F.TIME_TPCFG_KIND, 255, 1)]
     (s.tpWait 255).isSome && (nx (.timeplateFire 255) s).tpEnt 255 == none),
    (let s := put { up with time := { up.time with tp := [⟨64, 10 * nsS, 0⟩] }, mains := { up.mains with freq := 50 * 65536 } } [(F.TIME_TPCFG_KIND, 64, 2)]
     (s.tpWait 64).isSome && (nx (.timeplateFire 64) s).tpEnt 64 == none),
    (let s : State := { up with time := { up.time with agenda := [⟨1000001 * nsS, .keyroll 1, some 63, false⟩] } }
     (nx (.timeplateFire 63) s).time.due == [.keyroll 1] && (nx (.timeplateFire 63) s).time.agenda.isEmpty)] = true := by decide +kernel

/-! ## Witnesses: ingress and the nine stages -/

/-- A part that receives on every medium. -/
def rx : State :=
  put { up with pipe := { up.pipe with engOk := 1 }, radio := { up.radio with table := (zeros 4 ++ [0xFF, 0, 0, 0] ++ [0xE7, 3, 0, 0]) ++ zeros 500, rows := [0] }, port := { up.port with
      sec0 := { installed := true } } }
    [(F.T1S_CTRL_EN, 0, 255), (F.UPLINK_CFG_EN, 0, 1), (F.PLC_CTRL_RXEN, 0, 63), (F.PLC_CTRL_TXEN, 0, 7), (F.RADIO_CTRL_RXEN, 0, 1),
     (F.RADIO_CTRL_TXEN, 0, 1), (F.RADIO_DMCFG_EN, 31, 1), (F.PIPE_CTRL_EN, 0, 1), (F.BURIN_CTRL_EN, 0, 1), (F.PORT_ROLE_PLC, 0, 4), (F.PORT_ROLE_RADIO, 0, 4),
     (F.PORT_ROLE_T1S, 0, 4), (F.RADIO_STATUS_NOTABLE, 0, 0)]

/-- An item of slot 3 that has passed a stage, authentic and with a register in its plaintext. -/
def work (k : Nat) : Work :=
  { item := item 9, stage := k, ident := 5, counter := 5, content := 1, slot := some 3, authentic := true, wide := 5, recGen := 1,
    plain := [1, 0, 10, 0, 0] ++ be 8 77, apdu := zeros 28 ++ be 4 0xFFFFFFFF }

/-- A part with that item in flight. -/
def flight (w : Work) : State :=
  { rx with pipe := { rx.pipe with work := [w] }, meter := { up.meter with placeK := some (zeros 16), recs := [(3, mr 3)] } }

/-- An uplink frame of an EtherType with a payload, from its destination address on. -/
def ether (t : Nat) (b : Bytes) : Bytes := zeros 12 ++ be 2 t ++ b

/-- An IPv6 packet of UDP to a port, without a payload. -/
def udp6 (port : Nat) : Bytes := be 4 (6 * 2 ^ 28) ++ be 2 8 ++ [17, 64] ++ zeros 32 ++ be 2 9 ++ be 2 port ++ be 2 8 ++ be 2 0

/-- What the first uplink's frame says at the PHY, protected under the key in force. -/
def upx (p : UpPayload) : UplinkRx := ⟨0, true, true, 0, 1, p⟩

/-- Whether the uplink accepts a protected frame, and what it counts beside. -/
def accepted (s : State) (f : UplinkRx) (b : Bytes) : Bool :=
  let r := (s.adv (wireNs (s.upRate f.up) (b.length + 36))).install f.up
  s.geti F.UPLINK_CFG_EN 0 != 0 && s.live 0 && s.on F.SYS_STATUS_C0READY && r.rxKey f.up f.knum && r.rxFresh f.up f.knum f.pn

theorem witness_IngressCompletesAtSegments : holds [
    bit (rx.get F.T1S_CTRL_EN) 7 && rx.live 9 && rx.pipe.ring3.isEmpty && rx.regionFits 3 && !rx.overWm 3 &&
      (item 0).classOf (rx.get F.PIPE_GUCOR_UDPPORT) == 3 && (nx (.t1sFrameReceive 7 (zeros 1496) true) rx).geti F.T1S_RXOK 7 == 1 &&
      (nx (.t1sFrameReceive 7 (zeros 60) true) rx).pipe.reg3.map (fun i => i.seq) == [0],
    (nx (.t1sFrameReceive 0 (zeros 60) false) rx).geti F.T1S_RXBAD 0 == 1,
    (let s : State := { rx with pipe := { rx.pipe with ring3 := [item 4, item 5] } }
     s.regionFits 3 && (nx (.spillDrain 3) s).pipe.ring3 == [item 5] && (nx (.spillDrain 3) s).pipe.reg3 == [{ item 4 with spilled := true }])] = true := by decide +kernel

theorem witness_IngressCompletesAtUplinks : holds [
    (let f := upx (.frame (ether 0x0800 (zeros 50)))
     accepted rx f (ether 0x0800 (zeros 50)) && (nx (.uplinkFrameReceive f) rx).geti F.UPLINK_RXOK 0 == 1 &&
       (nx (.uplinkFrameReceive f) rx).time.uplOther == rx.time.uplOther + 1),
    (let f := upx (.frame (ether 0x86DD (udp6 7)))
     f.protd && accepted rx f (ether 0x86DD (udp6 7)) && beAt (udp6 7) 42 2 == 7 && beAt (udp6 7) 6 1 == 17),
    (let f : UplinkRx := { upx (.frame (ether 0x0800 (zeros 50))) with valid := false }
     (nx (.uplinkFrameReceive f) rx).geti F.UPLINK_RXMSBAD 0 == 1 && (nx (.uplinkFrameReceive f) rx).geti F.UPLINK_RXOK 0 == 0),
    (let b := ether 0x0800 (zeros 50)
     let s : State := { rx with port := { rx.port with mrx := [(0, b.take 20)] } }
     accepted s (upx (.part false true true (b.drop 20))) b &&
       (nx (.uplinkFrameReceive (upx (.part false true true (b.drop 20)))) s).geti F.UPLINK_RXOK 0 == 1),
    (let f := upx (.frame (ether 0x88F7 (0 :: [3] ++ zeros 60)))
     accepted rx f (ether 0x88F7 (0 :: [3] ++ zeros 60)) && (nx (.uplinkFrameReceive f) rx).time.ptpIgnored == rx.time.ptpIgnored + 1),
    (let f := upx (.frame (ether 0x88F7 (0 :: [2] ++ zeros 41)))
     (nx (.uplinkFrameReceive f) rx).time.ptpIgnored == rx.time.ptpIgnored + 1),
    (let f : UplinkRx := { upx (.frame (ether 0x0800 (zeros 50))) with protd := false }
     rx.upHcp 0 (ether 0x0800 (zeros 50)) == none && (nx (.uplinkFrameReceive f) rx).geti F.UPLINK_RXUNPROT 0 == 1),
    (let s := put rx [(F.QOS_CTRL_PREEMPT, 0, 1)]
     bit (s.get F.QOS_CTRL_PREEMPT) 0 && (lookupK 0 (nx (.uplinkFrameReceive (upx .verify)) s).port.out).map (fun x => x.body) == some (.mpkt 1))] = true := by decide +kernel

theorem witness_IngressEventsComplete : holds [
    (let f := { plc0 with ch := 5, saddr := 1, lqi := 9 }
     rx.plcRuns 5 && !rx.plcBlanked 2 && (nx (.plcFrameReceive f) rx).geti F.PLC_FOK 5 == 1 &&
       (nx (.plcFrameReceive { f with ok := false }) rx).geti F.PLC_FBAD 5 == 1 &&
       (nx (.plcFrameReceive { f with secured := true }) rx).geti F.PLC_NOKEY 5 == 1 &&
       lookupK 5 (nx (.plcFrameReceive { f with kind := .other }) rx).plc.unsup == some 1),
    (let f : RadioRx := ⟨31, true, zeros 20, -80, 5, 0, false, false, false⟩
     let row := rx.geti F.RADIO_DMCFG_ROW 31
     rx.on F.RADIO_CTRL_RXEN && rx.geti F.RADIO_DMCFG_EN 31 != 0 && rx.live 13 && rx.radio.rows.contains row && bit (rx.rowField row 4 1) 0 &&
       bit (rx.rowField row 4 1) (2 + rx.geti F.RADIO_DMCFG_MODE 31) && !rx.rfBlanked && (nx (.radioFrameReceive f) rx).get F.RADIO_FOK == 1 &&
       (nx (.radioFrameReceive { f with crc := false }) rx).get F.RADIO_FBAD == 1 &&
       (nx (.radioFrameReceive { f with missed := true }) rx).get F.RADIO_MISS == 1 &&
       (nx (.radioFrameReceive { f with blanked := true }) rx).get F.RADIO_BLANK == 1)] = true := by decide +kernel

theorem witness_EarlyStagesComplete : holds [
    (let s : State := { rx with pipe := { rx.pipe with reg3 := [item 4] } }
     s.on F.SYS_STATUS_FULLREADY && s.workFits && s.port.poison.isEmpty && (nx (.ingressAndClassSorting 3) s).pipe.reg3.isEmpty),
    (let s : State := { rx with pipe := { rx.pipe with reg0 := [item 4] } }
     decide ((item 4).len ≤ 256) && decide (itemWords s.pipe.distQ + 33 ≤ queueWords 5) && (nx (.ingressAndClassSorting 0) s).pipe.distQ == [item 4]),
    (let s : State := { rx with pipe := { rx.pipe with reg3 := [item 4, item 5] }, port := { rx.port with poison := [⟨3, 1, 0, .service⟩] } }
     (match ((s.setRegion 3 [item 5]).qTake 3 ((s.region 3).map Item.len)).2 with | .discard => true | _ => false) &&
       (nx (.ingressAndClassSorting 3) s).pipe.reg3 == [item 5] && (nx (.ingressAndClassSorting 3) s).pipe.work.isEmpty),
    (let s : State := { rx with pipe := { rx.pipe with reg3 := [item 4, item 5] }, port := { rx.port with poison := [⟨3, 2, 0, .service⟩] } }
     (match ((s.setRegion 3 [item 5]).qTake 3 ((s.region 3).map Item.len)).2 with | .flush => true | _ => false) &&
       (nx (.ingressAndClassSorting 3) s).pipe.reg3.isEmpty),
    (let s : State := { flight (work 1) with meter := { up.meter with placeK := some (zeros 16), recs := [(((withRecs []).candidates 5).1, mr 3)] } }
     s.workOf 9 == some (work 1) && (work 1).at_ 2 && s.holds (s.candidates 5).1 5 &&
       ((nx (.duplicateSuppression 9) s).workOf 9).map (fun x => (x.stage, x.wide, x.tested)) == some (2, 5, true)),
    (let s : State := { flight (work 1) with meter := { up.meter with placeK := some (zeros 16), recs := [(((withRecs []).candidates 5).2, { mr 3 with h := 5, map := 1 })] } }
     !s.holds (s.candidates 5).1 5 && s.holds (s.candidates 5).2 5 && ((s.mrec (s.candidates 5).2).window 5).isSome),
    (let s : State := { flight (work 1) with meter := { up.meter with placeK := some (zeros 16) } }
     !s.holds (s.candidates 5).1 5 && !s.holds (s.candidates 5).2 5 &&
       ((nx (.duplicateSuppression 9) s).workOf 9).map (fun x => x.stage) == some 2),
    (let s : State := { flight (work 2) with meter := { up.meter with placeK := some (zeros 16), recs := [(((withRecs []).candidates 5).1, mr 4)] } }
     (work 2).at_ 3 && ((nx (.meterSlotLookup 9) s).workOf 9).map (fun x => (x.stage, x.held)) == some (3, some 0x32)),
    (let s : State := { flight { work 2 with authentic := false } with meter := { up.meter with placeK := some (zeros 16) } }
     (s.findSlot 5).isNone && !s.blocked { work 2 with authentic := false } && ((nx (.meterSlotLookup 9) s).workOf 9).isNone),
    (let s := flight { work 3 with authentic := false }
     (work 3).at_ 4 && s.on F.PIPE_CTRL_EN && !s.on F.PWR_STATUS_WARN && (s.workOf 9).isSome),
    (let s : State := { rx with pipe := { rx.pipe with defer := [item 4] }, key := { up.key with seeds := [(0, ⟨0, zeros 32⟩)] } }
     s.keysBack && s.pipe.defer.find? s.itemReady == some (item 4) && s.pipe.ring3.isEmpty && s.regionFits 3 && !s.overWm 3 &&
       (nx .deferralReplay s).pipe.defer.isEmpty)] = true := by decide +kernel

/-- A signed item of slot 3 before stage 5, with the key that stage 3 gave it. -/
def signed (alg : Nat) (sig k : Bytes) : Work :=
  { work 4 with sigalg := alg, sig := sig, pop := some ⟨2, 0, 0, false, 0, k⟩ }

theorem witness_SignatureStageCompletes : holds [
    (let s := flight (work 4)
     (work 4).at_ 5 && (work 4).alg (s.popAt (work 4)).profile == 0 && ((nx (.signatureVerification 9) s).workOf 9).map (fun x => x.stage) == some 5),
    (let w := { signed 1 (le 64 1) (zeros 64) with authentic := false }
     w.at_ 5 && (w.keyCheck (zeros 64) 1).isSome && !(flight w).blocked w && ((nx (.signatureVerification 9) (flight w)).workOf 9).isNone),
    (let w := signed 2 (be 32 1 ++ be 32 1) ([2, 0] ++ be 62 5)
     let s := flight w
     w.keyCheck (s.popAt w).pkey 2 == none && !sigRefused 2 w.sig && s.burinRuns && !s.burinBefore w.item.cls && w.alg (s.popAt w).profile == 2),
    (let w := signed 2 (zeros 64) ([2, 0] ++ be 62 5)
     (flight w).popAt w == ⟨2, 0, 0, false, 0, [2, 0] ++ be 62 5⟩ && sigRefused 2 w.sig),
    (let w := signed 1 (le 64 1) ([1, 0] ++ be 62 5)
     let s := flight w
     w.keyCheck (s.popAt w).pkey 1 == none && sigRefused 1 (le 64 1) == false && s.burinRuns &&
       (nx (.signatureVerification 9) s).pipe.batches.any (fun b => b.seqs.contains 9)),
    (let s : State := { rx with pipe := { rx.pipe with batches := [{ id := 1, cls := 3, seqs := [9] }] } }
     !s.on F.PWR_STATUS_WARN && s.on F.PIPE_CTRL_EN && (nx (.batchClose 3) s).pipe.batches.all (fun x => x.closed)),
    (let s : State := { rx with pipe := { rx.pipe with batches := [{ id := 1, cls := 3, seqs := [9], closed := true }] } }
     s.burinRuns && !s.burinBefore 3 && (nx (.batchVerifyComplete 1) s).pipe.batches.isEmpty &&
       (nx (.batchVerifyComplete 1) s).get F.BURIN_BATCH == 1)] = true := by decide +kernel

theorem witness_LateStagesComplete : holds [
    (let s := flight (work 5)
     (work 5).at_ 6 && (match s.parse (work 5) with | .ok r => r.imp == some 77000 | .error _ => false) &&
       ((nx (.parsing 9) s).workOf 9).map (fun x => x.stage) == some 6),
    (let w := { work 5 with plain := [9] }
     !(flight w).blocked w && ((nx (.parsing 9) (flight w)).workOf 9).map (fun x => x.outcome) == some (some 0x60)),
    (let w := { work 6 with reading := some { imp := some 5, rt := 7 } }
     let s : State := { flight w with meter := { up.meter with recs := [(3, { mr 3 with rt := 6, flags := 8 })] } }
     w.at_ 7 && s.validate w (s.popAt w) (s.mrec 3) { imp := some 5, rt := 7 } == none &&
       ((nx (.validation 9) s).workOf 9).map (fun x => (x.stage, x.outcome)) == some (7, none)),
    (let w := { work 7 with reading := some { imp := some 5, rt := 7 } }
     let s : State := { flight w with meter := { up.meter with recs := [(3, { mr 3 with h := 4 })] } }
     w.at_ 8 && !s.blocked w && !s.legalWaits && !s.handWaits && !s.reruns w 3 && s.recheck8 w 3 none == none && ((nx (.commit 9) s).mrec 3).ct == s.time.dev &&
       (nx (.commit 9) s).pipe.series.map (fun e => e.slot) == [3]),
    (let w := { work 7 with reading := some { imp := some 5, rt := 7 } }
     let s : State := { flight w with meter := { up.meter with recs := [(3, { mr 4 with h := 4 })] } }
     s.recheck8 w 3 none == some 0x32 && !s.reruns w 3 && w.authentic && ((nx (.commit 9) s).workOf 9).map (fun x => x.outcome) == some (some 0x32) &&
       (nx (.commit 9) s).pipe.series.isEmpty),
    (let w := { work 6 with outcome := some 0x70 }
     let s : State := { flight w with meter := { up.meter with recs := [(3, mr 3)] } }
     !(w.lastgasp && s.legalWaits) && ((nx (.commit 9) s).workOf 9).map (fun x => (x.stage, x.outcome)) == some (8, some 0x70)),
    (let w := { work 5 with held := some 0x32 }
     !(flight w).blocked w && ((nx (.parsing 9) (flight w)).workOf 9).map (fun x => x.outcome) == some (some 0x32)),
    (let w := { work 8 with outcome := some 0x41 }
     (nx (.acknowledgement 9) (flight w)).workOf 9 == none),
    (let s : State := { rx with pipe := { rx.pipe with quar := [⟨1, 0x41, 4, none, 5, 0, item 4⟩] } }
     (nx .quarantineExpire s).pipe.quar.isEmpty && decide (5 + s.get F.PIPE_QCFG_DAYS * 86400 ≤ (nx .quarantineExpire s).secs))] = true := by decide +kernel

/-! ## Witnesses: egress, the power-line modem, the radio -/

/-- A packet of a class with a body. -/
def pk (cls : Nat) (b : EgBody) : EgPkt := { cls := cls, len := 100, body := b }

/-- A part with a packet at the head of a queue of an egress port. -/
def out (p c : Nat) (b : EgBody) : State :=
  { rx with port := { rx.port with egress := [{ id := 14 + 4 * p + c, q := [pk c b] }] } }

/-- The second uplink enabled with its link up. -/
def linked (s : State) : State := put s [(F.UPLINK_CFG_EN, 1, 1), (F.UPLINK_STATUS_LINK, 1, 1)]

theorem witness_EgressEventsComplete : holds [
    (let s : State := { rx with port := { rx.port with egress := [{ id := 14 + 4 * 13 + 3, ring := [pk 3 (.block 0 0 []), pk 3 (.block 0 1 [])] }] } }
     decide (pktsWords (s.egq 69).q + pktWords 1536 ≤ queueWords 69) && (s.egq 69).wait.isEmpty && s.port.sub == none &&
       ((nx (.egressSpillDrain 13 3) s).egq 69).q.length == 1 && ((nx (.egressSpillDrain 13 3) s).egq 69).ring.length == 1),
    (let s := linked (out 1 2 (.hcp 5 9 false []))
     s.live 1 && decide (s.bcDue 1 = s) && s.headCls 1 == some 2 && s.suspended 1 == none && ((s.upReady 1 false).egTake 1 2).2.isSome &&
       s.hopOf 1 (.hcp 5 9 false []) == none && (nx (.uplinkTransmit 1) s).geti F.UPLINK_TXOK 1 == 0),
    (let a := 0xFE80 * 2 ^ 112 + 5
     let s := linked (out 1 2 (.hcp a 9 false []))
     s.hopOf 1 (.hcp a 9 false []) == some a && (nx (.uplinkTransmit 1) s).geti F.UPLINK_TXOK 1 == 1 &&
       (lookupK 1 (nx (.uplinkTransmit 1) s).port.out).map (fun x => (x.cls, x.hop)) == some (2, a)),
    (let a := 0xFE80 * 2 ^ 112 + 5
     let s := linked (out 1 2 (.hcp a 9 true []))
     !(s.install 1 |>.sec 1).installed && (nx (.uplinkTransmit 1) s).geti F.UPLINK_TXOK 1 == 0),
    (let f : Fly := ⟨1, 0, 124, 900, true, true⟩
     let s0 := linked rx
     let s : State := { s0 with port := { s0.port with fly := [f] } }
     s.headCls 1 != some 0 && s.suspended 1 == some f && decide (s.bcDue 1 = s) &&
       (nx (.uplinkTransmit 1) s).port.fly.any (fun g => g.up == 1 && !g.susp && g.len == 900 && g.before == 124)),
    (let s := put (out 9 3 (.down 3 [])) [(F.T1S_PLCA_MAXBC, 7, 0)]
     s.live 9 && s.geti F.T1S_PLCA_MAXBC 7 == 0 && s.headCls 9 == some 3 && (s.egTake 9 3).2.isSome && (nx (.plcaOpportunity 7) s).geti F.T1S_TXOK 7 == 1),
    (let s : State := put { rx with port := { rx.port with egress := [{ id := 14 + 4 * 9 + 3, q := [pk 3 (.down 3 []), pk 3 (.down 4 [])] }] } }
       [(F.T1S_PLCA_MAXBC, 7, 1)]
     (nx (.plcaOpportunity 7) s).geti F.T1S_TXOK 7 == 2),
    (let s := put rx [(F.QOS_CTRL_PREEMPT, 0, 3), (F.QOS_CTRL_VERIFY, 0, 1)]
     bit (s.get F.QOS_CTRL_PREEMPT) 1 && s.on F.QOS_CTRL_VERIFY && (nx (.preemptVerify 1 true) s).get F.QOS_STATUS_PREACT == 2),
    (let s : State := { put rx [(F.QOS_STATUS_C0FAULT, 0, 1)] with port := { rx.port with c0Fault := some 9 } }
     (nx .c0faultEnd s).get F.QOS_STATUS_C0FAULT == 0 && (nx .c0faultEnd s).port.c0Fault == none)] = true := by decide +kernel

/-- A member of a channel's PAN with a route. -/
def mem (heard nbr : Bool) : PlcNode := { ch := 5, saddr := 1, slot := 3, ident := 5, link := {}, heard := heard, nbr := nbr }

/-- A part with that member on a phase of a locked mains, with the modem's group key at hand. -/
def plc (n : PlcNode) : State :=
  put { rx with plc := { up.plc with nodes := [n] }, key := { up.key with seeds := [(0, ⟨0, zeros 32⟩)], gmks := [(5, zeros 16)] }, meter := { up.meter with
      placeK := some (zeros 16), recs := [(((withRecs []).candidates 5).1, mr 3)] } }
    [(F.MAINS_STATUS_STATE, 0, 2), (F.PLC_CTRL_HATCH_EN, 0, 1)]

/-- A G.9903 join request of that member, with a PSK. -/
def join (psk : Bytes) : JoinRq := ⟨5, 5, psk, none⟩

/-- A part with a packet for a phase's queue and that member. -/
def sending (n : PlcNode) (b : EgBody) : State :=
  { plc n with port := { rx.port with egress := [{ id := 14 + 4 * 12 + 2, q := [{ pk 2 b with chan := 5 }] }] } }

theorem witness_PlcEventsComplete : holds [
    (let s : State := { plc (mem true true) with plc := {} }
     s.plcRuns 5 && s.hasGmk 5 && (s.findSlot 5).isSome && (s.seedOf 0).isSome && s.plc.nodes.isEmpty &&
       (s.findSlot 5).all (fun x => (s.mrec x.1).state != 6 && (s.mrec x.1).seed == 0)),
    !rx.hasGmk 5 && (nx (.plcJoin (join [])) rx).plc.nodes.isEmpty,
    (let s := { plc (mem true true) with meter := up.meter }
     (s.findSlot 5).isNone && (nx (.plcJoin (join [])) s).plc.nodes == s.plc.nodes),
    (let s : State := { rx with plc := { up.plc with reasm := [⟨5, 65535, 1, 2, [], [], 0, 0⟩] } }
     (nx (.reassemblyTimeout 5 65535) s).geti F.PLC_REASM 5 == 1 && (nx (.reassemblyTimeout 5 65535) s).plc.reasm.isEmpty),
    (nx (.driverFault 2) rx).get F.PLC_STATUS_DRVFAULT == 4,
    !rx.forces 31 2 && (nx (.driverFaultClear 2) (put rx [(F.PLC_STATUS_DRVFAULT, 0, 7)])).get F.PLC_STATUS_DRVFAULT == 3,
    (let s := plc (mem true true)
     s.plcRuns 5 && s.on F.PLC_CTRL_HATCH_EN && s.get F.MAINS_STATUS_STATE == 2),
    (let s := plc (mem true true)
     (s.plcNode 5 1).any (fun n => n.nbr) && s.plcRuns 5 && ((nx (.neighbourPeriod 5 1) s).plcNode 5 1).map (fun n => (n.heard, n.link.missed)) == some (false, 0)),
    (let s := plc { mem false true with link := { missed := 2 } }
     ((nx (.neighbourPeriod 5 1) s).plcNode 5 1).map (fun n => (n.link.missed, bit n.link.lflags 4)) == some (3, true)),
    (let s := plc { mem false true with route := false, finding := true }
     ((nx (.routeFound 5 1 (some (2, 70000, 3))) s).plcNode 5 1).map (fun n => (n.route, n.finding, n.link.nexthop, n.link.rcost)) ==
       some (true, false, 2, 65535)),
    (let s := plc { mem false true with route := false, finding := true }
     ((nx (.routeFound 5 1 none) s).plcNode 5 1).map (fun n => (n.route, n.finding)) == some (false, false)),
    (let s : State := { rx with plc := { up.plc with waitR := [⟨5, 1, pk 2 (.down 3 []), 0⟩] } }
     (nx (.norouteTimeout 5 1) s).geti F.PLC_NOROUTE 5 == 1 && (nx (.norouteTimeout 5 1) s).plc.waitR.isEmpty),
    (let s := sending (mem true true) (.link 1 2 [])
     bit (s.get F.PLC_CTRL_TXEN) 2 && s.live 12 && !bit (s.get F.PLC_STATUS_DRVFAULT) 2 && s.headCls 12 == some 2 && s.plc.tx.isEmpty &&
       (s.nextSegment 2).isNone && (s.egTake 12 2).2.any (fun x => x.body.slot? == none)),
    (let s := sending { mem true true with route := false } (.down 3 [])
     (s.egTake 12 2).2.any (fun x => x.body.slot? == some 3 && (s.plcRoute 2 x 3).2.2 == false) &&
       (nx (.plcTransmit 2) s).plc.waitR.map (fun w => w.ch) == [5]),
    (let s := sending (mem true true) (.down 3 [])
     (s.egTake 12 2).2.any (fun x => (s.plcRoute 2 x 3).2.2))] = true := by decide +kernel

theorem witness_CalibrationEventsComplete : holds [
    rx.plcRuns 5 && (nx (.liveCalibration (.plcOfs 5 (-3))) rx).geti F.PLC_CALST_OFS 5 == 65533,
    (nx (.liveCalibration (.plcGain 0 7)) rx).geti F.PLC_CALST_GAIN 0 == 7,
    rx.on F.RADIO_CTRL_RXEN && (nx (.liveCalibration (.iqGain 1 (-1))) rx).geti F.RADIO_CALST_IQGAIN 1 == 65535,
    (nx (.liveCalibration (.iqPhase 0 2)) rx).geti F.RADIO_CALST_IQPHASE 0 == 2,
    (let s := put { rx with time := { rx.time with rate := -2 } } [(F.TIME_STATUS_STATE, 0, 2)]
     s.refTarget == some (-2000) && (nx (.reffreqApply true) s).get F.RADIO_REFOFS_PPB == 16775216 &&
       (nx (.reffreqApply true) s).get F.RADIO_REFOFS_FROMPTP == 1),
    (let s := nx (.plcCal .service 4) rx
     (s.runAt (.plc 2)).isSome && !s.on F.PWR_STATUS_WARN && s.idleGap (.plc 2)),
    (let s : State := { nx (.faultStBurin .service 1) rx with fault := { rx.fault with burinAt := some rx.time.clk, engine := 22 } }
     (s.runAt .burin).isSome && (nx (.calSlice .burin (.done false false)) s).fault.engine == 23),
    (let s := nx (.radioCal .service 1) rx
     (s.runAt .radio).isSome && (nx (.calAbandon .radio) s).runAt .radio == none)] = true := by decide +kernel

/-- A frame at the transmitter, in a phase. -/
def tx (ph : Nat) : State := { rx with radio := { rx.radio with head := some (pk 0 (.down 3 []), 0, 900), phase := ph } }

/-- A sleeper with a frame in its store. -/
def sleeper : State :=
  let a : RadioA := { anch := 999999 * nsS, lwper := 60000, lwlen := 500, slflags := 1 }
  let r : MRec := { mr 3 with flags := 64, medium := 1, radio := a }
  { rx with radio := { rx.radio with store := [⟨3, false, pk 2 (.down 3 [])⟩] }, meter := { up.meter with recs := [(3, r)] } }

theorem witness_RadioEventsComplete : holds [
    (let s := put (out 13 0 (.down 3 [])) [(F.RADIO_STATUS_NOTABLE, 0, 0)]
     s.radioTx && s.radio.head == none && (s.headPkt 13).any (fun x => x.cls == 0 && !s.stale x)),
    (let s := { out 13 0 (.down 3 []) with radio := { rx.radio with table := [], rows := [] } }
     s.radioTx && (match s.radioRoute (pk 0 (.down 3 [])) with | .error (3, 0) => true | _ => false) && (nx .radioTransmit s).get F.RADIO_TXNONE == 1),
    (let s := { sleeper with port := (out 13 2 (.down 3 [])).port }
     (s.headPkt 13).any s.stale && (nx .radioTransmit s).radio.head == none && (nx .radioTransmit s).get F.RADIO_TXNONE == 0),
    (let s := tx 1
     decide (ofTc 1 (s.rowField 0 6 1) < 5) && (nx (.lbtWindowEnd 5) s).radio.phase == 2 && (nx (.lbtWindowEnd 5) s).get F.RADIO_LBTBUSY == 1),
    (let s := tx 1
     decide ((-90 : Int) ≤ ofTc 1 (s.rowField 0 6 1)) && (nx (.lbtWindowEnd (-90)) s).radio.head == none),
    (let s := { tx 1 with port := (out 13 0 (.down 3 [])).port }
     s.headCls 13 == some 0 && ((s.advTo s.radio.phaseEnd).egTake 13 0).2.any (fun x => (s.attemptOf x).isNone)),
    (nx .lbtBackoffEnd (tx 2)).radio.phase != 2,
    (tx 0).rowField 0 8 2 != 0 && (nx .demodulatorWaitExpire (tx 0)).radio.phase == 1,
    (let s : State := { rx with radio := { rx.radio with dwell := [(0, List.replicate 61 5)] } }
     (nx .dwellMinute s).radio.dwell == [(0, 0 :: List.replicate 60 5)]),
    (let s := sleeper
     !(s.sleepers 3).isEmpty && (s.mrec 3).sleeper && bit (s.mrec 3).radio.slflags 0 && !bit (s.mrec 3).radio.slflags 1 &&
       s.radio.tries.isEmpty && (let t := nx (.sleeperWindow 3) s; !t.radio.tries.isEmpty || bit (t.mrec 3).radio.slflags 1)),
    (let s : State := { sleeper with radio := { sleeper.radio with tries := [⟨3, 5, 6, pk 2 (.down 3 []), false, 0⟩] } }
     (nx (.sleeperAttemptLapse 3) s).radio.tries.isEmpty),
    (let s : State := { sleeper with radio := { sleeper.radio with tries := [⟨3, 5, 6, pk 2 (.down 3 []), true, 9⟩] } }
     (nx (.sleeperReplyTimeout 3) s).radio.tries.isEmpty && (nx (.sleeperReplyTimeout 3) s).get F.RADIO_SLMISS == 1)] = true := by decide +kernel

/-! ## Witnesses: balance, distribution -/

/-- A balance engine with node 3 and an open interval that ends at 1,000,800 s, in which slot 9 is its reference. -/
def bal (b : BalSt) : State := put { up with bal := b } [(F.BAL_CTRL_EN, 0, 1)]
@[inherit_doc bal] def open3 : BalSt :=
  { nodes := [nd 3], opens := [{ t := 1000837, len := 900, kids := [], refs := [(3, 9)] }] }

theorem witness_BalanceEventsComplete : holds [
    (let s := { bal { inbox := [⟨3, some (900 * nsS), { imp := some 3600, rt := 1800 * nsS }, 5, ⟨0, 0, 900 * nsS, 1, []⟩, 0, true⟩] } with
       meter := { up.meter with recs := [(3, mr 3)] } }
     s.balRuns && s.port.poison.isEmpty && (nx .balanceReading s).bal.inbox.isEmpty && ((nx .balanceReading s).mrec 3).bal.rate == 14),
    (let s := bal {}
     s.balRuns && s.bal.lastInst == 0 && s.onGrid s.balLen 1000837 && decide (1000837 * nsS ≤ (nx (.balanceInstant 1000837) s).time.dev) &&
       (nx (.balanceInstant 1000837) s).bal.lastInst == 1000837 && (nx (.balanceInstant 1000837) s).bal.opens.any (fun o => o.t == 1000837)),
    (let s := put (bal {}) [(F.BAL_CTRL_EN, 0, 0)]
     !s.on F.BAL_CTRL_EN && s.onGrid s.balLen 1000837 && (nx (.balanceInstant 1000837) s).bal == { lastInst := 1000837 }),
    (let s := bal open3
     (s.openAt 1000837).any (fun o => (o.refOf 3).isSome && !o.fin.contains 3 && o.prov.isEmpty) && (s.anyNode 3).isSome &&
       ((nx (.provisionalResult 3 1000837) s).openAt 1000837).map (fun o => o.prov) == some [(3, 0)]),
    (let s := bal open3
     !s.bal.opens.any (fun x => decide (x.t < 1000837) && (x.refOf 3).isSome && !x.fin.contains 3) &&
       (nx (.intervalFinal 3 1000837) s).bal.results.map (fun y => (y.node, y.t)) == [(3, 1000837)]),
    (let s := bal { nodes := [nd 3], locq := [3, 4] }
     s.bal.locq.head? == some 3 && (s.node 3).isSome && (nx (.localisation 3) s).bal.locq == [4]),
    (let s := bal { results := [res3] }
     (nx .resultExpire s).bal.results.isEmpty && decide (900 + s.get F.BAL_RETAIN_DAYS * 86400 ≤ (nx .resultExpire s).secs))] = true := by decide +kernel

/-- A part with a post in a state of its own. -/
def postIs (p : Post) : State := { posts with dist := { posts.dist with posts := [p], rq := [3], cur := some 3 } }

/-- A part whose campaign 15 is in a state, its arming instant due. -/
def armed (c : Camp) (trusted : Nat) : State :=
  put { camps c with time := { up.time with due := [.campArm 15] } } [(F.TIME_STATUS_TRUSTED, 0, trusted), (F.TIME_STATUS_STATE, 0, 2 * trusted)]

/-- An acknowledgement of command 77 with a limit of 1,000 W, protected under the meter key of `post3`, over radio. -/
def ackEnv : Bytes := envHead 5 7 0 3 0 11 true ++ be 27 0x6449a7540a19af061918cf9a3459a90656966e962b2c40f8cc1eca
@[inherit_doc ackEnv] def ackItem : Item := { medium := 1, port := 0, stamp := 1000000 * nsS, frame := zeros 10 ++ 0xA0 :: ackEnv }

theorem witness_CurtailAckOpens : (match ackItem.recognise (up.get F.PIPE_GUCOR_UDPPORT) with
    | .gucor e _ => e == ackEnv && beAt e 4 8 == post3.ident && (seeded post3).ackOpen post3 e == some [(0x92, be 4 77 ++ be 4 1000)]
    | _ => false) = true := by decide +kernel

theorem witness_DistributionEventsComplete : holds [
    (let s := postIs { post3 with climit := 100, curt := 4 }
     (s.dist.cur.bind s.post).isSome && s.on F.DIST_CTRL_CURT_EN),
    (let s : State := { posts with pipe := { up.pipe with distQ := [item 4, item 5] } }
     decide ((item 4).len ≤ 256) && s.port.poison.isEmpty && (nx .curtailAck s).pipe.distQ == [item 5]),
    (let s := postIs { post3 with waits := true }
     ((nx (.curtAckTimeout 3) s).post 3).map (fun p => (p.waits, p.curt)) == some (false, 3)),
    (let s := postIs { post3 with waits := true, left := 3 }
     ((nx (.curtAckTimeout 3) s).post 3).map (fun p => (p.waits, p.left)) == some (true, 2)),
    (let s := postIs { post3 with climit := 0 }
     s.get F.DIST_CURT_REFRESH != 0 && ((nx (.curtRefresh 3) s).post 3).map (fun p => p.refAt) ==
       some ((nx (.curtRefresh 3) s).time.clk + s.get F.DIST_CURT_REFRESH * nsS)),
    (let s : State := { posts with dist := { posts.dist with mdue := [3] } }
     (s.post 3).isSome && !(nx (.postMirrorWrite 3) s).dist.mdue.contains 3 && (nx (.postMirrorWrite 3) s).dist.mirror == [post3]),
    (let s : State := { posts with dist := { posts.dist with pushes := [⟨3, [], 0, 0⟩] } }
     (nx (.pushRetry 3) s).dist.pushes.isEmpty && ((nx (.pushRetry 3) s).mrec 3).dist.pstate == 4),
    (let s : State := { posts with dist := { posts.dist with pushes := [⟨3, [], 2, 0⟩] } }
     s.on F.DIST_CTRL_PUSH_EN && (s.dist.pushes.find? (fun x => x.slot == 3)).map (fun x => x.left) == some 2),
    (let s : State := { posts with dist := { posts.dist with inbox := [(3, 5, []), (4, 5, [])] } }
     (nx .targetReport s).dist.inbox == [(4, 5, [])]),
    (let v := be 4 9 ++ [1, 0]
     let s : State := { posts with dist := { posts.dist with inbox := [(3, 5, recBytes 0x90 v)] }, meter := { up.meter with
       recs := [(3, { mr 3 with flags := 2, dist := { camp := 255, pstate := 1, pcalid := 9 } })] } }
     s.port.poison.isEmpty && records 10 (recBytes 0x90 v) == some [(0x90, v)] && beAt v 0 4 == (s.mrec 3).dist.pcalid &&
       ((nx .targetReport s).mrec 3).dist.pstate == 3),
    (let s := camps (camp15 3)
     decide (0 < s.get F.DIST_CAMP_ROUNDS) && ((nx (.campRound 15) s).camp 15).map (fun c => c.rounds) == some 1),
    (let s := put (camps { camp15 3 with miss := [(3, [0])] }) [(F.DIST_CAMP_ROUNDS, 0, 0)]
     s.get F.DIST_CAMP_ROUNDS == 0 && ((nx (.campRound 15) s).camp 15).map (fun c => (c.rounds, c.miss)) == some (0, [])),
    ((nx (.campArm 15) (armed (camp15 3) 0)).camp 15).map (fun c => c.state) == some 4,
    ((nx (.campArm 15) (armed (camp15 3) 1)).camp 15).map (fun c => c.armed) == some true,
    (let s : State := { camps { camp15 3 with armed := true, arms := [(3, 2000000)] } with
        meter := { up.meter with recs := [(3, { mr 3 with dist := { camp := 15, cstate := 5 } })] } }
     s.cstate 3 == 5 && (nx (.campConfirmTimeout 3) s).cstate 3 == 7)] = true := by decide +kernel

/-! ## Witnesses: ports, keys, tamper, storage -/

theorem witness_ProtocolEventsComplete : holds [
    (nx (.transferTimeout 2) (withXfer { image 1 [1] with closed := false })).port.xfers.isEmpty,
    !kept.port.kept.isEmpty && (nx .responseCacheExpire kept).port.kept.isEmpty,
    (let s : State := { up with port := { up.port with notifs := [⟨0, 5, 6, 2, 2, [], 0⟩, ⟨0, 5, 7, 2, 2, [], 0⟩] } }
     (nx (.notificationAck 0 5 6) s).port.notifs == [⟨0, 5, 7, 2, 2, [], 0⟩]),
    (let s : State := { up with port := { up.port with notifs := [⟨0, 5, 6, 0, 2, [], 0⟩], sub := some ⟨0, 5, 9, 3, 31⟩ } }
     (nx (.notificationTimeout 0 5 6) s).get F.PORT_NDROP == 1),
    (let s : State := { up with port := { up.port with notifs := [⟨0, 5, 6, 2, 2, [], 0⟩], sub := some ⟨0, 5, 9, 3, 31⟩ } }
     (nx (.notificationTimeout 0 5 6) s).port.notifs == [⟨0, 5, 6, 1, 2, [], 0⟩])] = true := by decide +kernel

theorem witness_SpiTransactionsComplete : holds [
    spiPort .seal && spiPort .service && up.role .seal != 0 && up.role .service != 0 &&
      ((nx (.spiRead .service 0x40000000) up).port.miso.head?).map (fun x => x.2.drop 1) == some (be 1 spiDone ++ be 4 0x67314200),
    (let s : State := { up with pwr := { up.pwr with wakeBad := [.PTP] } }
     up.pwr.noPll.isEmpty && up.pwr.wakeBad.isEmpty && domOfReg F.TIME_SLEWMAX_PPM.addr == .PTP &&
       ((nx (.spiRead .service F.TIME_SLEWMAX_PPM.addr) s).port.miso.head?).map (fun x => x.2.drop 1) == some (be 1 spiRefused) &&
       ((nx (.spiWrite .service F.TIME_SLEWMAX_PPM.addr 3) s).port.miso.head?).map (fun x => x.2.drop 1) == some (be 1 spiRefused) &&
       (nx (.spiWrite .service F.TIME_SLEWMAX_PPM.addr 3) s).get F.PORT_SPIREF == 1),
    ((nx (.spiWrite .service F.SYS_LOCK_LOCK.addr 3) up).port.miso.head?).map (fun x => x.1) == some .service,
    ((findReg F.SYS_LOCK_LOCK.addr).map (fun x => x.1.prot)) == some .pair && up.reg.spiHeld.isEmpty &&
      (nx (.spiWrite .service F.SYS_LOCK_LOCK.addr 3) up).reg.spiHeld == [⟨.service, F.SYS_LOCK_LOCK.addr, 3, up.time.clk⟩],
    ((nx (.spiStatus .seal) up).port.miso.head?).map (fun x => x.2.length) == some 1,
    (let s : State := { up with port := { up.port with sealOut := [[7, 8], [9]] } }
     (nx (.hcpout .seal) s).port.sealOut == [[9]] && ((nx (.hcpout .seal) s).port.miso.head?).map (fun x => x.2.drop 1) == some ([0, 2] ++ [7, 8]))] = true := by decide +kernel

theorem witness_PortEventsComplete : holds [
    (nx (.sdInsert ⟨none, []⟩) up).port.card == some ⟨none, []⟩,
    (let s : State := { up with port := { up.port with card := some ⟨none, []⟩ } }
     (nx (.sdRemove false) s).port.card == none && (nx (.sdRemove true) s).get F.PORT_SDERR == 1),
    up.geti F.UPLINK_STATUS_LINK 1 != 1 && (nx (.linkChange 1 true) up).geti F.UPLINK_STATUS_LINK 1 == 1,
    !bit (up.get F.T1S_STATUS_PHYFAULT) 7 && (nx (.t1sPhyFault 7 true) up).get F.T1S_STATUS_PHYFAULT == 128,
    (let s : State := { up with time := { up.time with due := [.keyroll 1] }, key := { up.key with seeds := [(0, ⟨0, zeros 32⟩)] }, port :=
       { up.port with sec1 := { installed := true, armed := some (9, 1000000 * nsS) } } }
     (s.takeDue (.keyroll 1)).isSome && (s.sak 1 9).isSome && (s.sec 1).armed == some (9, 1000000 * nsS)),
    (let s : State := { up with port := { up.port with sec1 := { old := some 4, oldEnd := 5 } } }
     ((nx (.keyrollOverlapEnd 1) s).sec 1).old == none)] = true := by decide +kernel

theorem witness_TamperAndMemoryEventsComplete : holds [
    up.detectorRuns 13 && (up.decides false (.monitor 13)).1 && (up.decides true (.monitor 13)).1 && up.pwr.on,
    (let s := put up [(F.TAMPER_ARM_ARM, 0, 1), (F.TAMPER_INCFG_EN, 0, 1), (F.TAMPER_INCFG_FILT, 0, 2)]
     let l := [some false, some true, some true]
     s.detectorRuns 0 && (s.decides false (.pin 0 l)).1 != (s.decides false (.pin 0 (l.map (fun x => x.map not)))).1 &&
       (s.decides false (.pin 0 l)).1 == (s.decides true (.pin 0 l)).1 && !(s.decides false (.pin 0 [some true])).1),
    (let s := put up [(F.TAMPER_ARM_ARM, 0, 512), (F.TAMPER_MESH_EN, 1, 1)]
     s.detectorRuns 9 && (s.decides false (.mesh 1 [(true, false), (false, true)])).1 && !(s.decides false (.mesh 1 [(true, false), (true, true)])).1),
    !up.on F.KEY_STATUS_FLAT && !up.on F.KEY_STATUS_FUSEGATED && (nx (.katPeriodic true) up).get F.KEY_STATUS_KATOK == 1 &&
      (nx (.katPeriodic false) up).get F.KEY_STATUS_FLAT == 1,
    (let s := put up [(F.DRAM_CTRL_SCRUB_EN, 0, 1), (F.DRAM_STATUS_TRAINED, 0, 1), (F.DRAM_STATUS_SIZE, 0, 1)]
     s.on F.DRAM_CTRL_SCRUB_EN && s.on F.DRAM_STATUS_TRAINED && s.dramBytes != 0 && (nx (.dramScrub 4096 {}) s).ftl.patrolN == 4096 &&
       (nx (.dramScrub s.dramBytes {}) s).get F.DRAM_SCRUBPASS == 1),
    (nx (.refreshDerating ⟨1, true⟩) up).get F.DRAM_STATUS_DERATE == 1 && (nx (.refreshDerating ⟨1, false⟩) up).get F.DRAM_STATUS_DERATE == 0] = true := by
  decide +kernel

/-- A mounted array. -/
def ftl (f : FtlSt) : State := put { up with ftl := f } [(F.FTL_STATUS_MOUNTED, 0, 1), (F.FTL_STATUS_RO, 0, 0), (F.FTL_STATUS_NOPARITY, 0, 0)]

theorem witness_StorageEventsComplete : holds [
    (ftl {}).ftlWrites,
    (nx .fold (ftl { buffer := 4096 })).ftl.buffer == 0,
    (let l := [(0, .retry), (1, .read 1 100)]
     (ftl {}).worn 100 100 && (nx (.superblockClose 1 ((2, .read 100 100) :: l)) (ftl {})).get F.FTL_REBUILT == 1 &&
       (put (ftl {}) [(F.FTL_STATUS_NOPARITY, 0, 1)]).ftlWrites),
    (let s := ftl { pe := [(5, 9)], reads := [(5, 7)] }
     decide (s.refreshAt false ≤ 7 + s.refreshAt false) && lookupK 5 (nx (.readRefresh ⟨5, false, s.refreshAt false⟩) s).ftl.pe == some 10 &&
       lookupK 5 (nx (.readRefresh ⟨5, true, 1⟩) s).ftl.reads == some 8),
    (ftl {}).on F.FTL_STATUS_MOUNTED,
    lookupK 5 (nx (.nandScrub 5 .retry) (ftl {})).ftl.pe == some 1,
    (ftl {}).worn 100 100 && !(ftl {}).worn 0 100 && lookupK 5 (nx (.nandScrub 5 (.read 100 100)) (ftl {})).ftl.pe == some 1 &&
      lookupK 5 (nx (.nandScrub 5 (.read 0 100)) (ftl {})).ftl.pe == none,
    (nx (.blockFail 5 true) (ftl { spare := 9 })).ftl.bad == [5] && (nx (.blockFail 5 true) (ftl { spare := 9 })).ftl.spare == 8,
    (nx .wearReport (ftl { host := 5000000000 })).get F.FTL_HOSTGB == 5,
    (ftl { discards := [(3, 9, 0)] }).gslot == some 0 && ((nx (.graverRequest 3) (ftl { discards := [(3, 9, 0)] })).greq 0).map (fun g => g.vol) == some 3,
    (let s := fun st => ftl { greqs := [⟨63, 0, 3, st, 9, 0, 0, 0, false⟩] }
     ((nx (.graverStateAdvance 63 .good) (s 0)).greq 63).map (fun g => g.st) == some 1 &&
       ((nx (.graverStateAdvance 63 .good) (s 5)).greq 63).map (fun g => g.st) == some 6 &&
       ((nx (.graverStateAdvance 63 (.zeroed 8)) (s 3)).greq 63).map (fun g => g.st) == some 4 && (nx (.graverStateAdvance 63 (.zeroed 8)) (s 3)).ftl.bad == [8] &&
       ((nx (.graverStateAdvance 63 (.failed 8)) (s 5)).greq 63).map (fun g => g.st) == some 7 && (nx (.graverStateAdvance 63 (.failed 8)) (s 5)).ftl.bad == [8]),
    ((nx (.graverOverdue 63) (ftl { greqs := [⟨63, 0, 3, 5, 9, 0, 0, 0, false⟩] })).greq 63).map (fun g => g.late) == some true] = true := by decide +kernel

/-! ## Witnesses: firmware, start, power -/

/-- A part with a staged manifest of no parts. -/
def staged (st : Nat) (due : List AgKind) (prep : Bool) : State :=
  put { up with fwu := { up.fwu with man := some ⟨5, 1000000, 0, []⟩, st := st, prepared := prep, cand := 1000300 }, time := { up.time with due := due } }
    [(F.TIME_STATUS_STATE, 0, 2)]

theorem witness_FirmwareEventsComplete : holds [
    (let s := staged 3 [] false
     !s.inWindow s.fwu.cand && s.fwu.man.isSome),
    (let s := staged 1 [.activation 5] false
     (s.takeDue (.activation 5)).isSome && (nx .activation s).fwu.man == none && (nx .activation s).fwu.result == 5),
    (let s := staged 2 [.activation 5] true
     s.deferCause == none && (nx .activation s).fwu.halted && (nx .activation s).fwu.st == 4),
    (let s := put (staged 2 [.activation 5] true) [(F.TIME_STATUS_STATE, 0, 3)]
     s.deferCause == some 0 && (nx .activation s).fwu.st == 3 && !(nx .activation s).fwu.prepared),
    (let s0 := staged 2 [.activation 5] true
     let s : State := { s0 with fwu := { s0.fwu with man := some ⟨5, 1000000, 0, [⟨0x4C, 1, 9, 0, 0, zeros 32, []⟩]⟩ } }
     (nx .activation s).fwu.man == none && (nx .activation s).fwu.result == 3),
    (let s := staged 3 [.candidate] true
     (s.takeDue .candidate).isSome && s.deferCause == none && !s.inWindow s.fwu.cand && (nx .activationCandidate s).fwu.halted),
    (let s := put (staged 3 [.candidate] true) [(F.TIME_STATUS_STATE, 0, 3)]
     s.deferCause.isSome && (nx .activationCandidate s).fwu.st == 3),
    (let s : State := { up with fwu := { up.fwu with halted := true, actcnt := 2 } }
     s.fwu.halted),
    (let s : State := { up with fwu := { up.fwu with actcnt := 2, confcnt := 1 } }
     decide (s.fwu.confcnt < s.fwu.actcnt))] = true := by decide +kernel

/-- An image loader at the first of some records. -/
def loading (l : List CfgRec) : State := { up with pwr := { up.pwr with loader := some ⟨l, 64, none⟩ } }

theorem witness_StartEventsComplete : holds [
    State.reset.pwr.on == false,
    (let s : State := { up with pwr := { up.pwr with seqLeft := 2 } }
     !s.monLow && !s.on F.PWR_STATUS_PIN && (nx .sequencerRelease s).pwr.seqLeft == 1),
    (let s := put { up with pwr := { up.pwr with seqLeft := 1 } } [(F.PWR_STATUS_PHASE, 0, 1)]
     !s.monLow && !s.on F.PWR_STATUS_PIN && (nx .sequencerRelease s).get F.PWR_STATUS_PHASE == 2),
    (let s := loading [.write F.FAULT_DUR_US.addr 5, .fin]
     !s.untrusted && s.cfgActs F.FAULT_DUR_US.addr && pairAddr F.FAULT_DUR_US.addr == false && (lookupK F.FAULT_DUR_US.addr actTable).isNone &&
       (nx (.cfgWrite F.FAULT_DUR_US.addr 5) s).pwr.loader == some ⟨[.fin], 76, none⟩ && (nx (.cfgWrite F.FAULT_DUR_US.addr 5) s).get F.FAULT_DUR_US == 5),
    (let s := loading [.write F.SYS_LOCK_LOCK.addr 5, .fin]
     pairAddr F.SYS_LOCK_LOCK.addr && (nx (.cfgWrite F.SYS_LOCK_LOCK.addr 5) s).pwr.loader == some ⟨[.fin], 76, none⟩ &&
       (nx (.cfgWrite F.SYS_LOCK_LOCK.addr 5) s).get F.CFG_WRFAIL == 1),
    (let s := loading [.pair F.BILL_SETTLE_S.addr 5, .fin]
     ((findReg F.BILL_SETTLE_S.addr).map (fun x => x.1.prot)) == some .pair && (lookupK F.BILL_SETTLE_S.addr actTable).isNone &&
       (nx (.cfgWritePair F.BILL_SETTLE_S.addr 5) s).pwr.loader == some ⟨[.fin], 76, none⟩),
    (nx (.cfgStrobe 65535) (loading [.strobe 65535, .fin])).pwr.loader == some ⟨[.fin], 68, none⟩,
    (let s := loading [.wait 0 0x40000000 1 1 5, .fin]
     (nx (.cfgWait 0 0x40000000 1 1 5) s).pwr.loader == some ⟨[.wait 0 0x40000000 1 1 5, .fin], 64, some (0, 0x40000000, 1, 1, up.time.clk + 5000)⟩),
    (let s : State := { up with pwr := { up.pwr with loader := some ⟨[.wait 0 0x40000000 1 1 5, .fin], 64, some (0, 0x40000000, 1, 1, up.time.clk + 5000)⟩ } }
     (nx .waitEnd s).pwr.loader == some ⟨[.fin], 84, none⟩ && (nx .waitEnd s).time.clk == up.time.clk + 5000),
    (nx (.cfgTable 0x0601 [1, 2, 3]) (loading [.table 0x0601 [1, 2, 3], .fin])).pwr.loader == some ⟨[.fin], 76, none⟩,
    (let s := put (loading [.fin]) [(F.SYS_STATUS_C0READY, 0, 0)]
     s.fwu.reverted == none),
    (let s := put up [(F.SYS_STATUS_FULLREADY, 0, 0)]
     s.on F.SYS_STATUS_C0READY && !s.trial && decide (2 ≤ s.get F.PWR_STATUS_PHASE) && dramSize 4 4 == some 1 && dramSize 8 8 == some 2 &&
       nandTaken ⟨4, 4, true, 1024, false, 4, true, 24, []⟩ && nandTaken ⟨8, 8, true, 8192, true, 4, true, 24, []⟩),
    (let s := put up [(F.SYS_STATUS_FULLREADY, 0, 0), (F.DRAM_STATUS_TRAINED, 0, 1)]
     let env : FullEnv := ⟨4, 4, true, 1023, false, 4, true, 24, []⟩
     !nandTaken env && s.on F.DRAM_STATUS_TRAINED && (nx (.fullPipelineReady env) s).get F.SYS_STATUS_MISSING == 30 &&
       !(nx (.fullPipelineReady env) s).on F.SYS_STATUS_FULLREADY),
    (let s := put up [(F.SYS_STATUS_FULLREADY, 0, 0)]
     !s.trial && (nx .fullreadyTimeout s).pwr.lateLogged),
    (let s := put { up with fwu := { up.fwu with actcnt := 2, confcnt := 1 } } [(F.SYS_STATUS_FULLREADY, 0, 0)]
     s.trial && s.pwr.on && !s.pwr.lateLogged)] = true := by decide +kernel

theorem witness_PowerEventsComplete : holds [
    (let t := nx (.supplyWarning true 3) up
     t.get F.PWR_STATUS_WARN == 1 && t.get F.PWR_STATUS_PIN == 1 && t.pwr.warnAt == some up.time.clk && t.ftl.held),
    (let t := nx .supplyWarningReleased (nx (.supplyWarning true 0) up)
     t.pwr.relAt == some up.time.clk && t.get F.PWR_STATUS_PIN == 0),
    (let s := nx .supplyWarningReleased (nx (.supplyWarning true 0) up)
     !s.fault.waits && (nx .supplyRecover s).get F.PWR_STATUS_WARN == 0 && (nx .supplyRecover s).get F.PWR_DIPCNT == 1),
    (let s := nx (.supplyWarning true 0) up
     (nx .warningHoldTimeout s).pwr.held && (nx .warningHoldTimeout s).time.clk == up.time.clk + 100000000)] = true := by decide +kernel


/-! ## Witnesses: frames -/

theorem witness_RegisterAndRecorderFrames :
    exec (.timeSnap .service 1) up = .next (nx (.timeSnap .service 1) up) ∧
    exec (.ppsInEdge) up = .next (nx .ppsInEdge up) ∧ exec .freezeEnd frozen = .next (nx .freezeEnd frozen) := ⟨rfl, rfl, rfl⟩

theorem witness_StorageAndMediaFrames :
    exec .fold (ftl { buffer := 4096 }) = .next (nx .fold (ftl { buffer := 4096 })) ∧ exec .dwellMinute rx = .next (nx .dwellMinute rx) ∧
    exec (.driverFault 2) rx = .next (nx (.driverFault 2) rx) ∧ exec (.keyPress 3) up = .next (nx (.keyPress 3) up) := ⟨rfl, rfl, rfl, rfl⟩

theorem witness_PartitionFrames :
    exec (.parsing 9) (flight (work 5)) = .next (nx (.parsing 9) (flight (work 5))) ∧
    exec (.localisation 3) (bal open3) = .next (nx (.localisation 3) (bal open3)) ∧
    exec .hwmWrite up = .next (nx .hwmWrite up) ∧ exec .settle legal = .next (nx .settle legal) ∧
    exec (.curtRefresh 3) posts = .next (nx (.curtRefresh 3) posts) := ⟨rfl, rfl, rfl, rfl, rfl⟩

theorem witness_EventsKeepTheRegisters :
    exec (.eventLog 0x1008 [(1, 1)] 2) up = .next (nx (.eventLog 0x1008 [(1, 1)] 2) up) ∧
    exec (.linkChange 1 true) up = .next (nx (.linkChange 1 true) up) ∧
    F.SYS_PAIRERR.key 0 ∉ mirrorKeys ∧ F.SYS_PAIRERR.key 0 ∉ logKeys ∧ F.SYS_PAIRERR.key 0 ≠ F.UPLINK_STATUS_LINK.key 1 :=
  ⟨rfl, rfl, by decide, by decide, by decide⟩


/-! ## The manual's worked examples -/

/-- The minimal image of "Example: a minimal image" in 17_registers_and_configuration.md, with its hash. -/
def image60 : Bytes := be 4 0x504C4346 ++ be 4 0x01000000 ++ be 4 0x60 ++ be 4 7 ++ be 4 0 ++ zeros 12 ++ be 12 0x02000000401A0000008204C9 ++
  be 12 0x010000004004000000000007 ++ be 4 0x03000002 ++ be 4 0
@[inherit_doc image60] def memory60 : Bytes := image60 ++ sha256 image60

/-- Its records, and that it is found valid; a byte changed makes the digest wrong (R434, R435). -/
theorem test_minimal_image : holds [
    image60.length == 64, cfgParse 64 (memory60.drop 32) == some [.pair 0x401A0000 0x008204C9, .write 0x40040000 7, .strobe 2, .fin],
    cfgCause (some (65536, false, memory60)) 0 == 0, cfgCause (some (65536, false, be 4 0x504C4346 ++ be 1 1 ++ zeros 3 ++ memory60.drop 9)) 0 != 0,
    cfgCause (some (65536, false, memory60.take 19 ++ [1] ++ memory60.drop 20)) 0 == 5] = true := by decide +kernel

/-- "Example: changing the legal clock limit" in 17_registers_and_configuration.md: both writes are answered 0x5A and MS becomes 1,000; the
wrong complement is answered 0xE1 and leaves MS. -/
theorem test_legal_clock_limit : holds [
    (let s := nx (.spiWrite .seal 0x40090008 0x3E8) up
     (s.port.miso.head?).map (fun x => x.2.drop 1) == some [0x5A] && s.get F.BILL_LEGCLK_MS == 2000),
    (let s := nx (.spiWrite .seal 0x40098008 0xFFFFFC17) (nx (.spiWrite .seal 0x40090008 0x3E8) up)
     (s.port.miso.head?).map (fun x => x.2.drop 1) == some [0x5A] && s.get F.BILL_LEGCLK_MS == 1000),
    (let s := nx (.spiWrite .seal 0x40098008 0xFFFFFC18) (nx (.spiWrite .seal 0x40090008 0x3E8) up)
     (s.port.miso.head?).map (fun x => x.2.drop 1) == some [0xE1] && s.get F.BILL_LEGCLK_MS == 2000)] = true := by decide +kernel

/-- "Example: a symbol across a segment boundary" in 09_power_line_modem.md (R243): the masks of the two symbols, and their carriers. -/
theorem test_symbol_mask : holds [
    (let s := put up [(F.PLC_HATCH_HGUARD, 0, 256)]
     let m := [63, 63, 0b111110, 0b011111] ++ List.replicate 12 63
     s.symMask m 0 11000 2277 == 0b011110 && carriersOf 0 (s.symMask m 0 11000 2277) == 24 &&
       s.symMask m 0 13277 2277 == 0b011111 && carriersOf 0 (s.symMask m 0 13277 2277) == 30)] = true := by decide +kernel

/-- "Example: a sleeper in frost" in 10_radio.md (R266): displacement and half-width of the windows at A + 122 s, 182 s, 242 s and 302 s. -/
theorem test_sleeper_windows : holds [
    (let s := put up [(F.RADIO_SLEEP_GUARD, 0, 5)]
     let a := 999900 * nsS
     let w := fun mult at_ => s.window { anch := a, lwofs := 2000, lwper := 60000, tol := 50, mult := mult } (a + at_ * nsS)
     w 0 121 == (a + 122 * nsS, 6100000, 6100000) && w 1 181 == (a + 182 * nsS, 9100000, 10000000) && (w 2 241).2.2 == 20000000 &&
       (w 3 301).2.2 == 40000000)] = true := by decide +kernel

/-- "Example: losing the active grandmaster" in 02_time_and_mains.md (R36): a slew of −1,400 ns at 200 ppm takes about 7 ms. -/
theorem test_slew_time : holds [
    (let s := put { up with time := { up.time with slew := -1400 } } [(F.TIME_SLEWMAX_PPM, 0, 200)]
     decide (6990000 < s.slewEnd) && decide (s.slewEnd ≤ 7000000))] = true := by decide +kernel

/-- "Example: rehearsing the cabinet door" in 19_faults_and_injection.md: the pair through the service port begins the injection of detector 3. -/
theorem test_injection_begins : holds [
    (let s := nx (.spiWrite .service 0x40198008 0xFFFEFFFC) (nx (.spiWrite .service 0x40190008 0x10003)
        (put up [(F.TAMPER_ARM_ARM, 0, 8), (F.TAMPER_INCFG_EN, 3, 1)]))
     s.get F.FAULT_STATUS_ACTIVE == 1 && s.get F.FAULT_STATUS_LEFT == 1 && s.get F.FAULT_STATUS_DET == 3)] = true := by decide +kernel
end Sys2Proof.Tests
end

section
/-! O9 (R19): what a read and an access between 0x401B_0000 and 0x4FFF_FFFF do. -/

namespace Sys2Proof.Machine

/-- The last block, PORT, ends at 0x401B_0000 (R18, R19). -/
theorem blockOf_eq_none_of_ge {a : Nat} (h : 0x401B0000 ≤ a) : blockOf a = none := by
  unfold blockOf
  exact if_neg (by omega)

theorem findReg_eq_none_of_ge {a : Nat} (h : 0x401B0000 ≤ a) : findReg a = none := by
  unfold findReg
  rw [blockOf_eq_none_of_ge h]

theorem sealOnly_eq_false_of_ge {a : Nat} (h : 0x401B0000 ≤ a) : sealOnly a = false := by
  have hchk : F.BILL_CHKV_WORD.addr + 32 ≤ 0x401B0000 := by decide
  have hplate : F.DISP_PLATED_WORD.addr + 36 ≤ 0x401B0000 := by decide
  have hnotChk : ¬ a < F.BILL_CHKV_WORD.addr + 32 := by omega
  have hnotPlate : ¬ a < F.DISP_PLATED_WORD.addr + 36 := by omega
  simp [sealOnly, hnotChk, hnotPlate]

/-- Every table window lies within the blocks. -/
theorem State.windows_end_le (s : State) : ∀ w ∈ s.windows, w.1 + w.2.1 ≤ 0x401B0000 := by
  simp only [State.windows, List.forall_mem_cons, List.not_mem_nil, false_imp_iff, implies_true, and_true]
  refine ⟨?_, ?_, ?_, ?_, ?_, ?_⟩ <;> omega

theorem State.windows_find_eq_none_of_ge (s : State) {a : Nat} (h : 0x401B0000 ≤ a) :
    s.windows.find? (fun w => decide (w.1 ≤ a) && decide (a < w.1 + w.2.1)) = none := by
  rw [List.find?_eq_none]
  intro w hw
  have hend := s.windows_end_le w hw
  simp only [Bool.and_eq_true, decide_eq_true_eq]
  omega

/-- R19: a read past the blocks returns zero, at the seal port as elsewhere. -/
theorem State.readWord_eq_zero_of_ge (s : State) (atSeal : Bool) {a : Nat} (h : 0x401B0000 ≤ a) :
    s.readWord atSeal a = 0 := by
  simp [State.readWord, sealOnly_eq_false_of_ge h, s.windows_find_eq_none_of_ge h, findReg_eq_none_of_ge h]

/-- R493: the first occurrence opens its window and is logged. -/
theorem State.logOnce_of_win_none {s : State} {code key : Nat} (period : Nat) (fl : List (Nat × Nat)) (o : Org)
    (h : s.win code key = none) :
    s.logOnce code key period fl o = (s.openWin ⟨code, key, s.time.clk + period, false, 1, o.agent⟩).log code fl o := by
  unfold State.logOnce
  rw [h]

/-- R493: an occurrence while its window is open is not logged. -/
theorem State.logOnce_of_win_isSome {s : State} {code key : Nat} (period : Nat) (fl : List (Nat × Nat)) (o : Org)
    (h : (s.win code key).isSome = true) : s.logOnce code key period fl o = s := by
  obtain ⟨w, hw⟩ := Option.isSome_iff_exists.mp h
  unfold State.logOnce
  rw [hw]

/-- R19: whether the access reads or writes makes no difference; beside the once-per-second log it has no effect. -/
theorem exec_unmappedAccess (s : State) (p : Port) {a : Nat} (w : Bool) (hlo : 0x401B0000 ≤ a) (hhi : a < 0x50000000) :
    exec (.unmappedAccess p a w) s = .next (s.unmapped p a).mirror :=
  congrArg ok (if_pos ⟨hlo, hhi⟩)

end Sys2Proof.Machine

namespace Sys2Proof.Proofs

open Sys2Proof.Machine

/-- Settles O9: no register, window or seal-port table lies past the blocks, and the access is logged through the window of
its event, which is one second long. -/
theorem unmappedAccessReadsZeroAndIsLoggedOnce : Obligations.UnmappedAccessReadsZeroAndIsLoggedOnce := by
  intro s p a w hlo hhi
  refine ⟨fun atSeal => s.readWord_eq_zero_of_ge atSeal hlo, fun hclosed => ?_, fun hopen => ?_⟩
  · rw [exec_unmappedAccess s p w hlo hhi, State.unmapped, State.logOnce_of_win_none _ _ _ hclosed, nsS]
  · rw [exec_unmappedAccess s p w hlo hhi, State.unmapped, State.logOnce_of_win_isSome _ _ _ hopen]

end Sys2Proof.Proofs
end

section
/-! O18 (R276): a request that the role of its port does not permit. -/

namespace Sys2Proof.Machine

/-! ## The register fields that logging and answering leave alone -/

/-- The registers differ in none but the fields that logging an event may count in. -/
def State.FieldsNear (s t : State) : Prop := ∀ (g : Fld) (j : Nat), g.key j ∉ logKeys → t.geti g j = s.geti g j

theorem State.FieldsNear.of_reg_eq {s t : State} (h : t.reg = s.reg) : s.FieldsNear t := fun g j _ => by
  simp only [State.geti, h]

theorem State.FieldsNear.trans {s t u : State} (h : s.FieldsNear t) (k : t.FieldsNear u) : s.FieldsNear u :=
  fun g j hg => (k g j hg).trans (h g j hg)

/-- Counting leaves every other field as it was; a counter index beyond the register is not written at all (R9). -/
theorem State.geti_inci_ne (s : State) {f g : Fld} {i j : Nat} (n : Nat) (h : i < f.cnt → g.key j ≠ f.key i) :
    (s.inci f i n).geti g j = s.geti g j := by
  unfold State.inci
  by_cases hi : i < f.cnt
  · exact s.geti_seti_ne _ (h hi)
  · rw [s.seti_absent f i _ (Nat.le_of_not_lt hi)]

theorem State.fieldsNear_set (s : State) {f : Fld} (v : Nat) (h : f.key 0 ∈ logKeys) : s.FieldsNear (s.set f v) :=
  fun _ _ hg => s.geti_seti_ne v (fun e => hg (e ▸ h))

theorem State.fieldsNear_inc (s : State) {f : Fld} (h : f.key 0 ∈ logKeys) : s.FieldsNear (s.inc f) :=
  s.fieldsNear_set _ h

@[simp] theorem State.fileRec_reg (s : State) (r : Rec) : (s.fileRec r).reg = s.reg := by
  unfold State.fileRec
  split <;> rfl

@[simp] theorem State.uartCopy_reg (s : State) (r : Rec) : (s.uartCopy r).reg = s.reg := by
  unfold State.uartCopy
  dsimp only
  split
  · split <;> rfl
  · rfl

@[simp] theorem State.closeLost_reg (s : State) : s.closeLost.1.reg = s.reg := by
  unfold State.closeLost
  split
  · simp
  · rfl

theorem State.fieldsNear_lose (s : State) (cause : Nat) : s.FieldsNear (s.lose cause) := by
  refine (s.fieldsNear_inc (f := F.EVREC_LOST) (by decide)).trans (.of_reg_eq ?_)
  unfold State.lose
  dsimp only
  split <;> rfl

theorem State.fieldsNear_accept (s : State) (code : Nat) (fl : List (Nat × Nat)) (o : Nat) :
    s.FieldsNear (s.accept code fl o).1 := by
  unfold State.accept
  split
  · exact s.fieldsNear_lose _
  · exact .of_reg_eq (by simp [State.intakeIn])

theorem State.FieldsNear.ite {α : Type} {p : Prop} [Decidable p] {s : State} {x y : State × α} (hx : s.FieldsNear x.1)
    (hy : s.FieldsNear y.1) : s.FieldsNear (if p then x else y).1 := by
  split
  · exact hx
  · exact hy

theorem State.fieldsNear_setBucket (s : State) (b : Bucket) : s.FieldsNear (s.setBucket b) := .of_reg_eq (s.setBucket_reg b)

theorem State.fieldsNear_settle (s : State) (code : Nat) : s.FieldsNear (s.settle code).1 :=
  .ite (.of_reg_eq rfl)
    (.ite (s.fieldsNear_setBucket _) ((s.fieldsNear_setBucket _).trans (State.fieldsNear_accept _ _ _ _)))

theorem State.fieldsNear_draws (s : State) (code : Nat) : s.FieldsNear (s.draws code).1 :=
  .ite (s.fieldsNear_setBucket _) ((s.fieldsNear_setBucket _).trans (State.fieldsNear_inc _ (by decide)))

/-- The shape of the rate limit's decision, over any outcome `y` of the bucket. -/
theorem State.FieldsNear.decided {s : State} {y : State × Bool} (l : List Rec) (h : s.FieldsNear y.1) (limited : Bool) :
    s.FieldsNear (if limited = true then (y.1, y.2, l) else (s, true, [])).1 :=
  .ite h (.of_reg_eq rfl)

theorem State.fieldsNear_token (s : State) (code : Nat) : s.FieldsNear (s.token code).1 :=
  State.FieldsNear.decided (y := (s.settle code).1.draws code) _ ((s.fieldsNear_settle code).trans (State.fieldsNear_draws _ _)) _

theorem fieldsNear_foldl {α : Type} (f : State → α → State) (hf : ∀ (s : State) (a : α), s.FieldsNear (f s a)) (l : List α) :
    ∀ s : State, s.FieldsNear (l.foldl f s) := by
  induction l with
  | nil => exact fun _ => .of_reg_eq rfl
  | cons a t ih => exact fun s => (hf s a).trans (ih _)

theorem State.fieldsNear_raiseFor (s : State) (r : Rec) : s.FieldsNear (s.raiseFor r) := by
  unfold State.raiseFor
  split
  · exact .of_reg_eq (State.raiseSrc_reg _ _)
  · exact .of_reg_eq rfl

theorem State.fieldsNear_logRec (s : State) (code : Nat) (fl : List (Nat × Nat)) (o : Nat) :
    s.FieldsNear (s.logRec code fl o).1 := by
  unfold State.logRec
  refine State.FieldsNear.trans ?_ (fieldsNear_foldl _ State.fieldsNear_raiseFor _ _)
  split
  · exact (s.fieldsNear_token code).trans (State.fieldsNear_accept _ _ _ _)
  · exact s.fieldsNear_token code

section
/-! What stands over a way to log keeps the same fields as that way does. -/

variable {lg : State → Nat → List (Nat × Nat) → State}
  (hlg : ∀ (s : State) (code : Nat) (fl : List (Nat × Nat)), s.FieldsNear (lg s code fl))
include hlg

theorem fieldsNear_proofWith (s : State) : s.FieldsNear (proofWith lg s) := by
  unfold proofWith
  split
  · exact (s.fieldsNear_set _ (by decide)).trans (hlg _ _ _)
  · exact .of_reg_eq rfl

theorem fieldsNear_enqWith (p : Nat) (pk : EgPkt) (full : FullAct) (s : State) : s.FieldsNear (enqWith lg p pk full s) := by
  have queued (q : EgQ) : s.FieldsNear (s.setEgq q) := .of_reg_eq (s.setEgq_reg q)
  have dropped {f : Fld} (h : f.key 0 ∈ logKeys) : s.FieldsNear (s.inc f) := s.fieldsNear_inc h
  unfold enqWith
  dsimp only
  generalize (if (s.egq _).q.isEmpty = true then _ else pk : EgPkt) = pk'
  generalize (if pk'.cls = 2 then s.get _ else s.get _) = wm
  split
  · split
    · exact queued _
    · exact (dropped (f := F.QOS_C0DROP) (by decide)).trans (hlg _ _ _)
  · split
    · split
      · exact queued _
      · exact queued _
    · split
      · exact queued _
      · split
        · split
          · exact (queued _).trans (hlg _ _ _)
          · exact queued _
        · split
          · exact dropped (by decide)
          · split
            · exact queued _
            · exact dropped (by decide)

theorem fieldsNear_notifyWith (code cls : Nat) (body : Bytes) (s : State) : s.FieldsNear (notifyWith lg code cls body s) := by
  unfold notifyWith
  split
  · exact .of_reg_eq rfl
  · exact State.FieldsNear.trans (.of_reg_eq rfl) (fieldsNear_enqWith hlg _ _ _ _)

theorem fieldsNear_tellWith (s : State) (r : Rec) : s.FieldsNear (tellWith lg s r) := by
  unfold tellWith
  split
  · split
    · exact fieldsNear_notifyWith hlg _ _ _ _
    · exact .of_reg_eq rfl
  · exact .of_reg_eq rfl

end

theorem fieldsNear_logD (d : Nat) :
    ∀ (o : Org) (s : State) (code : Nat) (fl : List (Nat × Nat)), s.FieldsNear (logD d o s code fl) := by
  induction d with
  | zero => exact fun o s code fl => s.fieldsNear_logRec code fl _
  | succ d ih =>
    intro o s code fl
    exact ((s.fieldsNear_logRec code fl (s.origin o)).trans (fieldsNear_foldl _ (fieldsNear_tellWith (ih _)) _ _)).trans
      (fieldsNear_proofWith (ih _) _)

theorem State.fieldsNear_log (s : State) (code : Nat) (fl : List (Nat × Nat)) (o : Org) : s.FieldsNear (s.log code fl o) :=
  fieldsNear_logD 2 o s code fl

theorem State.fieldsNear_sendResp (s : State) (r : Req) (fr : Bytes) (pair : Bool) : s.FieldsNear (s.sendResp r fr pair) := by
  unfold State.sendResp
  split
  · exact fieldsNear_enqWith (fieldsNear_logD 2 _) _ _ _ _
  · exact fieldsNear_enqWith (fieldsNear_logD 2 _) _ _ _ _
  · exact .of_reg_eq rfl
  · exact .of_reg_eq rfl

theorem State.fieldsNear_respond (s : State) (r : Req) (code status : Nat) (body : Bytes) :
    s.FieldsNear (s.respond r code status body) := by
  unfold State.respond
  dsimp only
  split
  · exact s.fieldsNear_sendResp _ _ _
  · exact (s.fieldsNear_sendResp _ _ _).trans (.of_reg_eq (State.keep_reg _ _))

/-- Beside what its logging counts, a refusal for role counts in PORT_REFUSED alone. -/
theorem State.geti_refuseRole (s : State) (r : Req) (code : Nat) {g : Fld} {j : Nat} (hlog : g.key j ∉ logKeys)
    (hcount : g.key j ≠ F.PORT_REFUSED.key 0) : (s.refuseRole r code).geti g j = s.geti g j :=
  (((State.fieldsNear_log _ _ _ _).trans (State.fieldsNear_respond _ _ _ _ _)) g j hlog).trans
    (s.geti_inci_ne 1 (fun _ => hcount))

/-! ## A request taken from its queue -/

/-- A packet read without a finding counts at most the bit errors corrected in it (R216). -/
theorem State.geti_qTake_of_fine (s : State) (id : Nat) (lens : List Nat) {g : Fld} {j : Nat} (hfine : (s.qTake id lens).2 = .fine)
    (hcorr : id < F.QOS_QCE_CORR.cnt → g.key j ≠ F.QOS_QCE_CORR.key id) : (s.qTake id lens).1.geti g j = s.geti g j := by
  revert hfine
  unfold State.qTake
  split
  · exact fun _ => rfl
  · split
    · exact nofun
    · split
      · exact fun _ => rfl
      · dsimp only
        split
        · exact fun _ => State.geti_inci_ne _ 1 hcorr
        · split
          · exact nofun
          · exact nofun

/-- A request that runs leaves the registers as they were, but for the count of the bit errors corrected in its words (R216, R217). -/
theorem State.geti_atRun (s : State) (r : Req) (code : Nat) {g : Fld} {j : Nat} (hruns : (s.takeReq r code).2 = true)
    (hcorr : ∀ id < F.QOS_QCE_CORR.cnt, g.key j ≠ F.QOS_QCE_CORR.key id) : (s.atRun r code).geti g j = s.geti g j := by
  revert hruns
  unfold State.atRun State.takeReq
  dsimp only
  split
  · exact fun _ => rfl
  · split
    · exact nofun
    · split
      · exact fun _ => rfl
      · split
        · exact nofun
        · next hread =>
          intro hfine
          have hx := beq_iff_eq.mp hfine
          have hkept := State.geti_qTake_of_fine _ _ _ ((congrArg Prod.snd hread).trans hx) (hcorr _)
          rw [hread] at hkept
          exact hkept

/-! ## Neither shows in what TAMPERCLR clears (R329, R331) -/

theorem tamperStatus_key_ne_qceCorr : ∀ id < F.QOS_QCE_CORR.cnt,
    F.TAMPER_STATUS_LATCH.key 0 ≠ F.QOS_QCE_CORR.key id ∧ F.TAMPER_STATUS_SEALBRK.key 0 ≠ F.QOS_QCE_CORR.key id := by
  decide

theorem State.needsClr_atRun (s : State) (r : Req) (code : Nat) (hruns : (s.takeReq r code).2 = true) :
    (s.atRun r code).needsClr = s.needsClr := by
  have hlatch := s.geti_atRun r code (g := F.TAMPER_STATUS_LATCH) (j := 0) hruns (fun id h => (tamperStatus_key_ne_qceCorr id h).1)
  have hseal := s.geti_atRun r code (g := F.TAMPER_STATUS_SEALBRK) (j := 0) hruns (fun id h => (tamperStatus_key_ne_qceCorr id h).2)
  simp only [State.needsClr, State.on, State.get, hlatch, hseal]

theorem State.needsClr_refuseRole (s : State) (r : Req) (code : Nat) : (s.refuseRole r code).needsClr = s.needsClr := by
  have hlatch := s.geti_refuseRole r code (g := F.TAMPER_STATUS_LATCH) (j := 0) (by decide) (by decide)
  have hseal := s.geti_refuseRole r code (g := F.TAMPER_STATUS_SEALBRK) (j := 0) (by decide) (by decide)
  simp only [State.needsClr, State.on, State.get, hlatch, hseal]

/-! ## The refusal -/

/-- The role is checked once the port is known to be bound, no kept response matches and the class is the command's (R276, R293, R294). -/
theorem hcpGate_eq_refuseRole {r : Req} {code : Nat} {row : HcpRow} {s : State} (hport : hcpPort r.port = true)
    (hrow : hcpRow code = some row) (hcls : r.cls = row.cls) (hbound : s.role r.port ≠ 0) (hkept : s.keptFor r = none)
    (hrole : roleAllows s row (s.role r.port) = false) : hcpGate r code s = some (s.refuseRole r code) := by
  simp [hcpGate, hport, hrow, hcls, hbound, hkept, hrole]

/-- A request that a check stops never comes to its command's body. -/
theorem hcpRun_of_gate_some {r : Req} {code : Nat} {f : State → HRes} {s t : State} (hruns : (s.takeReq r code).2 = true)
    (hgate : hcpGate r code (s.atRun r code) = some t) : hcpRun r code f s = t := by
  have htake : s.takeReq r code = (s.atRun r code, true) := Prod.ext rfl hruns
  simp only [hcpRun, htake, hgate]

/-- Every command of the protocol runs behind the same checks. -/
theorem exec_of_requestOf {i : Instr} {r : Req} {code : Nat} (h : requestOf i = some (r, code)) :
    ∃ f, ∀ s, exec i s = ok (hcpRun r code f s) := by
  unfold requestOf at h
  split at h <;> cases h <;> exact ⟨_, fun _ => rfl⟩

/-- A TAMPERCLR that a check stops, and that so has cleared nothing, does not restart the die (R333). -/
theorem exec_tamperclr_of_gate_some {r : Req} {s t : State} (hruns : (s.takeReq r 0x0801).2 = true)
    (hgate : hcpGate r 0x0801 (s.atRun r 0x0801) = some t) (hclr : t.needsClr = s.needsClr) :
    exec (.tamperclr r) s = .next t.mirror := by
  change execTamperclr r s = ok t
  simp [execTamperclr, hcpRun_of_gate_some hruns hgate, hclr]

/-- A store of 64 or 4,096 responses discards older ones only (R294). -/
theorem State.mem_keep (s : State) (k : Kept) : k ∈ (s.keep k).port.kept := by
  simp only [State.keep]
  generalize List.filter _ s.port.kept = mine
  rw [List.drop_append_of_le_length (by split <;> omega)]
  exact List.mem_append_right _ (List.mem_append_right _ (List.mem_singleton_self k))

/-- A response of a status other than RETRY is kept (R292, R294). -/
theorem State.respond_answered (s : State) (r : Req) (code : Nat) {status : Nat} (body : Bytes) (hstatus : status ≠ stRETRY) :
    (s.respond r code status body).answered r code status body := by
  simp only [State.respond, if_neg hstatus]
  exact ⟨_, State.mem_keep _ _, rfl, rfl⟩

theorem State.refuseRole_answered (s : State) (r : Req) (code : Nat) : (s.refuseRole r code).answered r code stROLE [] :=
  State.respond_answered _ r code [] (by decide)

theorem State.mirror_answered {s : State} {r : Req} {code status : Nat} {body : Bytes} (h : s.answered r code status body) :
    s.mirror.answered r code status body := by
  simpa only [State.answered, State.mirror_port] using h

end Sys2Proof.Machine

namespace Sys2Proof.Proofs

open Sys2Proof.Machine

/-- Settles O18: the role check stops the request before its command's body, so that the body's operands do not matter.
TAMPERCLR, which restarts the die once it has cleared what needs clearing, has cleared nothing when it is refused. -/
theorem forbiddenRoleIsRefused : Obligations.ForbiddenRoleIsRefused := by
  intro i r code row s hi hport hrow hcls hruns hbound hkept hrole
  have hgate := hcpGate_eq_refuseRole hport hrow hcls hbound hkept hrole
  refine ⟨?_, State.mirror_answered (State.refuseRole_answered _ r code)⟩
  obtain hreq | ⟨rfl, rfl⟩ := hi
  · obtain ⟨f, hexec⟩ := exec_of_requestOf hreq
    rw [hexec s, hcpRun_of_gate_some hruns hgate, ok]
  · exact exec_tamperclr_of_gate_some hruns hgate
      ((State.needsClr_refuseRole _ r _).trans (s.needsClr_atRun r _ hruns))

end Sys2Proof.Proofs
end

section
/-! O8 (R424): complement aliases stand for no register and no window, and a write to one that serves no RWP register acts on
nothing. -/

namespace Sys2Proof.Machine

/-! ## The lower half of a block holds everything that reads other than zero -/

set_option maxRecDepth 8000 in
/-- Each register, wherever it is repeated, lies in the lower half of its block, so that the upper half is free for aliases (R424). -/
theorem blockRegs_lowerHalf :
    (blockRegs.all (fun b => b.all (fun r => decide (r.addr % 0x10000 + r.stride * (r.cnt - 1) < 0x8000)))) = true := by
  decide

theorem RegDef.lowerHalf {r : RegDef} (h : r ∈ blockRegs.flatten) : r.addr % 0x10000 + r.stride * (r.cnt - 1) < 0x8000 := by
  obtain ⟨b, hb, hr⟩ := List.mem_flatten.mp h
  simpa using List.all_eq_true.mp (List.all_eq_true.mp blockRegs_lowerHalf b hb) r hr

theorem RegDef.at_lowerHalf {r : RegDef} {i : Nat} (h : r ∈ blockRegs.flatten) (hi : i < r.cnt) :
    r.at_ i % 0x10000 < 0x8000 := by
  have hlast := RegDef.lowerHalf h
  have hle : r.stride * i ≤ r.stride * (r.cnt - 1) := Nat.mul_le_mul_left _ (by omega)
  unfold RegDef.at_
  omega

theorem RegDef.at_of_instAt {r : RegDef} {a i : Nat} (h : r.instAt a = some i) : a = r.at_ i := by
  unfold RegDef.instAt at h
  unfold RegDef.at_
  split at h
  · cases h
  · next hge =>
    split at h
    · split at h
      · next heq => cases h; simpa using heq
      · cases h
    · split at h
      · next hinst =>
        cases h
        have hmul := Nat.mul_div_cancel' (Nat.dvd_of_mod_eq_zero hinst.1)
        omega
      · cases h

theorem mem_of_findReg {a : Nat} {r : RegDef} {i : Nat} (h : findReg a = some (r, i)) :
    r ∈ blockRegs.flatten ∧ r.instAt a = some i := by
  unfold findReg at h
  split at h
  · cases h
  · next b _ =>
    obtain ⟨hr, hi⟩ := findIn_mem a _ h
    refine ⟨List.mem_flatten.mpr ⟨_, ?_, hr⟩, hi⟩
    by_cases hb : b < blockRegs.length
    · simp [List.getD, hb]
    · simp [List.getD, hb] at hr

theorem findReg_eq_none_of_upperHalf {a : Nat} (h : 0x8000 ≤ a % 0x10000) : findReg a = none := by
  refine Option.eq_none_iff_forall_ne_some.mpr fun ⟨r, i⟩ hfind => ?_
  obtain ⟨hr, hinst⟩ := mem_of_findReg hfind
  have hlow := RegDef.at_lowerHalf hr (findReg_cnt hfind).1
  rw [← RegDef.at_of_instAt hinst] at hlow
  omega

theorem sealOnly_eq_false_of_upperHalf {a : Nat} (h : 0x8000 ≤ a % 0x10000) : sealOnly a = false := by
  have hchk : F.BILL_CHKV_WORD.addr = 0x40090080 := rfl
  have hplate : F.DISP_PLATED_WORD.addr = 0x40180080 := rfl
  simp only [sealOnly, hchk, hplate, Bool.or_eq_false_iff, Bool.and_eq_false_iff, decide_eq_false_iff_not]
  omega

theorem State.windows_find_eq_none_of_upperHalf (s : State) {a : Nat} (h : 0x8000 ≤ a % 0x10000) :
    s.windows.find? (fun w => decide (w.1 ≤ a) && decide (a < w.1 + w.2.1)) = none := by
  simp only [State.windows, List.find?_eq_none, List.forall_mem_cons, List.not_mem_nil, false_imp_iff, implies_true, and_true,
    Bool.and_eq_true, decide_eq_true_eq]
  omega

/-- R424: nothing in the upper half of a block reads other than zero. -/
theorem State.readWord_eq_zero_of_upperHalf (s : State) (atSeal : Bool) {a : Nat} (h : 0x8000 ≤ a % 0x10000) :
    s.readWord atSeal a = 0 := by
  simp [State.readWord, sealOnly_eq_false_of_upperHalf h, s.windows_find_eq_none_of_upperHalf h,
    findReg_eq_none_of_upperHalf h]

/-! ## A write with no pair in progress -/

theorem State.breakPair_of_heldBy_none {s : State} {p : Port} (h : s.heldBy p = none) : s.breakPair p = s := by
  simp only [State.breakPair, h]

theorem State.lapse_of_heldBy_none {s : State} {p : Port} (h : s.heldBy p = none) : s.lapse p = s := by
  simp only [State.lapse, h]

/-- An address of the blocks is neither outside the register space nor past the last block (R18, R19). -/
theorem withinBlocks {a : Nat} (hlo : 0x40000000 ≤ a) (hhi : a < 0x401B0000) :
    ¬ (a < 0x40000000 ∨ 0x50000000 ≤ a) ∧ ¬ 0x401B0000 ≤ a := by
  omega

/-- A write within the blocks where neither a register nor the complement address of an RWP register stands does
nothing beyond ending the pair in progress (R9, R424). -/
theorem State.regWriteCore_undescribed (s : State) (act : Act) (p : Port) {a : Nat} (v : Nat) (hlo : 0x40000000 ≤ a)
    (hhi : a < 0x401B0000) (hreg : findReg a = none) (halias : findAlias a = none) :
    (s.regWriteCore act p a v).st = (s.lapse p).breakPair p := by
  simp [State.regWriteCore, withinBlocks hlo hhi, hreg, halias]

end Sys2Proof.Machine

namespace Sys2Proof.Proofs

open Sys2Proof.Machine

/-- Settles O8: complement aliases lie 0x8000 above their registers, thus in the upper half of a block, where no register, window or
seal-port table lies. -/
theorem complementAliasReadsZero : Obligations.ComplementAliasReadsZero := by
  refine ⟨fun s atSeal r i hr _ hi => ?_, fun s act p a v hlo hhi hreg halias hheld => ?_⟩
  · have hlow := RegDef.at_lowerHalf hr hi
    exact s.readWord_eq_zero_of_upperHalf atSeal (by omega)
  · rw [s.regWriteCore_undescribed act p v hlo hhi hreg halias, State.lapse_of_heldBy_none hheld,
      State.breakPair_of_heldBy_none hheld]

end Sys2Proof.Proofs
end

section
/-! O12 (R425): how a complement pair begins, completes and is discarded. -/

namespace Sys2Proof.Machine

/-! ## Logging leaves all of the register engine but its fields -/

/-- The register engine beside the register fields: first writes held, shadows, captures and what else it keeps. -/
def State.engine (s : State) : RegSt := { s.reg with fields := [] }

theorem State.engine_of_reg_eq {s t : State} (h : t.reg = s.reg) : t.engine = s.engine := by
  simp only [State.engine, h]

@[simp] theorem State.set_engine (s : State) (f : Fld) (v : Nat) : (s.set f v).engine = s.engine := rfl
@[simp] theorem State.inc_engine (s : State) (f : Fld) : (s.inc f).engine = s.engine := rfl
@[simp] theorem State.setEgq_engine (s : State) (q : EgQ) : (s.setEgq q).engine = s.engine := rfl
@[simp] theorem State.setBucket_engine (s : State) (b : Bucket) : (s.setBucket b).engine = s.engine := rfl

@[simp] theorem State.lose_engine (s : State) (cause : Nat) : (s.lose cause).engine = s.engine := by
  unfold State.lose
  dsimp only
  split <;> rfl

@[simp] theorem State.accept_engine (s : State) (code : Nat) (fl : List (Nat × Nat)) (o : Nat) :
    (s.accept code fl o).1.engine = s.engine := by
  unfold State.accept
  split
  · exact s.lose_engine _
  · exact State.engine_of_reg_eq (by simp [State.intakeIn])

theorem ite_engine {α : Type} {p : Prop} [Decidable p] {s : State} {x y : State × α} (hx : x.1.engine = s.engine)
    (hy : y.1.engine = s.engine) : (if p then x else y).1.engine = s.engine := by
  split
  · exact hx
  · exact hy

@[simp] theorem State.settle_engine (s : State) (code : Nat) : (s.settle code).1.engine = s.engine :=
  ite_engine rfl (ite_engine (s.setBucket_engine _) ((State.accept_engine _ _ _ _).trans (s.setBucket_engine _)))

@[simp] theorem State.draws_engine (s : State) (code : Nat) : (s.draws code).1.engine = s.engine := by
  unfold State.draws
  dsimp only
  split <;> simp

/-- The shape of the rate limit's decision, over any outcome `y` of the bucket. -/
theorem decided_engine {s : State} {y : State × Bool} (l : List Rec) (h : y.1.engine = s.engine) (limited : Bool) :
    (if limited = true then (y.1, y.2, l) else (s, true, [])).1.engine = s.engine :=
  ite_engine h rfl

@[simp] theorem State.token_engine (s : State) (code : Nat) : (s.token code).1.engine = s.engine :=
  decided_engine (y := (s.settle code).1.draws code) _ ((State.draws_engine _ _).trans (s.settle_engine code)) _

@[simp] theorem State.raiseFor_engine (s : State) (r : Rec) : (s.raiseFor r).engine = s.engine := by
  unfold State.raiseFor
  split <;> rfl

theorem foldl_engine {α : Type} {f : State → α → State} (hf : ∀ s a, (f s a).engine = s.engine) (l : List α) (s : State) :
    (l.foldl f s).engine = s.engine :=
  List.foldlRecOn l f (motive := fun t => t.engine = s.engine) rfl fun t ht a _ => (hf t a).trans ht

@[simp] theorem State.logRec_engine (s : State) (code : Nat) (fl : List (Nat × Nat)) (o : Nat) :
    (s.logRec code fl o).1.engine = s.engine := by
  unfold State.logRec
  refine (foldl_engine State.raiseFor_engine _ _).trans ?_
  split <;> simp

section
/-! What stands over a way to log leaves the engine as that way does. -/

variable {lg : State → Nat → List (Nat × Nat) → State} (hlg : ∀ s code fl, (lg s code fl).engine = s.engine)
include hlg

theorem proofWith_engine (s : State) : (proofWith lg s).engine = s.engine := by
  unfold proofWith
  split
  · exact hlg _ _ _
  · rfl

theorem enqWith_engine (p : Nat) (pk : EgPkt) (full : FullAct) (s : State) : (enqWith lg p pk full s).engine = s.engine := by
  unfold enqWith
  dsimp only
  repeat' split
  all_goals simp [hlg]

theorem notifyWith_engine (code cls : Nat) (body : Bytes) (s : State) : (notifyWith lg code cls body s).engine = s.engine := by
  unfold notifyWith
  split
  · rfl
  · exact enqWith_engine hlg _ _ _ _

theorem tellWith_engine (s : State) (r : Rec) : (tellWith lg s r).engine = s.engine := by
  unfold tellWith
  split
  · split
    · exact notifyWith_engine hlg _ _ _ _
    · rfl
  · rfl

end

theorem logD_engine (d : Nat) : ∀ (o : Org) (s : State) (code : Nat) (fl : List (Nat × Nat)),
    (logD d o s code fl).engine = s.engine := by
  induction d with
  | zero => exact fun _ s _ _ => s.logRec_engine _ _ _
  | succ d ih =>
    intro o s code fl
    exact (proofWith_engine (ih _) _).trans
      ((foldl_engine (tellWith_engine (ih _)) _ _).trans (s.logRec_engine _ _ _))

@[simp] theorem State.log_engine (s : State) (code : Nat) (fl : List (Nat × Nat)) (o : Org) :
    (s.log code fl o).engine = s.engine :=
  logD_engine 2 o s code fl

/-! ## What a requester holds -/

theorem State.heldBy_of_engine_eq {s t : State} (h : t.engine = s.engine) (p : Port) : t.heldBy p = s.heldBy p :=
  congrArg (fun g => g.held.find? (fun x => x.port == p)) h

@[simp] theorem State.heldBy_discarded (s : State) (p q : Port) (a cause : Nat) :
    (s.discarded p a cause).heldBy q = s.heldBy q :=
  State.heldBy_of_engine_eq (by simp [State.discarded]) q

@[simp] theorem State.heldBy_dropHeld (s : State) (p : Port) : (s.dropHeld p).heldBy p = none := by
  simp [State.heldBy, State.dropHeld, List.find?_eq_none]

@[simp] theorem State.heldBy_advTo (s : State) (t : Nat) (p : Port) : (s.advTo t).heldBy p = s.heldBy p := rfl

/-! ## Where a pair in progress ends -/

theorem State.pairDiscard_eq_discarded (s : State) (p : Port) (a cause : Nat) : s.pairDiscard p a cause = s.discarded p a cause := rfl

theorem State.breakPair_of_heldBy_some {s : State} {p : Port} {h : HeldWrite} (hheld : s.heldBy p = some h) :
    s.breakPair p = (s.dropHeld p).discarded p h.addr 1 := by
  simp only [State.breakPair, hheld, State.pairDiscard_eq_discarded]

theorem State.heldBy_breakPair (s : State) (p : Port) : (s.breakPair p).heldBy p = none := by
  cases hheld : s.heldBy p with
  | none => rw [State.breakPair_of_heldBy_none hheld, hheld]
  | some h => rw [State.breakPair_of_heldBy_some hheld, State.heldBy_discarded, State.heldBy_dropHeld]

/-- A first write that goes, whether for its time or for the next write, goes once and with the same cause. -/
theorem State.breakPair_lapse (s : State) (p : Port) : (s.lapse p).breakPair p = s.breakPair p := by
  unfold State.lapse
  split
  · split
    · exact State.breakPair_of_heldBy_none (s.heldBy_breakPair p)
    · rfl
  · rfl

/-- R425: the discard counts in SYS_PAIRERR and, beside what its event counts, changes no field. -/
theorem State.geti_discarded_ne (s : State) (p : Port) (a cause : Nat) {f : Fld} {j : Nat} (hlog : f.key j ∉ logKeys)
    (hcount : f.key j ≠ F.SYS_PAIRERR.key 0) : (s.discarded p a cause).geti f j = s.geti f j :=
  (State.fieldsNear_log _ _ _ _ f j hlog).trans (s.geti_inci_ne 1 fun _ => hcount)

theorem exec_pairTimeout_of_heldBy_some {s : State} {p : Port} {h : HeldWrite} (hheld : s.heldBy p = some h) :
    exec (.pairTimeout p) s =
      .next (((s.advTo (h.since + s.pairWindow (domOfReg h.addr))).dropHeld p).discarded p h.addr 1).mirror := by
  change execPairTimeout p s = _
  simp only [execPairTimeout, hheld, ok]
  rw [State.breakPair_of_heldBy_some ((s.heldBy_advTo _ p).trans hheld)]

/-! ## Writes to a register's own address -/

/-- A write to a register that no pair protects ends the pair in progress and is checked at once. -/
theorem State.regWriteCore_unpaired (s : State) (act : Act) (p : Port) {a : Nat} (v : Nat) {r : RegDef} {i : Nat}
    (hlo : 0x40000000 ≤ a) (hhi : a < 0x401B0000) (hreg : findReg a = some (r, i)) (hprot : r.prot ≠ .pair) :
    s.regWriteCore act p a v = (s.breakPair p).checkedWrite act p r i v := by
  simp [State.regWriteCore, withinBlocks hlo hhi, hreg, hprot, State.breakPair_lapse]

/-- A write to an RWP register ends the pair in progress and is held as the first of a new one. -/
theorem State.regWriteCore_paired (s : State) (act : Act) (p : Port) {a : Nat} (v : Nat) {r : RegDef} {i : Nat}
    (hlo : 0x40000000 ≤ a) (hhi : a < 0x401B0000) (hreg : findReg a = some (r, i)) (hprot : r.prot = .pair) :
    (s.regWriteCore act p a v).st = { s.breakPair p with reg := { (s.breakPair p).reg with
      held := ⟨p, r.at_ i, v, (s.breakPair p).time.clk⟩ :: (s.breakPair p).reg.held } } := by
  simp [State.regWriteCore, withinBlocks hlo hhi, hreg, hprot, State.breakPair_lapse]

/-! ## Writes to complement aliases -/

theorem flip0_ne (v : Nat) : flip0 v ≠ v := by
  unfold flip0 setBit
  cases hbit : bit v 0 with
  | false => simp
  | true =>
    have hpos : v ≠ 0 := by rintro rfl; simp [bit] at hbit
    simp only [if_true, Bool.not_true, Bool.false_eq_true, if_false, Nat.pow_zero]
    omega

section
variable {s : State} {p : Port} {r : RegDef} {i v n : Nat} (act : Act)

theorem State.aliasWrite_completes (hheld : s.heldBy p = some ⟨p, r.at_ i, v, n⟩) (hforced : s.pairForced (r.at_ i) = false) :
    s.aliasWrite act p r i (4294967295 - v) = (s.dropHeld p).checkedWrite act p r i v := by
  simp [State.aliasWrite, hheld, hforced]

theorem State.aliasWrite_mismatch {w : Nat} (hheld : s.heldBy p = some ⟨p, r.at_ i, v, n⟩)
    (hforced : s.pairForced (r.at_ i) = false) (hne : w ≠ 4294967295 - v) :
    s.aliasWrite act p r i w = { st := (s.dropHeld p).discarded p (r.at_ i) 0, refused := true, effect := false } := by
  simp [State.aliasWrite, hheld, hforced, hne, State.pairDiscard_eq_discarded]

/-- DET 24 of R457 inverts bit 0 of the second write, so that a right one no longer completes the pair. -/
theorem State.aliasWrite_forced (hheld : s.heldBy p = some ⟨p, r.at_ i, v, n⟩) (hforced : s.pairForced (r.at_ i) = true) :
    s.aliasWrite act p r i (4294967295 - v) =
      { st := ((s.dropHeld p).pairDiscardBy (some s.fault.org) p (r.at_ i) 0).pairForcedEnd, refused := true, effect := false } := by
  simp [State.aliasWrite, hheld, hforced, flip0_ne]

theorem State.aliasWrite_other (r : RegDef) (i w : Nat) {h : HeldWrite} (hheld : s.heldBy p = some h) (hne : h.addr ≠ r.at_ i) :
    (s.aliasWrite act p r i w).st = ((s.dropHeld p).discarded p h.addr 1).discarded p (r.at_ i) 2 := by
  simp only [State.aliasWrite, hheld, if_neg hne, State.breakPair_of_heldBy_some hheld, State.pairDiscard_eq_discarded]

theorem State.aliasWrite_nothingHeld (r : RegDef) (i w : Nat) (hheld : s.heldBy p = none) :
    s.aliasWrite act p r i w = { st := s.discarded p (r.at_ i) 2, refused := true, effect := false } := by
  simp only [State.aliasWrite, hheld, State.pairDiscard_eq_discarded]

end

end Sys2Proof.Machine

namespace Sys2Proof.Proofs

open Sys2Proof.Machine

/-- Settles O12: each outcome of R425 is one case of a write to the complement address, of a write to a register or of the time-out. -/
theorem complementPairCompletesOrIsDiscarded : Obligations.ComplementPairCompletesOrIsDiscarded := by
  intro s act p r i v w n
  refine ⟨?first, ?completes, ?mismatch, ?corrupted, ?timeout, ?elsewhere, ?otherAlias, ?noFirst, ?frame⟩
  case first =>
    intro a hreg hprot hlo hhi hheld
    rw [s.regWriteCore_paired act p v hlo hhi hreg hprot, State.breakPair_of_heldBy_none hheld]
    exact ⟨List.find?_cons_of_pos (beq_self_eq_true p), rfl⟩
  case completes =>
    rintro hheld hforced rfl
    exact State.aliasWrite_completes act hheld hforced
  case mismatch =>
    intro hheld hforced hne
    simp only [State.aliasWrite_mismatch act hheld hforced hne, and_self]
  case corrupted =>
    rintro hheld hforced rfl
    simp only [State.aliasWrite_forced act hheld hforced, and_self]
  case timeout => exact fun h hheld => exec_pairTimeout_of_heldBy_some hheld
  case elsewhere =>
    intro h a r' j hheld hlo hhi hreg hprot
    rw [s.regWriteCore_unpaired act p w hlo hhi hreg hprot, State.breakPair_of_heldBy_some hheld]
  case otherAlias => exact fun h hheld hne => State.aliasWrite_other act r i w hheld hne
  case noFirst =>
    intro hheld
    simp only [State.aliasWrite_nothingHeld act r i w hheld, and_self]
  case frame => exact fun s a cause f j hlog hcount => s.geti_discarded_ne p a cause hlog hcount

end Sys2Proof.Proofs
end
